-- ==== Sys2Proof/Word.lean ====
section
/-! DEFINITION. Word.lean: the byte of a frame and the plain numbers the part counts with. -/

namespace Sys2Proof

/-- One data byte of a roof bus frame (spec/09, R158). -/
abbrev Byte := BitVec 8

/-- A time in milliseconds. The part's timers are loaded in whole seconds or in milliseconds; all are held in
milliseconds (log entry 2). -/
abbrev Millis := Nat

end Sys2Proof
end

