-- ==== Sys2Proof/Syntax.lean ====
section
/-! DEFINITION. Syntax.lean: the commands of the part, one constructor for each row of spec/opcode_table.json. -/

namespace Sys2Proof

/-- A unit of the roof. The manual numbers units 1..24 (spec/00, section 3.1); `u.val + 1` is that number. -/
abbrev UnitId := Fin 24

/-- A slot of a unit, 0..3. -/
abbrev Slot := Fin 4

/-- A stage is named by its unit and its slot (spec/00, section 3.1). -/
structure StageId where
  unit : UnitId
  slot : Slot
deriving DecidableEq, Repr

/-- The two lines that are debounced (R52). -/
inductive DebouncedLine where
  | meterPulse
  | intervalMark
deriving DecidableEq, Repr

/-- The frame whose transmission attempt ends: the STOP of the stop slot or the head of the notice queue (R162). -/
inductive TxSource where
  | stopSlot
  | queueHead
deriving DecidableEq, Repr

/-- How a transmission attempt ends (R162). -/
inductive TxOutcome where
  | sent
  | lostArbitration
  | failed
deriving DecidableEq, Repr

/-- A frame as it stands on the roof bus: its form, its identifier and its data (R157, R158). -/
structure Frame where
  remote : Bool
  extended : Bool
  identifier : Nat
  data : List Byte
deriving DecidableEq, Repr

/-- The commands. A frame of a unit carries its node, as a unit, and its data bytes as they were received; a gateway
frame carries its data bytes; both may be malformed (R159), which is the meaning's concern. The expiry of a timer
carries whose timer it is. -/
inductive Instr where
  -- frames of units
  | call (u : UnitId) (data : List Byte)
  | withdraw (u : UnitId) (data : List Byte)
  | started (u : UnitId) (data : List Byte)
  | stopped (u : UnitId) (data : List Byte)
  | trip (u : UnitId) (data : List Byte)
  | tripReset (u : UnitId) (data : List Byte)
  | unitBeacon (u : UnitId) (data : List Byte)
  -- a frame the part does not take
  | foreignFrame (frame : Frame)
  -- gateway commands
  | setCeiling (data : List Byte)
  | setCurtail (data : List Byte)
  | shedOrder (data : List Byte)
  | writeStageElectrical (data : List Byte)
  | writeStageTiming (data : List Byte)
  | writeUnitGroup (data : List Byte)
  | writeSetting (data : List Byte)
  | lockProfiles (data : List Byte)
  | eraseProfiles (data : List Byte)
  | clearUnit (data : List Byte)
  | flushCalls (data : List Byte)
  | querySite (data : List Byte)
  | queryStage (data : List Byte)
  | queryUnit (data : List Byte)
  | queryQueue (data : List Byte)
  | queryOrder (data : List Byte)
  | queryRoster (data : List Byte)
  | queryCounter (data : List Byte)
  | queryDigest (data : List Byte)
  | queryIdentity (data : List Byte)
  | queryTripCollect (data : List Byte)
  -- the bus
  | frameTransmission (source : TxSource) (outcome : TxOutcome)
  | offBusTimerExpiry
  | siteBeaconTimerExpiry
  -- the demand account's timers
  | evaluation
  | rateWindowExpiry
  | silenceTimerExpiry
  | supervisionTimerExpiry
  -- the timers of stages and units
  | restTimerExpiry (st : StageId)
  | runTimerExpiry (st : StageId)
  | confirmTimeout (st : StageId)
  | stopTimeout (st : StageId)
  | windowTimerExpiry (st : StageId)
  | windowGuardExpiry (u : UnitId)
  | missedWindow (u : UnitId)
  -- the timers of the arbiter, the shed controller and the mode controller
  | startSlotExpiry
  | orderTimerExpiry (number : Byte)
  | displacementHoldOffExpiry
  | joinTimerExpiry
  | settleTimerExpiry
  -- the site lines
  | debouncePinChange (line : DebouncedLine) (asserted : Bool)
  | pulseAssertionEdge
  | pulseMinimumWidthReached
  | pulseMaximumWidthReached
  | pulseReleaseEdge
  | markAssertionEdge
  | markReleaseEdge
  | markQualified
  | curtailCodeChange (code : Fin 4)
  | curtailStabilityExpiry
  | powerFailPinChange (asserted : Bool)
  | powerFailQualificationExpiry
  -- the profile store, reset and supply
  | writeCompletion
  | eraseCompletion
  | powerOnReset
  | resetLine (insideCompletion : Bool)
  | supplyLoss (insideCompletion : Bool)
deriving DecidableEq, Repr

end Sys2Proof
end

