-- ==== Sys2Proof/Decode.lean ====
section
/-! DEFINITION. Decode.lean: the receive filter of the roof link, from a frame to its command and back (R157, R158), and the
host's question about table words. -/

namespace Sys2Proof

/-- The command a table word spells. spec/opcode_table.json gives no row any bits, so no word spells a command. -/
def decodeTableWord (_nbits _w : Nat) : Option Instr := none

/-- Which kind codes come from a unit (R157). -/
def unitKind (kind : Nat) : Bool :=
  [1, 4, 5, 6, 7, 8, 10].contains kind

/-- Which kind codes come from the gateway (R157). -/
def gatewayKind (kind : Nat) : Bool :=
  decide (16 ≤ kind) && decide (kind ≤ 27)

/-- A frame has the kind code of its identifier (R157): the identifier is the kind code times 64 plus a node. -/
def Frame.kind (f : Frame) : Nat := f.identifier / 64

/-- The node of a frame's identifier (R157). -/
def Frame.node (f : Frame) : Nat := f.identifier % 64

/-- The roof link takes a frame only if it is a data frame with an 11-bit identifier whose kind and node form a pair
of R157's table. -/
def Frame.taken (f : Frame) : Bool :=
  !f.remote && !f.extended && decide (f.identifier < 2048) &&
    ((unitKind f.kind && decide (1 ≤ f.node) && decide (f.node ≤ 24)) ||
      (gatewayKind f.kind && f.node == 63))

/-- The subject byte of a QUERY's data (R158), 0 where the data holds none; 0 names no subject. -/
def querySubject (data : List Byte) : Nat :=
  match data with
  | subject :: _ => subject.toNat
  | [] => 0

/-- The unit whose node is n, for n in 1..24 (R157). -/
def unitOfNode (n : Nat) : UnitId := Fin.ofNat 24 (n - 1)

/-- The QUERY row a subject byte names (R158). A subject that is none of 1..10 is carried by QUERY_SITE (log entry 17). -/
def queryOfData (d : List Byte) : Instr :=
  match querySubject d with
  | 2 => .queryStage d
  | 3 => .queryUnit d
  | 4 => .queryQueue d
  | 5 => .queryOrder d
  | 6 => .queryRoster d
  | 7 => .queryCounter d
  | 8 => .queryDigest d
  | 9 => .queryIdentity d
  | 10 => .queryTripCollect d
  | _ => .querySite d

/-- The command a frame the filter takes stands for, by its kind code (R157). -/
def takenFrame (f : Frame) : Instr :=
  match f.kind with
  | 1 => .trip (unitOfNode f.node) f.data
  | 4 => .started (unitOfNode f.node) f.data
  | 5 => .stopped (unitOfNode f.node) f.data
  | 6 => .call (unitOfNode f.node) f.data
  | 7 => .withdraw (unitOfNode f.node) f.data
  | 8 => .tripReset (unitOfNode f.node) f.data
  | 10 => .unitBeacon (unitOfNode f.node) f.data
  | 16 => .setCeiling f.data
  | 17 => .setCurtail f.data
  | 18 => .shedOrder f.data
  | 19 => .writeStageElectrical f.data
  | 20 => .writeStageTiming f.data
  | 21 => .writeUnitGroup f.data
  | 22 => .writeSetting f.data
  | 23 => .lockProfiles f.data
  | 24 => .eraseProfiles f.data
  | 25 => .clearUnit f.data
  | 26 => .flushCalls f.data
  | 27 => queryOfData f.data
  | _ => .foreignFrame f

/-- The receive filter (R157): a frame is taken as the command of its kind, and every other frame is foreign. -/
def Instr.ofFrame (f : Frame) : Instr :=
  if f.taken then takenFrame f else .foreignFrame f

/-- The frame of a kind from a node, with its data (R157). -/
def dataFrame (kind node : Nat) (d : List Byte) : Frame :=
  { remote := false, extended := false, identifier := kind * 64 + node, data := d }

/-- A unit's frame: its node is the unit's number (R157). -/
def unitFrame (kind : Nat) (u : UnitId) (d : List Byte) : Frame := dataFrame kind (u.val + 1) d

/-- A gateway frame: its node is 63 (R157). -/
def gatewayFrame (kind : Nat) (d : List Byte) : Frame := dataFrame kind 63 d

/-- The frame that carries a command on the roof bus; none for an event that is no frame. -/
def Instr.toFrame : Instr → Option Frame
  | .trip u d => some (unitFrame 1 u d)
  | .started u d => some (unitFrame 4 u d)
  | .stopped u d => some (unitFrame 5 u d)
  | .call u d => some (unitFrame 6 u d)
  | .withdraw u d => some (unitFrame 7 u d)
  | .tripReset u d => some (unitFrame 8 u d)
  | .unitBeacon u d => some (unitFrame 10 u d)
  | .foreignFrame f => some f
  | .setCeiling d => some (gatewayFrame 16 d)
  | .setCurtail d => some (gatewayFrame 17 d)
  | .shedOrder d => some (gatewayFrame 18 d)
  | .writeStageElectrical d => some (gatewayFrame 19 d)
  | .writeStageTiming d => some (gatewayFrame 20 d)
  | .writeUnitGroup d => some (gatewayFrame 21 d)
  | .writeSetting d => some (gatewayFrame 22 d)
  | .lockProfiles d => some (gatewayFrame 23 d)
  | .eraseProfiles d => some (gatewayFrame 24 d)
  | .clearUnit d => some (gatewayFrame 25 d)
  | .flushCalls d => some (gatewayFrame 26 d)
  | .querySite d | .queryStage d | .queryUnit d | .queryQueue d | .queryOrder d | .queryRoster d | .queryCounter d
  | .queryDigest d | .queryIdentity d | .queryTripCollect d => some (gatewayFrame 27 d)
  | .frameTransmission _ _ | .offBusTimerExpiry | .siteBeaconTimerExpiry | .evaluation | .rateWindowExpiry
  | .silenceTimerExpiry | .supervisionTimerExpiry | .restTimerExpiry _ | .runTimerExpiry _ | .confirmTimeout _
  | .stopTimeout _ | .windowTimerExpiry _ | .windowGuardExpiry _ | .missedWindow _ | .startSlotExpiry
  | .orderTimerExpiry _ | .displacementHoldOffExpiry | .joinTimerExpiry | .settleTimerExpiry | .debouncePinChange _ _
  | .pulseAssertionEdge | .pulseMinimumWidthReached | .pulseMaximumWidthReached | .pulseReleaseEdge | .markAssertionEdge
  | .markReleaseEdge | .markQualified | .curtailCodeChange _ | .curtailStabilityExpiry | .powerFailPinChange _
  | .powerFailQualificationExpiry | .writeCompletion | .eraseCompletion | .powerOnReset | .resetLine _
  | .supplyLoss _ => none

end Sys2Proof
end

