-- ==== Sys2Proof/Config.lean ====
section
/-! DEFINITION. Config.lean: the values the manual leaves open. Each is an opaque constant with no body, applied to
the number of free values drawn so far (State.drawn), so that a claim holds whatever it is. -/

namespace Sys2Proof.Config

/-- Which of the answers of different blocks to one event is taken next (R70, R81 and R108: "in either order").
DESIGN CHOICE: a free value, log entry 3. -/
opaque causeChoice : Nat → Nat

/-- Which of several timers that run out in the same millisecond is taken next.
DESIGN CHOICE: a free value, log entry 4. -/
opaque dueChoice : Nat → Nat

/-- How long past its least time a write stays in flight; only its remainder modulo 3 counts (R169: 7 to 9 ms).
DESIGN CHOICE: a free value inside the stated limits, log entry 5. -/
opaque writeExtra : Nat → Nat

/-- How long past its least time an erase stays in flight; only its remainder modulo 41 counts (R172: 380 to 420 ms).
DESIGN CHOICE: a free value inside the stated limits, log entry 5. -/
opaque eraseExtra : Nat → Nat

end Sys2Proof.Config
end

