-- ==== Sys2Proof/Machine/Params.lean ====
section
/-! DEFINITION. Machine/Params.lean: the capacities and times the rules name, the site settings with their defaults and
ranges (R168), and the numbering of the event counters (R166). -/

namespace Sys2Proof.Machine

/-- A number of whole seconds, in milliseconds. -/
def seconds (n : Nat) : Millis := 1000 * n

/-- A number of minutes, in milliseconds. -/
def minutes (n : Nat) : Millis := 60000 * n

/-- A timer reports whole seconds rounded up (R165). -/
def secondsUp (t : Millis) : Nat := (t + 999) / 1000

/-- The notice queue holds up to 24 notices (R161). -/
def noticeCapacity : Nat := 24

/-- At 20 notices no grant is made and no site beacon is placed (R82, R85, R164). -/
def noticeMark : Nat := 20

/-- The call queue holds up to 32 entries (R64). -/
def callCapacity : Nat := 32

/-- The shed order table holds at most four orders (R103). -/
def orderCapacity : Nat := 4

/-- The feeder keeps up to four roster entries FED (R150). -/
def fedLimit : Nat := 4

/-- At 32 consecutive failures the link goes OFF_BUS (R163). -/
def failureLimit : Nat := 32

/-- The off-bus timer's load (R163). -/
def offBusTime : Millis := seconds 10

/-- The site beacon timer's load (R164). -/
def siteBeaconTime : Millis := seconds 2

/-- The evaluation timer's load (R31). -/
def evaluationTime : Millis := seconds 1

/-- The rate window timer's load (R37). -/
def rateWindowTime : Millis := seconds 60

/-- A change of MPULSE or IMARK becomes an edge when it has held this long (R52). -/
def debounceTime : Millis := 5

/-- A mark is delivered when its closure has lasted this long (R57). -/
def markTime : Millis := 20

/-- The curtail code is qualified when it has stood this long (R58). -/
def stabilityTime : Millis := 1000

/-- The power-fail line is qualified asserted after this time (R60). -/
def failTime : Millis := 500

/-- The power-fail line is qualified deasserted after this time (R60). -/
def restoreTime : Millis := 2000

/-- The largest value of an event counter and of a 16-bit quantity. -/
def max16 : Nat := 65535

/-- The largest energy and arrival stamp (R29, R64). -/
def max32 : Nat := 4294967295

/-- A sum that saturates at a largest value (spec/00, section 5). -/
def satAdd (top a b : Nat) : Nat := min top (a + b)

/-- A value clamped to the nearest end of a range (R160). -/
def clampTo (lo hi v : Nat) : Nat := max lo (min hi v)

/-- The minimum pulse width for a code of setting 6 (R53). -/
def minimumWidth (code : Nat) : Millis :=
  match code with
  | 0 => 10
  | 1 => 20
  | 2 => 40
  | _ => 80

/-- The maximum pulse width for a code of setting 7 (R53). -/
def maximumWidth (code : Nat) : Millis :=
  match code with
  | 0 => 250
  | 1 => 500
  | 2 => 1000
  | _ => 2000

/-- The 25 site settings, in the order of R168's table. -/
inductive Setting where
  | fallbackCeiling | guardBand | intervalLength | markLineUse | pulseWeight
  | minimumWidthCode | maximumWidthCode | silenceTimeout | baseLoadDefault | beaconPeriod
  | errorThreshold | confirmTimeout | stopTimeout | staggerPeriod | restartStaggerPeriod
  | settleDelay | supervisionTimeout | promoteTime | holdBackTime | shedDelay
  | curtailPercent1 | curtailPercent2 | curtailPercent3 | curtailLineLevel | congestionThreshold
deriving DecidableEq, Repr

/-- The settings in the order of their numbers 1..25. -/
def Setting.all : List Setting :=
  [.fallbackCeiling, .guardBand, .intervalLength, .markLineUse, .pulseWeight,
   .minimumWidthCode, .maximumWidthCode, .silenceTimeout, .baseLoadDefault, .beaconPeriod,
   .errorThreshold, .confirmTimeout, .stopTimeout, .staggerPeriod, .restartStaggerPeriod,
   .settleDelay, .supervisionTimeout, .promoteTime, .holdBackTime, .shedDelay,
   .curtailPercent1, .curtailPercent2, .curtailPercent3, .curtailLineLevel, .congestionThreshold]

/-- The place of a setting in the store, one below its number. -/
def Setting.index (x : Setting) : Fin 25 := ⟨x.ctorIdx, by cases x <;> decide⟩

/-- The setting of a number; none for 0 and above 25 (R160). -/
def Setting.ofNumber (n : Nat) : Option Setting :=
  if n = 0 then none else Setting.all[n - 1]?

/-- The default of each setting (R168). -/
def Setting.default : Setting → Nat
  | .fallbackCeiling => 2000
  | .guardBand => 50
  | .intervalLength => 900
  | .markLineUse => 1
  | .pulseWeight => 10
  | .minimumWidthCode => 1
  | .maximumWidthCode => 2
  | .silenceTimeout => 120
  | .baseLoadDefault => 500
  | .beaconPeriod => 5
  | .errorThreshold => 4
  | .confirmTimeout => 30
  | .stopTimeout => 30
  | .staggerPeriod => 10
  | .restartStaggerPeriod => 20
  | .settleDelay => 60
  | .supervisionTimeout => 10
  | .promoteTime => 300
  | .holdBackTime => 120
  | .shedDelay => 10
  | .curtailPercent1 => 10
  | .curtailPercent2 => 25
  | .curtailPercent3 => 40
  | .curtailLineLevel => 2
  | .congestionThreshold => 24

/-- The least and the greatest value of each setting (R168). -/
def Setting.range : Setting → Nat × Nat
  | .fallbackCeiling => (0, 65535)
  | .guardBand => (0, 500)
  | .intervalLength => (300, 1800)
  | .markLineUse => (0, 1)
  | .pulseWeight => (1, 1000)
  | .minimumWidthCode => (0, 3)
  | .maximumWidthCode => (0, 3)
  | .silenceTimeout => (10, 600)
  | .baseLoadDefault => (0, 65535)
  | .beaconPeriod => (2, 30)
  | .errorThreshold => (2, 15)
  | .confirmTimeout => (5, 120)
  | .stopTimeout => (5, 120)
  | .staggerPeriod => (2, 120)
  | .restartStaggerPeriod => (2, 120)
  | .settleDelay => (10, 600)
  | .supervisionTimeout => (1, 60)
  | .promoteTime => (30, 1800)
  | .holdBackTime => (30, 900)
  | .shedDelay => (3, 60)
  | .curtailPercent1 => (0, 90)
  | .curtailPercent2 => (0, 90)
  | .curtailPercent3 => (0, 90)
  | .curtailLineLevel => (1, 3)
  | .congestionThreshold => (8, 31)

/-- The interval length nearest to a value; halfway goes to the longer (R160). -/
def nearestInterval (v : Nat) : Nat :=
  if v < 600 then 300 else if v < 1350 then 900 else 1800

/-- A written setting value as taken, after clamping (R160, R169). -/
def Setting.clamp (x : Setting) (v : Nat) : Nat :=
  if x = .intervalLength then nearestInterval v else clampTo x.range.1 x.range.2 v

/-- The 54 event counters, in the order of their indices 0..53 (R166). -/
inductive Counter where
  -- stage table
  | adoptions | lapses | declines | stopResendsDropped
  -- demand account
  | validPulses | missedMarks | earlyMarks | selfTimedBoundaries | supervisionLapses | estimateEntries
  -- site line monitor
  | noisePulses | stuckReports | markNoise | lineCurtailChanges | powerFailGlitches
  -- call queue
  | queueFullRefusals | promotions | flushedEntries | congestionOnsets
  -- admission arbiter
  | permitsIssued | surgePermits | passesDeferred | blockingHeadOnsets
  -- shed controller
  | demandRevokes | demandStops | shedUnavailable | displacementStops | orderRevokes | orderStops | shedsWaiting
  | ordersExpired | curtailChanges
  -- unit supervisor
  | earlyBeacons | missedWindows | unitErrors | absences | rejoins | anomalies | trips
  -- mode controller
  | outages | replaysBegun | rosterRestored | rosterDropped | replayDeclines | haltedStarts
  -- roof link
  | foreignFrames | malformedUnitFrames | malformedGatewayFrames | noticesDropped | failedTransmissions | busOffEntries
  | beaconsSkipped
  -- profile store
  | writesCompleted | erasesCompleted
deriving DecidableEq, Repr

/-- The index of a counter in QUERY COUNTER (R166). -/
def Counter.index (c : Counter) : Fin 54 := ⟨c.ctorIdx, by cases c <;> decide⟩

end Sys2Proof.Machine
end

