-- ==== Sys2Proof/Machine/Blocks.lean ====
section
/-! DEFINITION. Machine/Blocks.lean: the data each block of the part holds (spec/00, section 2.2), block by block. -/

namespace Sys2Proof.Machine

/-- What a stage is (R2). -/
inductive Kind where
  | none | fan | cool | heatGas | heatElec
deriving DecidableEq, Repr

/-- The profile of a stage (R2): kind, load in 0.1 kW, surge flag, shed class, lead slot, min-on and min-off in seconds. -/
structure Profile where
  kind : Kind
  load : Nat
  surge : Bool
  shedClass : Nat
  lead : Option Slot
  minOn : Nat
  minOff : Nat
deriving DecidableEq, Repr

/-- The seven states of a stage (R4). -/
inductive StageState where
  | idle | queued | granted | running | stopping | held | tripped
deriving DecidableEq, Repr

/-- The reason of a STOP (R158). -/
inductive StopReason where
  | demand | displace | order
deriving DecidableEq, Repr

/-- A stage record (R2). `stopReason` is the reason of the last STOP the stage took, which R18 sends again (log entry 9). -/
structure Stage where
  working : Profile
  pendingProfile : Bool
  state : StageState
  rest : Millis
  run : Millis
  handshake : Millis
  token : Option Nat
  withdrawn : Option Nat
  window : Millis
  withdrawnByReplay : Bool
  rosterFlag : Bool
  stopReason : Option StopReason
deriving DecidableEq, Repr

/-- The stage table: 96 records, the committed sums (R10) and the run order list, earliest first (R11). -/
structure StageTable where
  records : Vector Stage 96
  cRun : Nat
  cPend : Nat
  runOrder : List StageId
deriving DecidableEq, Repr

/-- A call entry (R64). -/
structure CallEntry where
  stage : StageId
  cls : Nat
  stamp : Nat
  waitAge : Nat
  passedOver : Nat
  replay : Bool
deriving DecidableEq, Repr

/-- The call queue: its entries from the head (R65), the arrival counter (R66) and the congestion flag (R76). -/
structure CallQueue where
  entries : List CallEntry
  arrival : Nat
  congested : Bool
deriving DecidableEq, Repr

/-- The pass causes, in the order of R81's table. -/
inductive PassCause where
  | evaluation | entry | startSlot | stageChange | restExpiry | orderLeft | linkSpace | admittingMode
deriving DecidableEq, Repr

/-- The shed check causes of R108. -/
inductive CheckCause where
  | evaluation | settled | orderTaken | stopRoom | linkReturned | admittingMode
deriving DecidableEq, Repr

/-- A notice between blocks that is still to be acted on: the call queue's ageing (R70), an admission pass (R81) or a
shed check (R108). -/
inductive Cause where
  | ageing
  | pass (cause : PassCause)
  | check (cause : CheckCause)
deriving DecidableEq, Repr

/-- The pacing gate (R95). -/
inductive Gate where
  | running | stopped
deriving DecidableEq, Repr

/-- A blocking head and its working load (R92). -/
structure Marker where
  stage : StageId
  load : Nat
deriving DecidableEq, Repr

/-- The last pass record (R80). -/
structure PassRecord where
  cause : Option PassCause
  headroomAtStart : Int
  guardBand : Nat
  grants : Nat
  headroomAtEnd : Int
  blockingHead : Option StageId
deriving DecidableEq, Repr

/-- The admission arbiter (R80). -/
structure Arbiter where
  tokenCounter : Nat
  pacing : Millis
  gate : Gate
  slotFlag : Bool
  marker : Option Marker
  lastPass : PassRecord
deriving DecidableEq, Repr

/-- What closed an interval (R32). -/
inductive BoundaryCause where
  | mark | selfTimed | clock
deriving DecidableEq, Repr

/-- The closed-interval record (R29). -/
structure ClosedInterval where
  energy : Nat
  elapsed : Nat
  cause : BoundaryCause
deriving DecidableEq, Repr

/-- Whether the gateway is setting the ceiling (R29). -/
inductive Supervision where
  | supervised | standalone
deriving DecidableEq, Repr

/-- Why the metering state is ESTIMATED (R29). -/
inductive EstimateCause where
  | silent | stuck
deriving DecidableEq, Repr

/-- The metering state; the estimate cause is present only in ESTIMATED (R29). -/
inductive Metering where
  | metered
  | estimated (cause : EstimateCause)
deriving DecidableEq, Repr

/-- The demand account (R29). Powers are in 0.1 kW, energies in hJ, `elapsed` and `intervalLength` in seconds. -/
structure Account where
  intervalLength : Nat
  pendingLength : Option Nat
  elapsed : Nat
  energy : Nat
  closed : ClosedInterval
  rateWindow : Millis
  windowEnergy : Nat
  windowMetered : Bool
  measured : Nat
  uncontrolled : Nat
  ceiling : Nat
  supervision : Supervision
  supervisionTimer : Millis
  metering : Metering
  stuckStanding : Bool
  silence : Millis
  effectiveCeiling : Nat
  allowance : Int
  persistence : Nat
  evaluationTimer : Millis
deriving DecidableEq, Repr

/-- What a shed order does to its stages (R103). -/
inductive OrderAction where
  | hold | stop
deriving DecidableEq, Repr

/-- A shed order (R103). The kind set has FAN, COOL, HEAT_GAS and HEAT_ELEC in bits 0 to 3. -/
structure ShedOrder where
  number : Byte
  groupValue : Byte
  groupMask : Byte
  kindSet : Byte
  action : OrderAction
  timer : Millis
deriving DecidableEq, Repr

/-- The shed controller (R99); `lambda` is the resolved curtail level. -/
structure Shed where
  lineLevel : Nat
  gatewayLevel : Nat
  lambda : Nat
  orders : List ShedOrder
  holdOff : Millis
deriving DecidableEq, Repr

/-- The presence of a unit (R122). -/
inductive Presence where
  | unknown | present | absent | awaiting
deriving DecidableEq, Repr

/-- Where a unit stands in its beacon window (R123). -/
inductive WindowPhase where
  | none | guard | opened
deriving DecidableEq, Repr

/-- An uncollected trip: its slot bitmap and cause (R133). -/
structure TripRecord where
  slots : Byte
  cause : Nat
deriving DecidableEq, Repr

/-- A unit record (R120). `period` is the window period in seconds. -/
structure UnitRec where
  presence : Presence
  phase : WindowPhase
  window : Millis
  period : Nat
  errors : Nat
  tripSlot : Option TripRecord
  furtherTrips : Nat
  anomaly : Bool
  group : Byte
deriving DecidableEq, Repr

/-- The unit supervisor: 24 unit records and the attention flag (R120, R135). -/
structure Supervisor where
  records : Vector UnitRec 24
  attention : Bool
deriving DecidableEq, Repr

/-- The pulse state of the meter pulse line (R53). -/
inductive PulseState where
  | released | timing | valid | stuck
deriving DecidableEq, Repr

/-- The record of the meter pulse line (R51); `debounce` is the time left of a change that is being debounced (R52). -/
structure PulseLine where
  level : Bool
  debounce : Millis
  state : PulseState
  width : Millis
deriving DecidableEq, Repr

/-- The mark state of the interval mark line (R57). -/
inductive MarkState where
  | released | timing | marked
deriving DecidableEq, Repr

/-- The record of the interval mark line (R51). -/
structure MarkLine where
  level : Bool
  debounce : Millis
  state : MarkState
  timer : Millis
deriving DecidableEq, Repr

/-- The record of the curtail lines (R51). -/
structure CurtailLine where
  qualified : Fin 4
  candidate : Option (Fin 4)
  stability : Millis
  delivered : Nat
deriving DecidableEq, Repr

/-- The power-fail state (R60). -/
inductive PowerFailState where
  | normal | failPending | failed | restorePending
deriving DecidableEq, Repr

/-- The record of the power-fail line (R51). -/
structure PowerFailLine where
  state : PowerFailState
  timer : Millis
deriving DecidableEq, Repr

/-- The site line monitor: one record for each line (R51). -/
structure Lines where
  pulse : PulseLine
  mark : MarkLine
  curtail : CurtailLine
  powerFail : PowerFailLine
deriving DecidableEq, Repr

/-- The levels at the site input pins, true for asserted; CURT0 and CURT1 are read together as a code (R58). -/
structure Pins where
  pulse : Bool
  mark : Bool
  curtail : Fin 4
  powerFail : Bool
deriving DecidableEq, Repr

/-- The coordinator mode (R140). -/
inductive Mode where
  | startup | coordinating | mainsOff | settling | replay | halted
deriving DecidableEq, Repr

/-- The outcome of a roster entry (R144). -/
inductive RosterOutcome where
  | waiting | fed | restored | dropped
deriving DecidableEq, Repr

/-- A roster entry (R144). -/
structure RosterEntry where
  stage : StageId
  outcome : RosterOutcome
deriving DecidableEq, Repr

/-- What caused the last reset (R140). -/
inductive ResetCause where
  | powerOn | resetLine
deriving DecidableEq, Repr

/-- The mode controller (R140); `timer` is the join timer in STARTUP and the settle timer in SETTLING; `fallback` is true
while the fallback output is asserted (R155). -/
structure Modes where
  mode : Mode
  timer : Millis
  roster : List RosterEntry
  readPosition : Nat
  fedCount : Nat
  resetCause : ResetCause
  fallback : Bool
deriving DecidableEq, Repr

/-- The reason of a DEFER (R158). -/
inductive DeferReason where
  | queued | queueFull | noProfile | tripped | running | stopping | absent | flushed | badToken | invalid
deriving DecidableEq, Repr

/-- The status of an ANSWER (R158). -/
inductive Status where
  | ok | clamped | busy | locked | full | notFound | invalid | halted
deriving DecidableEq, Repr

/-- The fields of a SITE BEACON (R158, R164); the headroom is already clamped. -/
structure SiteBeacon where
  mode : Mode
  supervision : Supervision
  metering : Metering
  lambda : Nat
  headroom : Int
  queueLength : Nat
  congested : Bool
  attention : Bool
deriving DecidableEq, Repr

/-- A STOP for a stage, with its reason and token, 0 for none (R158, R8). -/
structure StopFrame where
  stage : StageId
  reason : StopReason
  token : Nat
deriving DecidableEq, Repr

/-- A notice: a complete frame ready to send (R161). The slot of a DEFER is a byte, since a malformed frame's slot field is
carried back as it came (R159). The data of an ANSWER are six bytes. -/
inductive Notice where
  | permit (stage : StageId) (token : Nat) (confirmSeconds : Nat)
  | stop (frame : StopFrame)
  | defer (unit : UnitId) (slot : Byte) (reason : DeferReason)
  | siteBeacon (beacon : SiteBeacon)
  | answer (kind : Nat) (status : Status) (data : List Byte)
deriving DecidableEq, Repr

/-- The link state (R163). -/
inductive LinkState where
  | onBus | offBus
deriving DecidableEq, Repr

/-- The roof link. `headAttempt` is set while a transmission of the queue's head may be under way: since the last attempt
ended there has been a moment with the stop slot empty and a notice in the queue (R162, log entry 6). -/
structure Link where
  state : LinkState
  failures : Nat
  offBusTimer : Millis
  queue : List Notice
  stopSlot : Option StopFrame
  beaconTimer : Millis
  headAttempt : Bool
deriving DecidableEq, Repr

/-- The item and value a write in flight carries (R168, R169). -/
inductive StoreItem where
  | electrical (st : StageId) (kind : Kind) (load : Nat) (surge : Bool) (shedClass : Nat) (lead : Option Slot)
  | timing (st : StageId) (minOn minOff : Nat)
  | group (u : UnitId) (code : Byte)
  | setting (x : Setting) (value : Nat)
deriving DecidableEq, Repr

/-- What the store has in flight (R168). -/
inductive Operation where
  | write (item : StoreItem)
  | erase
deriving DecidableEq, Repr

/-- The operation in flight, the time it has been in flight, and the free value its whole time comes from (log entry 5). -/
structure Flight where
  operation : Operation
  elapsed : Millis
  drawn : Nat
deriving DecidableEq, Repr

/-- The profile store (R168). Everything but `flight` and `recomputed` is nonvolatile. -/
structure Store where
  profiles : Vector Profile 96
  groups : Vector Byte 24
  settings : Vector Nat 25
  digest : Nat
  completionMark : Bool
  lock : Bool
  flight : Option Flight
  recomputed : Nat
deriving DecidableEq, Repr

end Sys2Proof.Machine
end

