-- ==== Sys2Proof/Machine/ResetValues.lean ====
section
/-! DEFINITION. Machine/ResetValues.lean: what each block holds after a reset (R28, R50, R61, R79, R98, R119, R139, R156, R167,
R174), and the digest the start-up check compares (R173). -/

namespace Sys2Proof

/-- The place of a stage in the stage table: four slots a unit. -/
def StageId.index (st : StageId) : Fin 96 := ⟨4 * st.unit.val + st.slot.val, by omega⟩

/-- The stage code: the unit number times 4 plus the slot, 4..99 (R158). -/
def StageId.code (st : StageId) : Nat := 4 * (st.unit.val + 1) + st.slot.val

/-- The four slots, in slot order. -/
def slots : List Slot := [0, 1, 2, 3]

/-- The units in the order of their numbers. -/
def units : List UnitId := List.finRange 24

/-- The stages of a unit, in slot order. -/
def stagesOf (u : UnitId) : List StageId := slots.map fun k => { unit := u, slot := k }

/-- All 96 stages, by unit and then by slot. -/
def allStages : List StageId := units.flatMap stagesOf

namespace Machine

/-- A table rewritten entry by entry. -/
def mapTable {α β : Type} {n : Nat} (f : α → β) (v : Vector α n) : Vector β n :=
  ⟨⟨v.toList.map f⟩, by simp⟩

/-- The code of a kind (R158). -/
def Kind.code : Kind → Nat
  | .none => 0
  | .fan => 1
  | .cool => 2
  | .heatGas => 3
  | .heatElec => 4

/-- The erased value of a stage profile (R168). -/
def erasedProfile : Profile :=
  { kind := .none, load := 1, surge := false, shedClass := 3, lead := none, minOn := 180, minOff := 300 }

/-- The erased values of the settings: their defaults (R168). -/
def defaultSettings : Vector Nat 25 := ⟨⟨Setting.all.map Setting.default⟩, by decide⟩

/-- A setting as stored (R168). -/
def Store.setting (store : Store) (x : Setting) : Nat := store.settings[x.index]

/-- The stored profile of a stage. -/
def Store.profile (store : Store) (st : StageId) : Profile := store.profiles[st.index]

/-- The stored group code of a unit. -/
def Store.group (store : Store) (u : UnitId) : Byte := store.groups[u]

/-- What a stage's profile adds to the digest's sum; a stage of kind NONE adds 0 (R173). -/
def Profile.digestTerm (p : Profile) : Nat :=
  if p.kind = .none then 0
  else p.kind.code + p.load + p.surge.toNat + p.minOn + p.minOff + p.shedClass +
    (match p.lead with | none => 0 | some k => k.val + 1)

/-- The digest of a store's contents: 65536 less the sum, modulo 65536 (R173). -/
def Store.contentsDigest (store : Store) : Nat :=
  let sum := (store.profiles.toList.map Profile.digestTerm).sum + (store.groups.toList.map BitVec.toNat).sum +
    store.settings.toList.sum
  (65536 - sum % 65536) % 65536

/-- An erased store: erased profiles, codes 0, settings at their defaults, lock clear, digest 61252 (R168, R172). -/
def erasedStore : Store :=
  { profiles := Vector.replicate 96 erasedProfile, groups := Vector.replicate 24 0, settings := defaultSettings,
    digest := 61252, completionMark := true, lock := false, flight := none, recomputed := 61252 }

/-- The store after a reset: nothing in flight, and the digest of the contents found anew (R174). -/
def Store.afterReset (store : Store) : Store :=
  { store with flight := none, recomputed := store.contentsDigest }

/-- The start-up check passes when the completion mark is set and the recomputed digest equals the stored one (R174). -/
def Store.checkPasses (store : Store) : Bool := store.completionMark && store.recomputed == store.digest

/-- A stage record after a reset, from its stored profile (R28). The rest timer is loaded with min-off for a stage in use
(R5); a load of 0 expires at once and finds no pass to make in STARTUP or HALTED (R98). -/
def Stage.afterReset (p : Profile) : Stage :=
  { working := p, pendingProfile := false, state := .idle,
    rest := if p.kind = .none then 0 else seconds p.minOff, run := 0, handshake := 0,
    token := none, withdrawn := none, window := 0, withdrawnByReplay := false, rosterFlag := false, stopReason := none }

/-- The stage table after a reset (R28). -/
def StageTable.afterReset (store : Store) : StageTable :=
  { records := mapTable Stage.afterReset store.profiles, cRun := 0, cPend := 0, runOrder := [] }

/-- The call queue after a reset (R79). -/
def CallQueue.afterReset : CallQueue := { entries := [], arrival := 0, congested := false }

/-- The last pass record after a reset (R98). -/
def PassRecord.afterReset : PassRecord :=
  { cause := none, headroomAtStart := 0, guardBand := 0, grants := 0, headroomAtEnd := 0, blockingHead := none }

/-- The admission arbiter after a reset (R98). -/
def Arbiter.afterReset (store : Store) : Arbiter :=
  { tokenCounter := 1, pacing := seconds (store.setting .staggerPeriod), gate := .running, slotFlag := false,
    marker := none, lastPass := .afterReset }

/-- The demand account after a reset (R50). -/
def Account.afterReset (store : Store) : Account :=
  { intervalLength := store.setting .intervalLength, pendingLength := none, elapsed := 0, energy := 0,
    closed := { energy := 0, elapsed := 0, cause := .clock }, rateWindow := rateWindowTime, windowEnergy := 0,
    windowMetered := true, measured := 0, uncontrolled := store.setting .baseLoadDefault,
    ceiling := store.setting .fallbackCeiling, supervision := .standalone, supervisionTimer := 0, metering := .metered,
    stuckStanding := false, silence := seconds (store.setting .silenceTimeout),
    effectiveCeiling := store.setting .fallbackCeiling, allowance := store.setting .fallbackCeiling, persistence := 0,
    evaluationTimer := evaluationTime }

/-- The shed controller after a reset (R119). -/
def Shed.afterReset : Shed := { lineLevel := 0, gatewayLevel := 0, lambda := 0, orders := [], holdOff := 0 }

/-- A unit record after a reset (R139). -/
def UnitRec.afterReset (store : Store) (code : Byte) : UnitRec :=
  { presence := .unknown, phase := .none, window := 0, period := store.setting .beaconPeriod, errors := 0,
    tripSlot := none, furtherTrips := 0, anomaly := false, group := code }

/-- The unit supervisor after a reset (R139). -/
def Supervisor.afterReset (store : Store) : Supervisor :=
  { records := mapTable (UnitRec.afterReset store) store.groups, attention := false }

/-- The site line monitor after a reset: every record at rest, and every pin found away from its rest level taken as a
change at that moment (R61). DESIGN CHOICE, log entry 30: the stability timer and the qualification timer of a pin at rest start
at 0, for which R61 gives no value. -/
def Lines.afterReset (pins : Pins) : Lines :=
  { pulse := { level := false, debounce := if pins.pulse then debounceTime else 0, state := .released, width := 0 },
    mark := { level := false, debounce := if pins.mark then debounceTime else 0, state := .released, timer := 0 },
    curtail := { qualified := 0, candidate := if pins.curtail = 0 then none else some pins.curtail,
                 stability := if pins.curtail = 0 then 0 else stabilityTime, delivered := 0 },
    powerFail := if pins.powerFail then { state := .failPending, timer := failTime } else { state := .normal, timer := 0 } }

/-- The join timer's load: three beacon periods (R142). -/
def Store.joinTime (store : Store) : Millis := seconds (3 * store.setting .beaconPeriod)

/-- The mode controller after a reset: STARTUP on a passed check, HALTED on a failed one (R142, R143, R156). -/
def Modes.afterReset (store : Store) (cause : ResetCause) : Modes :=
  { mode := if store.checkPasses then .startup else .halted, timer := if store.checkPasses then store.joinTime else 0,
    roster := [], readPosition := 0, fedCount := 0, resetCause := cause, fallback := true }

/-- The roof link after a reset (R167). -/
def Link.afterReset : Link :=
  { state := .onBus, failures := 0, offBusTimer := 0, queue := [], stopSlot := none, beaconTimer := siteBeaconTime,
    headAttempt := false }

/-- The event counters after a reset: all 0, but halted starts, which is 1 after a reset that enters HALTED (R156). -/
def countersAfterReset (store : Store) : Vector Nat 54 :=
  let zero := Vector.replicate 54 0
  if store.checkPasses then zero else zero.set Counter.haltedStarts.index 1

end Machine
end Sys2Proof
end

