-- ==== Sys2Proof/Machine/State.lean ====
section
/-! DEFINITION. Machine/State.lean: the state of the part as plain data, the reasons a step could stop, and the state after
reset. -/

namespace Sys2Proof.Machine

/-- Why a command faults. The part has no fault: a wrong frame is answered or ignored (R157, R159), so no command raises one
and the type is empty. -/
inductive Fault where
deriving DecidableEq, Repr

/-- Why a command is refused. -/
inductive Refusal where
  /-- Raised by an arm of exec whose command has no meaning yet; safe, since nothing can be proved of what follows. No arm
  raises it. -/
  | notModelled (mnemonic : String)
deriving DecidableEq, Repr

/-- The state of the part: the ten blocks of spec/00 section 2.2, the event counters, the supply and the pins. The last three
fields are the model's own: the notices given and not yet acted on (log entry 3), the number of free values drawn (log
entries 3 to 5) and the commands that wait (log entry 2). -/
structure State where
  supplied : Bool
  pins : Pins
  stages : StageTable
  calls : CallQueue
  arbiter : Arbiter
  account : Account
  shed : Shed
  supervisor : Supervisor
  lines : Lines
  modes : Modes
  link : Link
  store : Store
  counters : Vector Nat 54
  causes : List Cause
  drawn : Nat
  pending : List Instr
deriving DecidableEq, Repr

/-- The state a reset leaves, from the store's nonvolatile contents and the pins (R28, R50, R61, R79, R98, R119, R139, R156,
R167, R174). -/
def State.afterReset (store : Store) (pins : Pins) (cause : ResetCause) (drawn : Nat) (pending : List Instr) : State :=
  let store := store.afterReset
  { supplied := true, pins := pins, stages := .afterReset store, calls := .afterReset, arbiter := .afterReset store,
    account := .afterReset store, shed := .afterReset, supervisor := .afterReset store, lines := .afterReset pins,
    modes := .afterReset store cause, link := .afterReset, store := store, counters := countersAfterReset store,
    causes := [], drawn := drawn, pending := pending }

/-- Every pin at its rest level. DESIGN CHOICE: the pins are inputs, log entry 8. -/
def Pins.atRest : Pins := { pulse := false, mark := false, curtail := 0, powerFail := false }

/-- The part right after a power-on reset. DESIGN CHOICE: with an erased store (log entry 7), every pin at rest (log entry 8),
no command waiting and no free value drawn. -/
def State.reset : State := .afterReset erasedStore .atRest .powerOn 0 []

end Sys2Proof.Machine
end

