-- ==== Sys2Proof/Machine/Access.lean ====
section
/-! DEFINITION. Machine/Access.lean: reading the state and changing one block of it. Every other definition reads and writes the
state through these. -/

namespace Sys2Proof.Machine

/-- Change the stage table. -/
def State.onStages (f : StageTable → StageTable) (s : State) : State := { s with stages := f s.stages }

/-- Change the call queue. -/
def State.onCalls (f : CallQueue → CallQueue) (s : State) : State := { s with calls := f s.calls }

/-- Change the admission arbiter. -/
def State.onArbiter (f : Arbiter → Arbiter) (s : State) : State := { s with arbiter := f s.arbiter }

/-- Change the demand account. -/
def State.onAccount (f : Account → Account) (s : State) : State := { s with account := f s.account }

/-- Change the shed controller. -/
def State.onShed (f : Shed → Shed) (s : State) : State := { s with shed := f s.shed }

/-- Change the unit supervisor. -/
def State.onSupervisor (f : Supervisor → Supervisor) (s : State) : State := { s with supervisor := f s.supervisor }

/-- Change the site line monitor. -/
def State.onLines (f : Lines → Lines) (s : State) : State := { s with lines := f s.lines }

/-- Change the mode controller. -/
def State.onModes (f : Modes → Modes) (s : State) : State := { s with modes := f s.modes }

/-- Change the roof link. -/
def State.onLink (f : Link → Link) (s : State) : State := { s with link := f s.link }

/-- Change the profile store. -/
def State.onStore (f : Store → Store) (s : State) : State := { s with store := f s.store }

/-- Change the levels at the pins. -/
def State.onPins (f : Pins → Pins) (s : State) : State := { s with pins := f s.pins }

/-- Raise an event counter by one; it saturates at 65535 (spec/00, section 5). -/
def State.bump (c : Counter) (s : State) : State :=
  { s with counters := s.counters.set c.index (satAdd max16 s.counters[c.index] 1) }

/-- The value of an event counter. -/
def State.counter (s : State) (c : Counter) : Nat := s.counters[c.index]

/-- Give a notice to another block, to be acted on within this command (R81, R108, R70). -/
def State.give (c : Cause) (s : State) : State := { s with causes := s.causes ++ [c] }

/-- A setting in force: the stored value (R168). -/
def State.setting (s : State) (x : Setting) : Nat := s.store.setting x

/-- A setting in seconds, as a timer's load. -/
def State.settingTime (s : State) (x : Setting) : Millis := seconds (s.setting x)

/-- The record of a stage (R2). -/
def StageTable.get (t : StageTable) (st : StageId) : Stage := t.records[st.index]

/-- The record of a stage (R2). -/
def State.stage (s : State) (st : StageId) : Stage := s.stages.get st

/-- The record of a unit (R120). -/
def State.unit (s : State) (u : UnitId) : UnitRec := s.supervisor.records[u]

/-- The coordinator mode (R140). -/
def State.mode (s : State) : Mode := s.modes.mode

/-- The call entry of a stage, if it has one (R64). -/
def State.callOf (s : State) (st : StageId) : Option CallEntry := s.calls.entries.find? fun e => e.stage == st

/-- A mode in which passes and shed checks are made (R82, R108). -/
def Mode.admits (m : Mode) : Bool :=
  match m with
  | .coordinating | .replay => true
  | .startup | .mainsOff | .settling | .halted => false

/-- The link is ON_BUS (R163). -/
def State.onBus (s : State) : Bool := s.link.state == .onBus

/-- The metering state is ESTIMATED (R29). -/
def Metering.isEstimated (m : Metering) : Bool :=
  match m with
  | .metered => false
  | .estimated _ => true

end Sys2Proof.Machine
end

