-- ==== Sys2Proof/Machine/Flags.lean ====
section
/-! DEFINITION. Machine/Flags.lean: the quantities formed from others: the committed sums' shares and the run order list, the
congestion, attention and fallback flags, the resolved curtail level, the allowance and the headroom. -/

namespace Sys2Proof.Machine

/-- The states whose load is counted in C_run (R4, R10). -/
def StageState.countsRunning : StageState → Bool
  | .running | .stopping | .held => true
  | .idle | .queued | .granted | .tripped => false

/-- The states in the run order list (R11). -/
def StageState.listed : StageState → Bool
  | .granted | .running | .stopping | .held => true
  | .idle | .queued | .tripped => false

/-- What a stage adds to C_run (R10). -/
def Stage.runLoad (r : Stage) : Nat := if r.state.countsRunning then r.working.load else 0

/-- What a stage adds to C_pend (R10). -/
def Stage.pendLoad (r : Stage) : Nat := if r.state = .granted then r.working.load else 0

/-- A RUNNING stage is settled while its run timer is at zero (R6). -/
def Stage.settled (r : Stage) : Bool := r.state == .running && r.run == 0

/-- Put a record into the stage table. The committed sums (R10) and the run order list (R11) change in the same transition as
the state: a stage that comes into a listed state joins the list's end, one that leaves such a state leaves the list, and a
passage between listed states keeps its place. -/
def StageTable.put (t : StageTable) (st : StageId) (r : Stage) : StageTable :=
  let old := t.get st
  { records := t.records.set st.index r
    cRun := t.cRun - old.runLoad + r.runLoad
    cPend := t.cPend - old.pendLoad + r.pendLoad
    runOrder :=
      if r.state.listed then (if old.state.listed then t.runOrder else t.runOrder ++ [st])
      else if old.state.listed then t.runOrder.filter (fun x => x != st) else t.runOrder }

/-- Change a stage's record. -/
def State.onStage (st : StageId) (f : Stage → Stage) (s : State) : State :=
  s.onStages fun t => t.put st (f (t.get st))

/-- Change a unit's record. -/
def State.onUnit (u : UnitId) (f : UnitRec → UnitRec) (s : State) : State :=
  s.onSupervisor fun v => { v with records := v.records.set u (f v.records[u]) }

/-- Form the attention flag again: set while any trip slot holds a record or any anomaly flag is set (R135). -/
def State.formAttention (s : State) : State :=
  s.onSupervisor fun v =>
    { v with attention := v.records.toList.any fun r => r.tripSlot.isSome || r.anomaly }

/-- Form the congestion flag again: set while the queue length is at or above the congestion threshold; each change from clear
to set is counted (R76). -/
def State.formCongestion (s : State) : State :=
  let flag := decide (s.setting .congestionThreshold ≤ s.calls.entries.length)
  let s' := s.onCalls fun q => { q with congested := flag }
  if flag && !s.calls.congested then s'.bump .congestionOnsets else s'

/-- Set the entries of the call queue; the congestion flag follows in the same event (R73, R76). -/
def State.setEntries (entries : List CallEntry) (s : State) : State :=
  (s.onCalls fun q => { q with entries := entries }).formCongestion

/-- Form the fallback output again: asserted in STARTUP and HALTED and while the link is OFF_BUS (R155). -/
def State.formFallback (s : State) : State :=
  s.onModes fun m => { m with fallback := m.mode == .startup || m.mode == .halted || s.link.state == .offBus }

/-- The level of the fallback pin, true for asserted: the output the controller drives, but deasserted without supply (R63). -/
def State.fallbackPin (s : State) : Bool := s.supplied && s.modes.fallback

/-- Form the resolved curtail level again: the greater of the line's and the gateway's; a change is counted (R100). -/
def State.formLambda (s : State) : State :=
  let level := max s.shed.lineLevel s.shed.gatewayLevel
  if level = s.shed.lambda then s
  else (s.onShed fun d => { d with lambda := level }).bump .curtailChanges

/-- The curtail percentage of the resolved level (R45). -/
def State.curtailPercent (s : State) : Nat :=
  match s.shed.lambda with
  | 0 => 0
  | 1 => s.setting .curtailPercent1
  | 2 => s.setting .curtailPercent2
  | _ => s.setting .curtailPercent3

/-- The effective ceiling K_eff (R45). -/
def effectiveCeilingOf (ceiling percent : Nat) : Nat := ceiling * (100 - percent) / 100

/-- The remaining energy E_rem of an interval (R46). -/
def remainingEnergy (effective length energy : Nat) : Int := (effective * length : Nat) - (energy : Int)

/-- The effective remaining time R of an interval (R46). -/
def remainingTime (length elapsed : Nat) : Nat := if length - elapsed < 60 then 60 else length - elapsed

/-- The allowance A: the quotient rounded toward minus infinity, limited by K_eff above and by -65535 below (R47). -/
def allowanceOf (effective length elapsed energy : Nat) : Int :=
  let quotient := Int.fdiv (remainingEnergy effective length energy) (remainingTime length elapsed)
  if (effective : Int) < quotient then effective else if quotient < -65535 then -65535 else quotient

/-- Recompute the effective ceiling and the allowance (R45 to R47). -/
def State.recomputeAllowance (s : State) : State :=
  let effective := effectiveCeilingOf s.account.ceiling s.curtailPercent
  s.onAccount fun a =>
    { a with effectiveCeiling := effective, allowance := allowanceOf effective a.intervalLength a.elapsed a.energy }

/-- The headroom H (R48). -/
def State.headroom (s : State) : Int :=
  s.account.allowance - ((s.account.uncontrolled + s.stages.cRun + s.stages.cPend : Nat) : Int)

end Sys2Proof.Machine
end

