-- ==== Sys2Proof/Machine/Operands.lean ====
section
/-! DEFINITION. Machine/Operands.lean: the data fields of the frames the part takes, with the form check of R159, and the
layout of the frames it sends (R157, R158). A reader of fields answers none for a malformed frame. -/

namespace Sys2Proof.Machine

/-- A number as one data byte. -/
def byteOf (n : Nat) : Byte := BitVec.ofNat 8 n

/-- A two-byte field, most significant byte first (R158). -/
def twoBytes (n : Nat) : List Byte := [byteOf (n / 256), byteOf n]

/-- A four-byte field, most significant byte first (R158). -/
def fourBytes (n : Nat) : List Byte := [byteOf (n / 16777216), byteOf (n / 65536), byteOf (n / 256), byteOf n]

/-- A signed two-byte field, two's complement (R158). -/
def twoBytesSigned (i : Int) : List Byte := twoBytes (i % 65536).toNat

/-- A signed four-byte field, two's complement (R158). -/
def fourBytesSigned (i : Int) : List Byte := fourBytes (i % 4294967296).toNat

/-- The value of a two-byte field, most significant byte first (R158). -/
def wordOf (hi lo : Byte) : Nat := hi.toNat * 256 + lo.toNat

/-- A flag as a byte: clear 0, set 1 (R158). -/
def flagByte (b : Bool) : Byte := byteOf b.toNat

/-- A token as a byte; 0 stands for none (R158). -/
def tokenByte (t : Option Nat) : Byte := byteOf (t.getD 0)

/-- The six data bytes of an ANSWER; a byte that no field names is 0 (R158). -/
def answerData (d : List Byte) : List Byte := (d ++ List.replicate 6 0).take 6

/-- A slot bitmap names a slot by its bit, slot 0 in the lowest (R158). -/
def namesSlot (bitmap : Byte) (k : Slot) : Bool := bitmap.getLsbD k.val

/-- The slots a bitmap names, in slot order. -/
def slotsOf (bitmap : Byte) : List Slot := slots.filter (namesSlot bitmap)

/-- The lowest slot a bitmap names, for the DEFER of a refused TRIP or TRIP RESET (R122). -/
def lowestSlot (bitmap : Byte) : Slot := (slotsOf bitmap).headD 0

/-- A slot number, none above 3. -/
def slotOf (b : Byte) : Option Slot := if h : b.toNat < 4 then some ⟨b.toNat, h⟩ else none

/-- A unit number 1..24, none outside. -/
def unitOf (b : Byte) : Option UnitId := if h : 1 ≤ b.toNat ∧ b.toNat ≤ 24 then some ⟨b.toNat - 1, by omega⟩ else none

/-- A stage code 4..99 (R158), none outside. -/
def stageOfCode (n : Nat) : Option StageId :=
  if h : 4 ≤ n ∧ n ≤ 99 then some { unit := ⟨n / 4 - 1, by omega⟩, slot := ⟨n % 4, by omega⟩ } else none

/-- A kind code 0..4 (R158), none above. -/
def kindOf (b : Byte) : Option Kind :=
  match b.toNat with
  | 0 => some .none
  | 1 => some .fan
  | 2 => some .cool
  | 3 => some .heatGas
  | 4 => some .heatElec
  | _ => none

/-! ### Frames of units -/

/-- STOPPED, CALL and WITHDRAW: one byte, a slot 0..3 (R158, R159). -/
def slotFields (d : List Byte) : Option Slot :=
  match d with
  | [slot] => slotOf slot
  | _ => none

/-- STARTED: a slot 0..3 and a token (R158, R159). -/
def startedFields (d : List Byte) : Option (Slot × Nat) :=
  match d with
  | [slot, token] => (slotOf slot).map fun k => (k, token.toNat)
  | _ => none

/-- TRIP: a bitmap 1..15 and a cause 1..7 (R158, R159). -/
def tripFields (d : List Byte) : Option (Byte × Nat) :=
  match d with
  | [bitmap, cause] =>
    if 1 ≤ bitmap.toNat ∧ bitmap.toNat ≤ 15 ∧ 1 ≤ cause.toNat ∧ cause.toNat ≤ 7 then some (bitmap, cause.toNat) else none
  | _ => none

/-- TRIP RESET: a bitmap 1..15 (R158, R159). -/
def tripResetFields (d : List Byte) : Option Byte :=
  match d with
  | [bitmap] => if 1 ≤ bitmap.toNat ∧ bitmap.toNat ≤ 15 then some bitmap else none
  | _ => none

/-- UNIT BEACON: a running bitmap 0..15 (R158, R159). -/
def beaconFields (d : List Byte) : Option Byte :=
  match d with
  | [bitmap] => if bitmap.toNat ≤ 15 then some bitmap else none
  | _ => none

/-- The slot a DEFER(INVALID) carries for a frame that has a slot field: the field, if the data holds it, and 0 otherwise
(R159). -/
def slotFieldOrZero (d : List Byte) : Byte := d.headD 0

/-! ### Gateway frames -/

/-- SET CEILING: a ceiling of two bytes (R158). -/
def ceilingFields (d : List Byte) : Option Nat :=
  match d with
  | [hi, lo] => some (wordOf hi lo)
  | _ => none

/-- SET CURTAIL: a level (R158). -/
def curtailFields (d : List Byte) : Option Nat :=
  match d with
  | [level] => some level.toNat
  | _ => none

/-- A well-formed SHED ORDER; `length` is its duration in minutes. -/
structure OrderFields where
  number : Byte
  groupValue : Byte
  groupMask : Byte
  kindSet : Byte
  action : OrderAction
  length : Nat
deriving DecidableEq, Repr

/-- The action codes HOLD 1 and STOP 2 (R158). -/
def actionOf (b : Byte) : Option OrderAction :=
  match b.toNat with
  | 1 => some .hold
  | 2 => some .stop
  | _ => none

/-- SHED ORDER: malformed with order number 0, an action that is neither HOLD nor STOP, a kind set above 15, or a kind set of
0 with minutes above 0 (R159). -/
def orderFields (d : List Byte) : Option OrderFields :=
  match d with
  | [number, value, mask, kinds, action, length] =>
    if number = 0 ∨ 15 < kinds.toNat ∨ (kinds = 0 ∧ 0 < length.toNat) then none
    else (actionOf action).map fun a =>
      { number := number, groupValue := value, groupMask := mask, kindSet := kinds, action := a, length := length.toNat }
  | _ => none

/-- A well-formed WRITE STAGE ELECTRICAL, with its fields as sent. -/
structure ElectricalFields where
  stage : StageId
  kind : Kind
  load : Nat
  surge : Nat
  shedClass : Nat
  lead : Nat
deriving DecidableEq, Repr

/-- WRITE STAGE ELECTRICAL: malformed with a unit outside 1..24, a slot above 3 or a kind above 4 (R159). -/
def electricalFields (d : List Byte) : Option ElectricalFields :=
  match d with
  | [unit, slot, kind, loadHi, loadLo, surge, cls, lead] =>
    match unitOf unit, slotOf slot, kindOf kind with
    | some u, some k, some kd =>
      some { stage := { unit := u, slot := k }, kind := kd, load := wordOf loadHi loadLo, surge := surge.toNat,
             shedClass := cls.toNat, lead := lead.toNat }
    | _, _, _ => none
  | _ => none

/-- WRITE STAGE TIMING: a stage, min-on and min-off (R158, R159). -/
def timingFields (d : List Byte) : Option (StageId × Nat × Nat) :=
  match d with
  | [unit, slot, onHi, onLo, offHi, offLo] =>
    match unitOf unit, slotOf slot with
    | some u, some k => some ({ unit := u, slot := k }, wordOf onHi onLo, wordOf offHi offLo)
    | _, _ => none
  | _ => none

/-- WRITE UNIT GROUP: a unit 1..24 and a group code (R158, R159). -/
def groupFields (d : List Byte) : Option (UnitId × Byte) :=
  match d with
  | [unit, code] => (unitOf unit).map fun u => (u, code)
  | _ => none

/-- WRITE SETTING: a setting number and a value of two bytes (R158). -/
def settingFields (d : List Byte) : Option (Nat × Nat) :=
  match d with
  | [number, hi, lo] => some (number.toNat, wordOf hi lo)
  | _ => none

/-- LOCK PROFILES and ERASE PROFILES: no data (R158). -/
def emptyFields (d : List Byte) : Option Unit :=
  match d with
  | [] => some ()
  | _ => none

/-- CLEAR UNIT: a unit 1..24 (R158, R159). -/
def clearFields (d : List Byte) : Option UnitId :=
  match d with
  | [unit] => unitOf unit
  | _ => none

/-- FLUSH CALLS: a unit 1..24, or 0 for all (R75, R159); the inner none is all units. -/
def flushFields (d : List Byte) : Option (Option UnitId) :=
  match d with
  | [unit] => if unit = 0 then some none else (unitOf unit).map some
  | _ => none

/-- QUERY of one subject: three bytes whose first is the subject's code, an index and a page inside the subject's ranges
(R158, R159, R166). -/
def queryFields (subject minIndex maxIndex maxPage : Nat) (d : List Byte) : Option (Nat × Nat) :=
  match d with
  | [s, index, page] =>
    if s.toNat = subject ∧ minIndex ≤ index.toNat ∧ index.toNat ≤ maxIndex ∧ page.toNat ≤ maxPage then
      some (index.toNat, page.toNat)
    else none
  | _ => none

/-! ### Codes of enumerated values (R158) -/

/-- The mode's code. -/
def Mode.code : Mode → Nat
  | .startup => 0
  | .coordinating => 1
  | .mainsOff => 2
  | .settling => 3
  | .replay => 4
  | .halted => 5

/-- The supervision state's code. -/
def Supervision.code : Supervision → Nat
  | .standalone => 0
  | .supervised => 1

/-- The metering state's code. -/
def Metering.code : Metering → Nat
  | .metered => 0
  | .estimated _ => 1

/-- The estimate cause's code: 0 for none, SILENT 1, STUCK 2. -/
def Metering.causeCode : Metering → Nat
  | .metered => 0
  | .estimated .silent => 1
  | .estimated .stuck => 2

/-- The STOP reason's code. -/
def StopReason.code : StopReason → Nat
  | .demand => 1
  | .displace => 2
  | .order => 3

/-- The DEFER reason's code. -/
def DeferReason.code : DeferReason → Nat
  | .queued => 1
  | .queueFull => 2
  | .noProfile => 3
  | .tripped => 4
  | .running => 5
  | .stopping => 6
  | .absent => 7
  | .flushed => 8
  | .badToken => 9
  | .invalid => 10

/-- The action's code. -/
def OrderAction.code : OrderAction → Nat
  | .hold => 1
  | .stop => 2

/-- The status's code. -/
def Status.code : Status → Nat
  | .ok => 0
  | .clamped => 1
  | .busy => 2
  | .locked => 3
  | .full => 4
  | .notFound => 5
  | .invalid => 6
  | .halted => 7

/-! ### Frames the part sends -/

/-- The kind code of a notice (R157). -/
def Notice.kind : Notice → Nat
  | .stop _ => 2
  | .permit _ _ _ => 3
  | .defer _ _ _ => 9
  | .siteBeacon _ => 11
  | .answer _ _ _ => 28

/-- The node of a notice: the receiving unit, 63 for an ANSWER and 0 for a SITE BEACON (R157). -/
def Notice.node : Notice → Nat
  | .stop f => f.stage.unit.val + 1
  | .permit st _ _ => st.unit.val + 1
  | .defer u _ _ => u.val + 1
  | .siteBeacon _ => 0
  | .answer _ _ _ => 63

/-- The data bytes of a notice (R158). -/
def Notice.data : Notice → List Byte
  | .stop f => [byteOf f.stage.slot.val, byteOf f.reason.code, byteOf f.token]
  | .permit st token confirm => [byteOf st.slot.val, byteOf token, byteOf confirm]
  | .defer _ slot reason => [slot, byteOf reason.code]
  | .siteBeacon b =>
    [byteOf b.mode.code, byteOf b.supervision.code, byteOf b.metering.code, byteOf b.lambda] ++ twoBytesSigned b.headroom ++
      [byteOf b.queueLength, byteOf (b.congested.toNat + 2 * b.attention.toNat)]
  | .answer kind status data => [byteOf kind, byteOf status.code] ++ answerData data

/-- The frame a notice is on the bus (R157, R158). -/
def Notice.toFrame (n : Notice) : Frame :=
  { remote := false, extended := false, identifier := n.kind * 64 + n.node, data := n.data }

end Sys2Proof.Machine
end

