-- ==== Sys2Proof/Machine/Ops.lean ====
section
/-! DEFINITION. Machine/Ops.lean: the operations the commands share, block by block: placing notices, the call queue, the restart
roster, the stage table's entry points (spec/01, section 1.8), the unit supervisor, the demand account, the site lines, the
mains-off handling and the notices of the profile store. -/

namespace Sys2Proof.Machine

/-! ### The roof link: placing notices (R161) -/

/-- Put a notice at the end of the notice queue. An attempt of the queue's head may begin while the stop slot is empty. -/
def State.enqueue (n : Notice) (s : State) : State :=
  s.onLink fun l =>
    { l with queue := l.queue ++ [n], headAttempt := l.headAttempt || (l.stopSlot.isNone && l.state == .onBus) }

/-- The notice queue has room for a DEFER, an ANSWER or a re-sent PERMIT: it holds fewer than 24 notices (R161). -/
def State.noticeRoom (s : State) : Bool := decide (s.link.queue.length < noticeCapacity)

/-- Place a notice, or drop and count it when the queue holds 24 notices (R161). DEDUCED, log entry 34: R167 calls the site beacon
2 s after reset the first frame the part sends, while R12, R159 and R160 send a DEFER or an ANSWER for a frame taken before that;
such a notice is placed, and may be sent, before the first beacon. -/
def State.place (n : Notice) (s : State) : State :=
  if s.noticeRoom then s.enqueue n else s.bump .noticesDropped

/-- Send a unit a DEFER for a slot (R158). -/
def State.sendDefer (st : StageId) (reason : DeferReason) (s : State) : State :=
  s.place (.defer st.unit (byteOf st.slot.val) reason)

/-- Answer a gateway command with a status and data (R160). -/
def State.answer (kind : Nat) (status : Status) (data : List Byte) (s : State) : State :=
  s.place (.answer kind status (answerData data))

/-- There is room for a STOP: the stop slot is empty, or the notice queue holds fewer than 24 notices (R109). -/
def State.stopRoom (s : State) : Bool := s.link.stopSlot.isNone || s.noticeRoom

/-- Place a STOP in the stop slot if it is empty and otherwise at the end of the notice queue (R109, R161). -/
def State.placeStop (f : StopFrame) (s : State) : State :=
  if s.link.stopSlot.isNone then s.onLink fun l => { l with stopSlot := some f } else s.enqueue (.stop f)

/-! ### The call queue -/

/-- One entry stands before another: by class, then by arrival stamp (R65). -/
def CallEntry.before (a b : CallEntry) : Bool :=
  decide (a.cls < b.cls) || (a.cls == b.cls && decide (a.stamp < b.stamp))

/-- Place an entry by R65. -/
def insertEntry (e : CallEntry) : List CallEntry → List CallEntry
  | [] => [e]
  | x :: rest => if e.before x then e :: x :: rest else x :: insertEntry e rest

/-- Put entries in R65's order, keeping their stamps. -/
def sortEntries (entries : List CallEntry) : List CallEntry := entries.foldr insertEntry []

/-- Give the entries fresh stamps in queue order (R66). -/
def renumber (entries : List CallEntry) : List CallEntry :=
  entries.zipIdx.map fun p => { p.1 with stamp := p.2 }

/-- The marker becomes none when the marked entry leaves the call queue (R92). -/
def State.clearMarkerOf (st : StageId) (s : State) : State :=
  s.onArbiter fun a => { a with marker := a.marker.filter fun m => m.stage != st }

/-- Accept an entry: it takes the arrival counter's value as its stamp and is placed by R65; at the largest stamp the queue
renumbers instead of letting the counter wrap (R66, R67, R68). -/
def State.enterCall (st : StageId) (cls : Nat) (replay : Bool) (s : State) : State :=
  let e : CallEntry :=
    { stage := st, cls := cls, stamp := s.calls.arrival, waitAge := 0, passedOver := 0, replay := replay }
  let entries := insertEntry e s.calls.entries
  if s.calls.arrival = max32 then
    (s.onCalls fun q => { q with arrival := entries.length }).setEntries (renumber entries)
  else (s.onCalls fun q => { q with arrival := q.arrival + 1 }).setEntries entries

/-- Take a stage's entry out of the queue and close the order behind it (R73); the marker is cleared if it named the stage
(R92). -/
def State.removeCall (st : StageId) (s : State) : State :=
  (s.setEntries (s.calls.entries.filter fun e => e.stage != st)).clearMarkerOf st

/-! ### The mode controller: modes and the restart roster -/

/-- Change the mode: the fallback output is formed again, and on entry to COORDINATING or REPLAY the arbiter and the shed
controller are given their admitting-mode notice (R141, R155). -/
def State.setMode (m : Mode) (s : State) : State :=
  let s' := (s.onModes fun d => { d with mode := m }).formFallback
  if m.admits then (s'.give (.pass .admittingMode)).give (.check .admittingMode) else s'

/-- Set the outcome of a stage's roster entry where it has a given outcome now. -/
def markRoster (st : StageId) (now next : RosterOutcome) (roster : List RosterEntry) : List RosterEntry :=
  roster.map fun e => if e.stage = st ∧ e.outcome = now then { e with outcome := next } else e

/-- The replay removal notice of the call queue, as far as it marks the roster: RESTORED for a grant and DROPPED for any other
removal, and one fewer FED (R74, R151). -/
def State.markRemoved (st : StageId) (granted : Bool) (s : State) : State :=
  if s.mode = .replay then
    (s.onModes fun d =>
      { d with roster := markRoster st .fed (if granted then .restored else .dropped) d.roster,
               fedCount := d.fedCount - 1 }).bump (if granted then .rosterRestored else .rosterDropped)
  else s

/-- The feeder's replay entry for a stage: QUEUED at class 0 with the replay flag, no DEFER, and an entry notice (R68). -/
def State.enterReplay (st : StageId) (s : State) : State :=
  ((s.onStage st fun r => { r with state := .queued }).enterCall st 0 true).give (.pass .entry)

/-- R150's test of a roster entry's stage. -/
def State.feedable (s : State) (st : StageId) : Bool :=
  (s.unit st.unit).presence == .present && (s.stage st).state == .idle && (s.stage st).working.kind != .none &&
    decide (s.calls.entries.length < callCapacity)

/-- Resolve the WAITING roster entries from a position on, in order, while the fed count is below 4 (R150). `position` is the
place of the list's first entry. -/
def feedEntries (position : Nat) : List RosterEntry → State → List RosterEntry × State
  | [], s => ([], s)
  | e :: rest, s =>
    let (e', s') :=
      if e.outcome = .waiting ∧ s.modes.readPosition ≤ position ∧ s.modes.fedCount < fedLimit then
        if s.feedable e.stage then
          ({ e with outcome := .fed },
            (s.onModes fun d => { d with fedCount := d.fedCount + 1 }).enterReplay e.stage)
        else ({ e with outcome := .dropped }, s.bump .rosterDropped)
      else (e, s)
    let (rest', s'') := feedEntries (position + 1) rest s'
    (e' :: rest', s'')

/-- Empty the roster: no entry, read position 0 and fed count 0. -/
def State.emptyRoster (s : State) : State :=
  s.onModes fun d => { d with roster := [], readPosition := 0, fedCount := 0 }

/-- The read position passes every entry at it that is RESTORED or DROPPED; at the roster's end the roster is emptied and the
mode becomes COORDINATING (R152). -/
def State.advanceRead (s : State) : State :=
  let passed := (s.modes.roster.drop s.modes.readPosition).takeWhile fun e =>
    e.outcome == .restored || e.outcome == .dropped
  let position := s.modes.readPosition + passed.length
  if s.modes.roster.length ≤ position then s.emptyRoster.setMode .coordinating
  else s.onModes fun d => { d with readPosition := position }

/-- The feeder feeds, in REPLAY, and then advances the read position (R150, R152). -/
def State.feed (s : State) : State :=
  if s.mode = .replay then
    let (roster, s') := feedEntries 0 s.modes.roster s
    (s'.onModes fun d => { d with roster := roster }).advanceRead
  else s

/-- The replay decline notice: in REPLAY the entry becomes DROPPED from RESTORED and the decline is counted; the feeder feeds on
the notice (R153, R150). -/
def State.replayDeclined (st : StageId) (s : State) : State :=
  if s.mode = .replay then
    ((s.onModes fun d => { d with roster := markRoster st .restored .dropped d.roster }).bump .replayDeclines).feed
  else s

/-- A stage's call entry is removed for a cause other than a grant, a pass or a flush. A removed replay entry gives its removal
notice, on which the feeder marks and feeds (R73, R74, R151). -/
def State.dropCall (st : StageId) (s : State) : State :=
  match s.callOf st with
  | none => s
  | some e =>
    let s' := s.removeCall st
    if e.replay then (s'.markRemoved st false).feed else s'

/-! ### The stage table -/

/-- A pending profile is copied when the stage enters IDLE or TRIPPED (R3). -/
def Stage.copyPending (stored : Profile) (r : Stage) : Stage :=
  if r.pendingProfile then { r with working := stored, pendingProfile := false } else r

/-- A rest timer was loaded with a number of seconds: a load of 0 expires at once (R1, R5). -/
def State.restLoaded (n : Nat) (s : State) : State := if n = 0 then s.give (.pass .restExpiry) else s

/-- A run timer was loaded with a number of seconds: a load of 0 settles the stage at once (R1, R6). -/
def State.runLoaded (n : Nat) (s : State) : State := if n = 0 then s.give (.check .settled) else s

/-- A withdrawal: a GRANTED stage gives up its permit (R9). A stage whose roster flag was set gives the mode controller a
replay decline notice (R153). -/
def State.withdrawPermit (st : StageId) (s : State) : State :=
  let r := s.stage st
  let s' := s.onStage st fun r =>
    Stage.copyPending (s.store.profile st)
      { r with state := .idle, run := 0, handshake := 0, withdrawn := r.token, token := none,
               window := s.settingTime .confirmTimeout, withdrawnByReplay := r.rosterFlag, rosterFlag := false }
  (if r.rosterFlag then s'.replayDeclined st else s').give (.pass .stageChange)

/-- A decline by the unit: a withdrawal, counted (R14, R16). -/
def State.decline (st : StageId) (s : State) : State := (s.withdrawPermit st).bump .declines

/-- A grant (R19): the QUEUED stage becomes GRANTED with the drawn token. -/
def State.grantStage (st : StageId) (token : Nat) (replay : Bool) (s : State) : State :=
  s.onStage st fun r =>
    { r with state := .granted, token := some token, handshake := s.settingTime .confirmTimeout, rosterFlag := replay }

/-- A revoke (R20): a withdrawal of a GRANTED stage, with the token for the STOP; refused in any other state. -/
def State.revoke (st : StageId) (s : State) : Option (State × Nat) :=
  if (s.stage st).state = .granted then some (s.withdrawPermit st, (s.stage st).token.getD 0) else none

/-- A stop (R21): a settled RUNNING stage becomes STOPPING, with the token for the STOP; refused otherwise. -/
def State.stopStage (st : StageId) (reason : StopReason) (s : State) : Option (State × Nat) :=
  if (s.stage st).settled then
    some ((s.onStage st fun r =>
      { r with state := .stopping, handshake := s.settingTime .stopTimeout, stopReason := some reason }).give
        (.pass .stageChange), (s.stage st).token.getD 0)
  else none

/-- A confirmation (R15): GRANTED becomes RUNNING. -/
def State.confirmStage (st : StageId) (s : State) : State :=
  let minOn := (s.stage st).working.minOn
  ((s.onStage st fun r =>
    { r with state := .running, rest := 0, run := seconds minOn, handshake := 0, rosterFlag := false,
             withdrawn := none, window := 0, withdrawnByReplay := false }).give (.pass .stageChange)).runLoaded minOn

/-- An adoption (R15, R22): an IDLE or QUEUED stage becomes RUNNING with a token, or none for a beacon's adoption; a queue entry
is removed and the adoption counted. DEDUCED, log entry 33: R153 says that a replay permit adopted through its withdrawn token
leaves its roster entry RESTORED, but the withdrawal before it made the entry DROPPED (R153), and R146 keeps such an entry
DROPPED; the adoption does not make it RESTORED again. -/
def State.adoptStage (st : StageId) (token : Option Nat) (s : State) : State :=
  let minOn := (s.stage st).working.minOn
  let s' := s.onStage st fun r =>
    { r with state := .running, rest := 0, run := seconds minOn, token := token, withdrawn := none, window := 0,
             withdrawnByReplay := false }
  (((s'.dropCall st).bump .adoptions).give (.pass .stageChange)).runLoaded minOn

/-- A release, a done and a held release (R16, R24): the stage becomes IDLE, rests its min-off, gives up its token and takes a
pending profile. The rest is that of the copy in force before the replacement (R3). -/
def State.releaseStage (st : StageId) (s : State) : State :=
  let minOff := (s.stage st).working.minOff
  ((s.onStage st fun r =>
    Stage.copyPending (s.store.profile st)
      { r with state := .idle, rest := seconds minOff, run := 0, handshake := 0, token := none }).give
        (.pass .stageChange)).restLoaded minOff

/-- A resume (R24): a HELD stage becomes RUNNING, settled. -/
def State.resumeStage (st : StageId) (s : State) : State :=
  ((s.onStage st fun r => { r with state := .running, rest := 0, run := 0 }).give (.pass .stageChange)).give
    (.check .settled)

/-- A hold of one stage of a unit declared ABSENT (R23): GRANTED, RUNNING and STOPPING become HELD, and a QUEUED stage leaves
the call queue and becomes IDLE (R13). -/
def State.holdStage (st : StageId) (s : State) : State :=
  match (s.stage st).state with
  | .granted | .running | .stopping =>
    (s.onStage st fun r => { r with state := .held, handshake := 0, run := 0, rosterFlag := false }).give
      (.pass .stageChange)
  | .queued => (s.onStage st fun r => { r with state := .idle }).dropCall st
  | .idle | .held | .tripped => s

/-- Whether a trip's cause locks the stage out: high pressure, low pressure, flame failure (R25). -/
def lockoutCause (cause : Nat) : Bool := cause == 1 || cause == 2 || cause == 3

/-- A trip of one stage, whatever its state (R25). A stage already TRIPPED stays TRIPPED. DEDUCED, log entry 37: R2 says that the
min-off of a record of kind NONE is not used, while R5 and R25 load the rest timer with min-off at every trip; the min-off of the
working copy is loaded here for a stage of kind NONE too. -/
def State.tripStage (cause : Nat) (st : StageId) (s : State) : State :=
  let r := s.stage st
  let next : StageState := if r.state = .tripped ∨ lockoutCause cause then .tripped else .idle
  let minOff := r.working.minOff
  let s' := s.onStage st fun r =>
    Stage.copyPending (s.store.profile st)
      { r with state := next, rest := seconds minOff, run := 0, handshake := 0, token := none, withdrawn := none,
               window := 0, rosterFlag := false, withdrawnByReplay := false }
  let s' := s'.dropCall st
  (match r.state with
    | .granted | .running | .stopping => s'.give (.pass .stageChange)
    | .idle | .queued | .held | .tripped => s').restLoaded minOff

/-- A clear (R26): TRIPPED becomes IDLE with its rest running on; ignored in any other state. -/
def State.clearStage (st : StageId) (s : State) : State :=
  if (s.stage st).state = .tripped then
    s.onStage st fun r => Stage.copyPending (s.store.profile st) { r with state := .idle }
  else s

/-- The mains-off reset of one record (R27). -/
def Stage.mainsOff (stored : Profile) (r : Stage) : Stage :=
  Stage.copyPending stored
    { r with state := if r.state = .tripped then .tripped else .idle,
             rest := if r.working.kind = .none then 0 else seconds r.working.minOff,
             run := 0, handshake := 0, window := 0, token := none, withdrawn := none, rosterFlag := false,
             withdrawnByReplay := false }

/-- The mains-off reset (R27): every stage IDLE or TRIPPED, the sums 0 and the run order list empty. The rest timers it loads
with 0 expire at once and meet the mode MAINS_OFF, where a pass cause changes nothing (R82). -/
def State.mainsOffReset (s : State) : State :=
  s.onStages fun t =>
    { records := ⟨⟨(t.records.toList.zip s.store.profiles.toList).map fun p => p.1.mainsOff p.2⟩, by simp⟩,
      cRun := 0, cPend := 0, runOrder := [] }

/-- A profile change from the profile store (R3): the working copy is replaced at once in IDLE, QUEUED and TRIPPED, and kept,
with the pending-profile flag set, in the other states. A QUEUED stage whose new kind is NONE leaves the queue and its unit is
sent DEFER(NO_PROFILE). -/
def State.profileChange (st : StageId) (s : State) : State :=
  let stored := s.store.profile st
  match (s.stage st).state with
  | .idle | .tripped => s.onStage st fun r => { r with working := stored }
  | .queued =>
    if stored.kind = .none then
      ((s.onStage st fun r => { r with working := stored, state := .idle }).sendDefer st .noProfile).dropCall st
    else s.onStage st fun r => { r with working := stored }
  | .granted | .running | .stopping | .held => s.onStage st fun r => { r with pendingProfile := true }

/-! ### The unit supervisor -/

/-- A unit becomes ABSENT (R128): its window ends, the absence is counted and the hold is applied to its stages. -/
def State.declareAbsent (u : UnitId) (s : State) : State :=
  let s' := (s.onUnit u fun r => { r with presence := .absent, phase := .none, window := 0 }).bump .absences
  (stagesOf u).foldl (fun s st => s.holdStage st) s'

/-- A unit error (R127): it counts for a PRESENT unit only, and at the threshold the unit is declared ABSENT. -/
def State.unitError (u : UnitId) (s : State) : State :=
  if (s.unit u).presence = .present then
    let s' := (s.onUnit u fun r => { r with errors := r.errors + 1 }).bump .unitErrors
    if (s'.unit u).errors = s.setting .errorThreshold then s'.declareAbsent u else s'
  else s

/-- A window starts in GUARD with the beacon period as it stands (R123). -/
def UnitRec.startWindow (p : Nat) (r : UnitRec) : UnitRec := { r with phase := .guard, period := p, window := 500 * p }

/-- A unit becomes PRESENT with error count 0 and its window in GUARD (R126, R130). -/
def State.makePresent (u : UnitId) (s : State) : State :=
  s.onUnit u fun r => UnitRec.startWindow (s.setting .beaconPeriod) { r with presence := .present, errors := 0 }

/-- An anomaly is counted and flagged (R132). -/
def State.anomaly (u : UnitId) (s : State) : State :=
  ((s.onUnit u fun r => { r with anomaly := true }).bump .anomalies).formAttention

/-- One slot of an accepted beacon is reconciled against the stage table (R131). -/
def State.reconcileSlot (bitmap : Byte) (s : State) (st : StageId) : State :=
  let r := s.stage st
  if namesSlot bitmap st.slot then
    match r.state with
    | .idle | .queued => if r.working.kind = .none then s.anomaly st.unit else s.adoptStage st none
    | .granted => s.confirmStage st
    | .held => s.resumeStage st
    | .tripped => s.anomaly st.unit
    | .running | .stopping => s
  else
    match r.state with
    | .running | .stopping | .held => s.releaseStage st
    | .idle | .queued | .granted | .tripped => s

/-- An accepted beacon is reconciled slot by slot, in slot order (R131). -/
def State.reconcile (u : UnitId) (bitmap : Byte) (s : State) : State :=
  (stagesOf u).foldl (fun s st => s.reconcileSlot bitmap st) s

/-- The mains-off notice to the supervisor: PRESENT and ABSENT units become AWAITING (R138). -/
def UnitRec.mainsOff (r : UnitRec) : UnitRec :=
  match r.presence with
  | .present | .absent => { r with presence := .awaiting, errors := 0, phase := .none, window := 0 }
  | .unknown | .awaiting => r

/-- The settled notice to the supervisor: a unit still AWAITING becomes UNKNOWN (R138). -/
def UnitRec.settled (r : UnitRec) : UnitRec :=
  match r.presence with
  | .awaiting => { r with presence := .unknown }
  | .unknown | .present | .absent => r

/-! ### The demand account -/

/-- An interval boundary (R32). -/
def State.boundary (cause : BoundaryCause) (s : State) : State :=
  (s.onAccount fun a =>
    { a with closed := { energy := a.energy, elapsed := a.elapsed, cause := cause }, energy := 0, elapsed := 0,
             intervalLength := a.pendingLength.getD a.intervalLength, pendingLength := none }).recomputeAllowance

/-- A valid pulse (R35, R41): it returns the metering state to METERED and is weighed into E and E_win. -/
def State.validPulse (s : State) : State :=
  let weight := s.setting .pulseWeight * 36
  (s.onAccount fun a =>
    { a with metering := .metered, energy := satAdd max32 a.energy weight,
             windowEnergy := satAdd max32 a.windowEnergy weight,
             silence := s.settingTime .silenceTimeout }).bump .validPulses

/-- The metering state becomes ESTIMATED (R39, R40). -/
def State.estimate (cause : EstimateCause) (s : State) : State :=
  (s.onAccount fun a => { a with metering := .estimated cause, windowMetered := false }).bump .estimateEntries

/-- A stuck report (R40). -/
def State.stuckReport (s : State) : State :=
  (s.onAccount fun a => { a with stuckStanding := true }).estimate .stuck

/-- A release report (R40). -/
def State.releaseReport (s : State) : State := s.onAccount fun a => { a with stuckStanding := false }

/-- A qualified interval mark (R34). -/
def State.intervalMark (s : State) : State :=
  if s.setting .markLineUse = 0 then s
  else if 60 ≤ s.account.elapsed then s.boundary .mark
  else s.bump .earlyMarks

/-! ### The site line monitor -/

/-- The width timer reaches the maximum in VALID: a valid pulse and then a stuck report are delivered (R55). -/
def State.pulseStuck (s : State) : State :=
  ((s.onLines fun l => { l with pulse := { l.pulse with state := .stuck } }).bump .stuckReports).validPulse.stuckReport

/-- The line curtail level a qualified code stands for (R59). -/
def State.lineLevelOf (s : State) (code : Fin 4) : Nat :=
  match code.val with
  | 0 => 0
  | 1 => s.setting .curtailLineLevel
  | 2 => 2
  | _ => 3

/-- Deliver the line curtail level of the qualified code: where it changes, the shed controller is given a curtail notice with
it and the change is counted (R59, R100). -/
def State.deliverCurtail (s : State) : State :=
  let level := s.lineLevelOf s.lines.curtail.qualified
  if level = s.lines.curtail.delivered then s
  else
    (((s.onLines fun l => { l with curtail := { l.curtail with delivered := level } }).bump .lineCurtailChanges).onShed
      fun d => { d with lineLevel := level }).formLambda

/-- The power-fail line stands qualified asserted (R60). -/
def PowerFailState.asserted : PowerFailState → Bool
  | .failed | .restorePending => true
  | .normal | .failPending => false

/-! ### The mains-off handling (R145 to R147) -/

/-- The pacing period for the mode (R94). -/
def State.pacingPeriod (s : State) : Millis :=
  if s.mode = .replay then s.settingTime .restartStaggerPeriod else s.settingTime .staggerPeriod

/-- Steps 2 to 6 of R145: the stage table's reset, the emptying of the call queue without notices (R78), the supervisor's
notice (R138), the pacing gate and the marker (R95, R97), and the mode. -/
def State.mainsOffTail (s : State) : State :=
  (((((s.mainsOffReset.setEntries []).onSupervisor
    fun v => { v with records := mapTable UnitRec.mainsOff v.records }).onArbiter
    fun a => { a with gate := .stopped, slotFlag := false, marker := none }).onModes
    fun d => { d with timer := 0 }).setMode .mainsOff).bump .outages

/-- A mains-off from COORDINATING or STARTUP: the roster is built from the run order list (R145). -/
def State.mainsOffFresh (s : State) : State :=
  (s.onModes fun d =>
    { d with roster := s.stages.runOrder.map fun st => { stage := st, outcome := .waiting },
             readPosition := 0, fedCount := 0 }).mainsOffTail

/-- R146's rewind of one roster entry. -/
def RosterEntry.rewind (e : RosterEntry) : RosterEntry :=
  match e.outcome with
  | .restored | .fed => { e with outcome := .waiting }
  | .waiting | .dropped => e

/-- A mains-off in REPLAY: the roster is kept, rewound and extended by the stages it does not name (R146). -/
def State.mainsOffReplay (s : State) : State :=
  (s.onModes fun d =>
    { d with roster := d.roster.map RosterEntry.rewind ++
               ((s.stages.runOrder.filter fun st => !(d.roster.any fun e => e.stage == st)).map
                 fun st => { stage := st, outcome := .waiting }),
             readPosition := 0, fedCount := 0 }).mainsOffTail

/-- A qualified power-fail assertion, by the mode (R141, R142, R145 to R147). -/
def State.powerFailAsserted (s : State) : State :=
  match s.mode with
  | .startup | .coordinating => s.mainsOffFresh
  | .replay => s.mainsOffReplay
  | .settling => s.mainsOffTail
  | .mainsOff | .halted => s

/-- A qualified power-fail deassertion: in MAINS_OFF the mode becomes SETTLING (R141, R148). -/
def State.powerFailDeasserted (s : State) : State :=
  match s.mode with
  | .mainsOff => (s.onModes fun d => { d with timer := s.settingTime .settleDelay }).setMode .settling
  | .startup | .coordinating | .settling | .replay | .halted => s

/-! ### The notices of the profile store (R170, R172) -/

/-- R129: a PRESENT unit at or above the new threshold is left one error short of it, and an ABSENT unit's count becomes it. -/
def UnitRec.newThreshold (threshold : Nat) (r : UnitRec) : UnitRec :=
  match r.presence with
  | .present => if threshold ≤ r.errors then { r with errors := threshold - 1 } else r
  | .absent => { r with errors := threshold }
  | .unknown | .awaiting => r

/-- What a changed setting does at once (R170's table); the store already holds the new value. A setting not named here is read
when it is next used. -/
def State.settingChanged (x : Setting) (s : State) : State :=
  let v := s.setting x
  match x with
  | .fallbackCeiling =>
    -- R44
    if s.account.supervision = .standalone then s.onAccount fun a => { a with ceiling := v } else s
  | .intervalLength =>
    -- R30
    s.onAccount fun a => { a with pendingLength := if v = a.intervalLength then none else some v }
  | .minimumWidthCode =>
    -- R56
    if s.lines.pulse.state = .timing ∧ minimumWidth v ≤ s.lines.pulse.width then
      s.onLines fun l => { l with pulse := { l.pulse with state := .valid } }
    else s
  | .maximumWidthCode =>
    -- R56
    if s.lines.pulse.state = .valid ∧ maximumWidth v ≤ s.lines.pulse.width then s.pulseStuck else s
  | .errorThreshold =>
    -- R129
    s.onSupervisor fun d => { d with records := mapTable (UnitRec.newThreshold v) d.records }
  | .curtailLineLevel =>
    -- R59
    s.deliverCurtail
  | .congestionThreshold =>
    -- R76
    s.formCongestion
  | .guardBand | .markLineUse | .pulseWeight | .silenceTimeout | .baseLoadDefault | .beaconPeriod | .confirmTimeout
  | .stopTimeout | .staggerPeriod | .restartStaggerPeriod | .settleDelay | .supervisionTimeout | .promoteTime
  | .holdBackTime | .shedDelay | .curtailPercent1 | .curtailPercent2 | .curtailPercent3 => s

/-- Copy a changed group code into the unit's record (R121). -/
def State.groupChanged (u : UnitId) (s : State) : State :=
  s.onUnit u fun r => { r with group := s.store.group u }

end Sys2Proof.Machine
end

