-- ==== Sys2Proof/Machine/Causes.lean ====
section
/-! DEFINITION. Machine/Causes.lean: what the call queue, the arbiter and the shed controller do on a notice: the ageing (R70), the
admission pass (R82 to R92) and the shed check (R108 to R115); and the taking of the notices a command has given. -/

namespace Sys2Proof.Machine

/-! ### Ageing and promotion -/

/-- Raise an entry's wait age by one evaluation (R70). -/
def CallEntry.age (e : CallEntry) : CallEntry := { e with waitAge := satAdd max16 e.waitAge 1 }

/-- An entry that moves up one class: class 2 or 3, waited the promote time (R70). -/
def CallEntry.promotable (promoteTime : Nat) (e : CallEntry) : Bool :=
  (e.cls == 2 || e.cls == 3) && decide (promoteTime ≤ e.waitAge)

/-- The ageing and promotion of one entry (R70). -/
def CallEntry.ageOrPromote (promoteTime : Nat) (e : CallEntry) : CallEntry :=
  let aged := e.age
  if aged.promotable promoteTime then { aged with cls := aged.cls - 1, waitAge := 0 } else aged

/-- Raise a counter several times. -/
def State.bumpTimes (c : Counter) : Nat → State → State
  | 0, s => s
  | n + 1, s => State.bumpTimes c n (s.bump c)

/-- The call queue's answer to an evaluation notice (R70). -/
def State.ageCalls (s : State) : State :=
  let promoteTime := s.setting .promoteTime
  let promoted := s.calls.entries.countP fun e => e.age.promotable promoteTime
  (s.onCalls fun q =>
    { q with entries := sortEntries (q.entries.map (CallEntry.ageOrPromote promoteTime)) }).bumpTimes .promotions promoted

/-! ### Shed orders -/

/-- The kind of a stage is in an order's kind set: FAN, COOL, HEAT_GAS, HEAT_ELEC in bits 0 to 3; NONE never is (R106). -/
def kindInSet (kinds : Byte) (k : Kind) : Bool := k != .none && kinds.getLsbD (k.code - 1)

/-- An order matches a stage (R106). -/
def ShedOrder.matchesStage (o : ShedOrder) (s : State) (st : StageId) : Bool :=
  ((s.unit st.unit).group &&& o.groupMask) == (o.groupValue &&& o.groupMask) &&
    kindInSet o.kindSet (s.stage st).working.kind

/-- Some order in the table bars the stage from admission (R107). -/
def State.barred (s : State) (st : StageId) : Bool := s.shed.orders.any fun o => o.matchesStage s st

/-- Some STOP order in the table matches the stage (R107). -/
def State.stopOrdered (s : State) (st : StageId) : Bool :=
  s.shed.orders.any fun o => o.action == .stop && o.matchesStage s st

/-! ### The admission pass -/

/-- The lead condition of R84: the lead slot named by the working copy, if any, is RUNNING. -/
def State.leadRunning (s : State) (st : StageId) : Bool :=
  match (s.stage st).working.lead with
  | none => true
  | some k => (s.stage { st with slot := k }).state == .running

/-- An entry is eligible at a pass (R84). -/
def State.eligible (s : State) (e : CallEntry) : Bool :=
  let r := s.stage e.stage
  r.rest == 0 && r.working.kind != .none && (s.unit e.stage.unit).presence == .present && !s.barred e.stage &&
    s.leadRunning e.stage && (!r.working.surge || s.arbiter.slotFlag) && (s.mode != .replay || e.replay)

/-- Set the blocking-head marker; a change from none to a stage or from one stage to another is counted (R92). -/
def State.setMarker (m : Option Marker) (s : State) : State :=
  let onset := match m with
    | none => false
    | some new => match s.arbiter.marker with
      | none => true
      | some old => old.stage != new.stage
  let s' := s.onArbiter fun a => { a with marker := m }
  if onset then s'.bump .blockingHeadOnsets else s'

/-- The token after a drawn one: from 255 to 1, never 0 (R88). -/
def nextToken (t : Nat) : Nat := if 255 ≤ t then 1 else t + 1

/-- A grant of an entry within a pass (R87, R89). A removed replay entry marks the roster at once; the feeding follows when the
pass is complete (R150). -/
def State.grantEntry (e : CallEntry) (s : State) : State :=
  let token := s.arbiter.tokenCounter
  let surge := (s.stage e.stage).working.surge
  let s := s.onArbiter fun a => { a with tokenCounter := nextToken token }
  let s := (s.removeCall e.stage).grantStage e.stage token e.replay
  let s := if e.replay then s.markRemoved e.stage true else s
  let s := if surge then (s.onArbiter fun a => { a with slotFlag := false }).bump .surgePermits else s
  (s.bump .permitsIssued).enqueue (.permit e.stage token (s.setting .confirmTimeout))

/-- The arbiter's own values in a walk: the state, the pass headroom (R83), the grants made, the entries to name (R90), the
blocking head, and whether a replay entry was granted. -/
structure Walk where
  state : State
  headroom : Int
  grants : Nat
  named : List StageId
  blocking : Option Marker
  replayGranted : Bool

/-- The walk from an entry on (R83 to R91). It ends at the queue's end, at a blocking head, or when the notice queue holds 20
notices: the entry it then stands at and those after it are left untested (R83, R85). -/
def walkEntries (onEvaluation : Bool) (guardBand holdBack : Nat) : List CallEntry → Walk → Walk
  | [], w => w
  | e :: rest, w =>
    let load := (w.state.stage e.stage).working.load
    if noticeMark ≤ w.state.link.queue.length then w
    else if !w.state.eligible e then walkEntries onEvaluation guardBand holdBack rest w
    else if (load : Int) ≤ w.headroom - guardBand then
      walkEntries onEvaluation guardBand holdBack rest
        { w with state := w.state.grantEntry e, headroom := w.headroom - load, grants := w.grants + 1,
                 replayGranted := w.replayGranted || e.replay }
    else
      let named := if onEvaluation then w.named ++ [e.stage] else w.named
      let heldBack := e.passedOver + onEvaluation.toNat
      if e.cls ≤ 1 ∧ holdBack ≤ heldBack then
        { w with named := named, blocking := some { stage := e.stage, load := load } }
      else walkEntries onEvaluation guardBand holdBack rest { w with named := named }

/-- Add one to the passed-over age of each named entry (R72, R90). -/
def nameEntries (named : List StageId) (entries : List CallEntry) : List CallEntry :=
  entries.map fun e => if named.contains e.stage then { e with passedOver := satAdd max16 e.passedOver 1 } else e

/-- The three preconditions of a pass (R82). -/
def State.passAllowed (s : State) : Bool :=
  s.mode.admits && s.onBus && decide (s.link.queue.length < noticeMark)

/-- One admission pass, its preconditions holding (R83 to R92). -/
def State.makePass (cause : PassCause) (s : State) : State :=
  let onEvaluation := cause == .evaluation
  let guardBand := s.setting .guardBand
  let start := s.headroom
  let w := walkEntries onEvaluation guardBand (s.setting .holdBackTime) s.calls.entries
    { state := s, headroom := start, grants := 0, named := [], blocking := none, replayGranted := false }
  let s := w.state.onArbiter fun a =>
    { a with lastPass :=
        { cause := some cause, headroomAtStart := start, guardBand := guardBand, grants := w.grants,
          headroomAtEnd := w.headroom, blockingHead := w.blocking.map Marker.stage } }
  let s := (s.onCalls fun q => { q with entries := nameEntries w.named q.entries }).setMarker w.blocking
  if w.replayGranted then s.feed else s

/-- A pass cause: a pass where the preconditions hold; otherwise the marker becomes none, and in COORDINATING and REPLAY the
deferred pass is counted (R81, R82). -/
def State.passCause (cause : PassCause) (s : State) : State :=
  if s.passAllowed then s.makePass cause
  else
    let s' := s.setMarker none
    if s.mode.admits then s'.bump .passesDeferred else s'

/-! ### The shed check -/

/-- Revoke a GRANTED stage with room, sending its STOP; without room nothing is requested and the shed waits (R109). The Bool
says whether a STOP was sent. -/
def State.shedRevoke (st : StageId) (reason : StopReason) (counter : Counter) (s : State) : State × Bool :=
  if s.stopRoom then
    match s.revoke st with
    | some (s', token) => ((s'.bump counter).placeStop { stage := st, reason := reason, token := token }, true)
    | none => (s, false)
  else (s.bump .shedsWaiting, false)

/-- Stop a settled RUNNING stage with room, sending its STOP; without room nothing is requested and the shed waits (R109). The
Bool says whether a STOP was sent. -/
def State.shedStop (st : StageId) (reason : StopReason) (counter : Counter) (s : State) : State × Bool :=
  if s.stopRoom then
    match s.stopStage st reason with
    | some (s', token) => ((s'.bump counter).placeStop { stage := st, reason := reason, token := token }, true)
    | none => (s, false)
  else (s.bump .shedsWaiting, false)

/-- The order stop of one stage of the run order list, if one is due (R107, R110). -/
def State.orderStop (s : State) (st : StageId) : State :=
  if s.stopOrdered st then
    match (s.stage st).state with
    | .granted => (s.shedRevoke st .order .orderRevokes).1
    | .running => if (s.stage st).settled then (s.shedStop st .order .orderStops).1 else s
    | .idle | .queued | .stopping | .held | .tripped => s
  else s

/-- The order stops due, from the earliest stage of the run order list (R110). -/
def State.shedOrders (s : State) : State := s.stages.runOrder.foldl State.orderStop s

/-- The latest GRANTED stage of the run order list with a clear roster flag (R112). -/
def State.revokeVictim (s : State) : Option StageId :=
  s.stages.runOrder.reverse.find? fun st => (s.stage st).state == .granted && !(s.stage st).rosterFlag

/-- Of two stages, the one the demand shed takes: the higher class number, and the earlier of equals (R113). -/
def State.worse (s : State) (best : Option StageId) (st : StageId) : Option StageId :=
  match best with
  | none => some st
  | some b => if (s.stage b).working.shedClass < (s.stage st).working.shedClass then some st else some b

/-- The settled RUNNING stage of the highest shed class number, and among those the earliest (R113). -/
def State.stopVictim (s : State) : Option StageId :=
  (s.stages.runOrder.filter fun st => (s.stage st).settled).foldl s.worse none

/-- The shed persistence count returns to 0 (R111). -/
def State.clearPersistence (s : State) : State := s.onAccount fun a => { a with persistence := 0 }

/-- The demand shed (R111 to R113). The Bool says whether it sent a STOP. -/
def State.demandShed (s : State) : State × Bool :=
  if s.account.persistence < s.setting .shedDelay then (s, false)
  else
    let (s', sent) := match s.revokeVictim with
      | some st => s.shedRevoke st .demand .demandRevokes
      | none => match s.stopVictim with
        | some st => s.shedStop st .demand .demandStops
        | none => ((s.bump .shedUnavailable).clearPersistence, false)
    (if sent then s'.clearPersistence else s', sent)

/-- The earliest settled RUNNING stage of class 3 (R114). -/
def State.displaceVictim (s : State) : Option StageId :=
  s.stages.runOrder.find? fun st => (s.stage st).settled && (s.stage st).working.shedClass == 3

/-- The displacement shed (R114, R115). DEDUCED, log entry 38: R31 says that the shed check after an evaluation is made against the
headroom of its step 5, and R114 that H is formed now. Where the pass on the same notice is taken first and grants, or an order stop
of the same check revokes, the two differ; H is formed now, at the check. -/
def State.displacementShed (s : State) : State :=
  match s.arbiter.marker with
  | none => s
  | some m =>
    if s.headroom - (s.setting .guardBand : Int) < m.load ∧ s.shed.holdOff = 0 then
      match s.displaceVictim with
      | none => s
      | some st =>
        let (s', sent) := s.shedStop st .displace .displacementStops
        if sent then s'.onShed fun d => { d with holdOff := s'.settingTime .shedDelay } else s'
    else s

/-- A shed check cause: made only in COORDINATING and REPLAY with the link ON_BUS; order stops, then the demand shed, then the
displacement shed if the demand shed sent no STOP (R108). -/
def State.checkCause (s : State) : State :=
  if s.mode.admits && s.onBus then
    let (s', sent) := s.shedOrders.demandShed
    if sent then s' else s'.displacementShed
  else s

/-! ### Taking the notices a command has given -/

/-- Act on one notice. -/
def State.act (c : Cause) (s : State) : State :=
  match c with
  | .ageing => s.ageCalls
  | .pass cause => s.passCause cause
  | .check _ => s.checkCause

/-- The order of the notices given can be seen: passes and checks are made, and the notices are not all alike. In the other
modes, and OFF_BUS, no pass and no check is made, so every order ends alike (R82, R108). -/
def State.orderSeen (s : State) (first : Cause) (others : List Cause) : Bool :=
  s.mode.admits && s.onBus && others.any fun c => c != first

/-- A stage that a shed check could still revoke or stop: GRANTED or RUNNING. -/
def Stage.stoppable (r : Stage) : Nat := if r.state = .granted ∨ r.state = .running then 1 else 0

/-- The notices a change from the mode to COORDINATING could still give within a drain: two in REPLAY (R141, R152). -/
def Mode.exitNotices (m : Mode) : Nat :=
  match m with
  | .replay => 2
  | .startup | .coordinating | .mainsOff | .settling | .halted => 0

/-- No more notices than this remain to be acted on, with the ones they give. A notice given goes with a stage revoked or stopped
or with a roster entry fed; a grant takes an entry out of the call queue; and the change from REPLAY to COORDINATING gives two
(log entry 24). -/
def State.budget (s : State) : Nat :=
  s.causes.length + s.calls.entries.length + (s.stages.records.toList.map Stage.stoppable).sum +
    2 * (s.modes.roster.countP fun e => e.outcome == .waiting) + s.mode.exitNotices

/-- Take the notices one at a time until none is left, each in an order that `choose` draws (log entry 3). The number bounds how
many are taken; from State.budget on it cuts none off. -/
def State.drainWith (choose : Nat → Nat) : Nat → State → State
  | 0, s => { s with causes := [] }
  | fuel + 1, s =>
    match s.causes with
    | [] => s
    | first :: others =>
      let free := s.orderSeen first others
      let i := if free then choose s.drawn % (others.length + 1) else 0
      let drawn := if free then s.drawn + 1 else s.drawn
      State.drainWith choose fuel
        (State.act ((first :: others).getD i first) { s with causes := (first :: others).eraseIdx i, drawn := drawn })

/-- Act on every notice the command has given, in a free order (R70, R81, R108; log entry 3). -/
def State.drain (s : State) : State := State.drainWith Config.causeChoice s.budget s

/-! ### How a command is taken -/

/-- Take an event: its effect, and then the notices it gave. Without supply nothing happens (R63; log entry 10). -/
def State.take (effect : State → State) (s : State) : Host.Outcome State Fault Refusal :=
  .next (if s.supplied then (effect s).drain else s)

/-- Take a frame from the bus: lost while the link is OFF_BUS (R163). -/
def State.receive (effect : State → State) (s : State) : Host.Outcome State Fault Refusal :=
  s.take fun s => if s.onBus then effect s else s

end Sys2Proof.Machine
end

