-- ==== Sys2Proof/Machine/StageCommands.lean ====
section
/-! DEFINITION. Machine/StageCommands.lean: the frames a unit sends about one of its stages (spec/01, section 1.6) and the expiries of
a stage's timers (R5, R6, R9, R17, R18). -/

namespace Sys2Proof.Machine

/-- A unit frame: a malformed one is answered DEFER(INVALID) and counted (R159), one from an ABSENT unit is refused with
DEFER(ABSENT) (R122), and any other is passed on. -/
def State.unitFrame {α : Type} (u : UnitId) (fields : Option α) (invalidSlot : Byte) (slotOfFields : α → Slot)
    (taken : α → State → State) (s : State) : State :=
  match fields with
  | none => (s.place (.defer u invalidSlot .invalid)).bump .malformedUnitFrames
  | some x =>
    if (s.unit u).presence = .absent then s.sendDefer { unit := u, slot := slotOfFields x } .absent else taken x s

/-- A CALL that makes an entry: at the stage's shed class, with DEFER(QUEUED) and an entry notice (R12, R67). -/
def State.acceptCall (st : StageId) (s : State) : State :=
  (((s.onStage st fun r => { r with state := .queued }).enterCall st (s.stage st).working.shedClass false).sendDefer st
    .queued).give (.pass .entry)

/-- A CALL taken by the stage's state (R12, R67, R69). A HELD stage belongs to an ABSENT unit and is never called. -/
def State.takeCall (st : StageId) (s : State) : State :=
  let r := s.stage st
  match r.state with
  | .idle =>
    if r.working.kind = .none then s.sendDefer st .noProfile
    else if callCapacity ≤ s.calls.entries.length then (s.bump .queueFullRefusals).sendDefer st .queueFull
    else s.acceptCall st
  | .queued => s.sendDefer st .queued
  | .granted => s.place (.permit st (r.token.getD 0) (secondsUp r.handshake))
  | .running => s.sendDefer st .running
  | .stopping => s.sendDefer st .stopping
  | .tripped => s.sendDefer st .tripped
  | .held => s

/-- CALL (R12). -/
def execCall (u : UnitId) (data : List Byte) (s : State) : Host.Outcome State Fault Refusal :=
  s.receive (State.unitFrame u (slotFields data) (slotFieldOrZero data) id fun k => State.takeCall { unit := u, slot := k })

/-- A WITHDRAW taken by the stage's state (R13, R14). -/
def State.takeWithdraw (st : StageId) (s : State) : State :=
  match (s.stage st).state with
  | .queued => (s.onStage st fun r => { r with state := .idle }).dropCall st
  | .granted => s.decline st
  | .idle | .running | .stopping | .held | .tripped => s

/-- WITHDRAW (R14). -/
def execWithdraw (u : UnitId) (data : List Byte) (s : State) : Host.Outcome State Fault Refusal :=
  s.receive
    (State.unitFrame u (slotFields data) (slotFieldOrZero data) id fun k => State.takeWithdraw { unit := u, slot := k })

/-- A STARTED with a token the stage does not hold: DEFER(BAD_TOKEN) and one unit error, but no error while the
withdrawn-by-replay flag is set (R15, R9). -/
def State.badToken (st : StageId) (s : State) : State :=
  let s' := s.sendDefer st .badToken
  if (s.stage st).withdrawnByReplay then s' else s'.unitError st.unit

/-- The token of a STARTED is the stage's current token (R15). DESIGN CHOICE, log entry 36: a RUNNING or STOPPING stage adopted
without a token has no current token (R8), and 0 stands for none in a frame (R158). R15 does not say whether a STARTED with token 0
carries such a stage's current token; it matches nothing here and is a bad token. -/
def Stage.carriesCurrent (r : Stage) (token : Nat) : Bool := r.token == some token

/-- The token of a STARTED is the stage's withdrawn token, its window open (R15). -/
def Stage.carriesWithdrawn (r : Stage) (token : Nat) : Bool := r.withdrawn == some token && decide (0 < r.window)

/-- A STARTED taken by the stage's state and its token (R15). -/
def State.takeStarted (st : StageId) (token : Nat) (s : State) : State :=
  let r := s.stage st
  if r.carriesCurrent token then
    match r.state with
    | .granted => s.confirmStage st
    | .running | .stopping => s
    | .idle | .queued | .tripped => s.badToken st
    | .held => s
  else if r.carriesWithdrawn token then
    match r.state with
    | .idle | .queued => if r.working.kind = .none then s.sendDefer st .noProfile else s.adoptStage st (some token)
    | .granted => s.confirmStage st
    | .running | .stopping => s
    | .tripped => s.badToken st
    | .held => s
  else
    match r.state with
    | .idle | .queued | .granted | .running | .stopping | .tripped => s.badToken st
    | .held => s

/-- STARTED (R15). -/
def execStarted (u : UnitId) (data : List Byte) (s : State) : Host.Outcome State Fault Refusal :=
  s.receive
    (State.unitFrame u (startedFields data) (slotFieldOrZero data) Prod.fst
      fun f => State.takeStarted { unit := u, slot := f.1 } f.2)

/-- A STOPPED taken by the stage's state (R16). -/
def State.takeStopped (st : StageId) (s : State) : State :=
  match (s.stage st).state with
  | .granted => s.decline st
  | .running | .stopping => s.releaseStage st
  | .idle | .queued | .held | .tripped => s

/-- STOPPED (R16). -/
def execStopped (u : UnitId) (data : List Byte) (s : State) : Host.Outcome State Fault Refusal :=
  s.receive
    (State.unitFrame u (slotFields data) (slotFieldOrZero data) id fun k => State.takeStopped { unit := u, slot := k })

/-- The expiry of a stage's rest timer (R5). -/
def State.restExpires (st : StageId) (s : State) : State :=
  if 0 < (s.stage st).rest then (s.onStage st fun r => { r with rest := 0 }).give (.pass .restExpiry) else s

/-- REST_TIMER_EXPIRY (R5). -/
def execRestTimerExpiry (st : StageId) (s : State) : Host.Outcome State Fault Refusal := s.take (State.restExpires st)

/-- The expiry of a RUNNING stage's run timer: the stage is settled (R6). -/
def State.runExpires (st : StageId) (s : State) : State :=
  if (s.stage st).state = .running ∧ 0 < (s.stage st).run then
    (s.onStage st fun r => { r with run := 0 }).give (.check .settled)
  else s

/-- RUN_TIMER_EXPIRY (R6). -/
def execRunTimerExpiry (st : StageId) (s : State) : Host.Outcome State Fault Refusal := s.take (State.runExpires st)

/-- A lapse: a withdrawal, then one unit error unless the roster flag was set, and a count (R17). -/
def State.lapse (st : StageId) (s : State) : State :=
  let s' := s.withdrawPermit st
  (if (s.stage st).rosterFlag then s' else s'.unitError st.unit).bump .lapses

/-- The expiry of the handshake timer in GRANTED (R7, R17). -/
def State.confirmExpires (st : StageId) (s : State) : State :=
  if (s.stage st).state = .granted ∧ 0 < (s.stage st).handshake then s.lapse st else s

/-- CONFIRM_TIMEOUT (R17). -/
def execConfirmTimeout (st : StageId) (s : State) : Host.Outcome State Fault Refusal := s.take (State.confirmExpires st)

/-- The STOP of a STOPPING stage is sent again: into the stop slot if it is empty, otherwise into the notice queue if it has room,
and otherwise not, which is counted (R18). -/
def State.resendStop (st : StageId) (s : State) : State :=
  let r := s.stage st
  if s.stopRoom then
    s.placeStop { stage := st, reason := r.stopReason.getD .demand, token := r.token.getD 0 }
  else s.bump .stopResendsDropped

/-- The expiry of the handshake timer in STOPPING (R7, R18). The timer is reloaded and the STOP sent again before the error is
reported, so that an error that declares the unit ABSENT leaves the stage HELD with its timer at zero (log entry 13). -/
def State.stopExpires (st : StageId) (s : State) : State :=
  if (s.stage st).state = .stopping ∧ 0 < (s.stage st).handshake then
    ((s.onStage st fun r => { r with handshake := s.settingTime .stopTimeout }).resendStop st).unitError st.unit
  else s

/-- STOP_TIMEOUT (R18). -/
def execStopTimeout (st : StageId) (s : State) : Host.Outcome State Fault Refusal := s.take (State.stopExpires st)

/-- The expiry of a withdrawn token's window (R9). -/
def State.windowExpires (st : StageId) (s : State) : State :=
  if 0 < (s.stage st).window then
    s.onStage st fun r => { r with window := 0, withdrawn := none, withdrawnByReplay := false }
  else s

/-- WINDOW_TIMER_EXPIRY (R9). -/
def execWindowTimerExpiry (st : StageId) (s : State) : Host.Outcome State Fault Refusal := s.take (State.windowExpires st)

end Sys2Proof.Machine
end

