-- ==== Sys2Proof/Machine/UnitCommands.lean ====
section
/-! DEFINITION. Machine/UnitCommands.lean: the frames a unit sends about itself (TRIP, TRIP RESET, UNIT BEACON) and the expiries of its
beacon window (spec/07). -/

namespace Sys2Proof.Machine

/-- Record a trip in the unit's trip slot, or count it when the slot is taken (R133). -/
def UnitRec.recordTrip (bitmap : Byte) (cause : Nat) (r : UnitRec) : UnitRec :=
  match r.tripSlot with
  | none => { r with tripSlot := some { slots := bitmap, cause := cause } }
  | some _ => { r with furtherTrips := satAdd 255 r.furtherTrips 1 }

/-- A TRIP taken: the trip of each named stage in slot order, its record, its count (R133, R135). -/
def State.takeTrip (u : UnitId) (bitmap : Byte) (cause : Nat) (s : State) : State :=
  let s' := (slotsOf bitmap).foldl (fun s k => s.tripStage cause { unit := u, slot := k }) s
  ((s'.onUnit u (UnitRec.recordTrip bitmap cause)).formAttention).bump .trips

/-- TRIP (R133). -/
def execTrip (u : UnitId) (data : List Byte) (s : State) : Host.Outcome State Fault Refusal :=
  s.receive (State.unitFrame u (tripFields data) 0 (fun f => lowestSlot f.1) fun f => State.takeTrip u f.1 f.2)

/-- A TRIP RESET taken: a clear of each named stage in slot order (R134, R26). -/
def State.takeTripReset (u : UnitId) (bitmap : Byte) (s : State) : State :=
  (slotsOf bitmap).foldl (fun s k => s.clearStage { unit := u, slot := k }) s

/-- TRIP RESET (R134). -/
def execTripReset (u : UnitId) (data : List Byte) (s : State) : Host.Outcome State Fault Refusal :=
  s.receive (State.unitFrame u (tripResetFields data) 0 lowestSlot (State.takeTripReset u))

/-- A beacon in OPEN is accepted: the error count goes down, the window restarts in GUARD, the bitmap is reconciled (R126). -/
def State.acceptBeacon (u : UnitId) (bitmap : Byte) (s : State) : State :=
  (s.onUnit u fun r =>
    UnitRec.startWindow (s.setting .beaconPeriod) { r with errors := r.errors - 1 }).reconcile u bitmap

/-- A first acceptance: the unit becomes PRESENT and the bitmap is reconciled (R126). -/
def State.firstBeacon (u : UnitId) (bitmap : Byte) (s : State) : State := (s.makePresent u).reconcile u bitmap

/-- A rejoin of an ABSENT unit (R130). -/
def State.rejoin (u : UnitId) (bitmap : Byte) (s : State) : State :=
  ((s.makePresent u).bump .rejoins).reconcile u bitmap

/-- An early beacon: counted, and a unit error; its bitmap is not reconciled and the window runs on (R124). -/
def State.earlyBeacon (u : UnitId) (s : State) : State := (s.bump .earlyBeacons).unitError u

/-- A UNIT BEACON taken by presence, window phase and mode (R122, R123, R126, R130). -/
def State.takeBeacon (u : UnitId) (bitmap : Byte) (s : State) : State :=
  let r := s.unit u
  match r.presence with
  | .unknown => if s.mode = .mainsOff then s else s.firstBeacon u bitmap
  | .present =>
    match r.phase with
    | .guard => s.earlyBeacon u
    | .opened => s.acceptBeacon u bitmap
    | .none => s
  | .absent => s.rejoin u bitmap
  | .awaiting => if s.mode = .settling then s.firstBeacon u bitmap else s

/-- UNIT BEACON (R126); a malformed one is answered DEFER(INVALID) and is no beacon (R159). -/
def execUnitBeacon (u : UnitId) (data : List Byte) (s : State) : Host.Outcome State Fault Refusal :=
  s.receive fun s =>
    match beaconFields data with
    | none => (s.place (.defer u 0 .invalid)).bump .malformedUnitFrames
    | some bitmap => s.takeBeacon u bitmap

/-- The expiry of the window timer in GUARD: the phase becomes OPEN with one and a half window periods left (R123). -/
def State.guardExpires (u : UnitId) (s : State) : State :=
  if (s.unit u).phase = .guard ∧ 0 < (s.unit u).window then
    s.onUnit u fun r => { r with phase := .opened, window := 1500 * r.period }
  else s

/-- WINDOW_GUARD_EXPIRY (R123). -/
def execWindowGuardExpiry (u : UnitId) (s : State) : Host.Outcome State Fault Refusal := s.take (State.guardExpires u)

/-- A missed window of a PRESENT unit: the window restarts in OPEN with twice the beacon period, the miss is counted, and a unit
error follows, which may end the window (R125, R128; log entry 13). -/
def State.windowMissed (u : UnitId) (s : State) : State :=
  if (s.unit u).presence = .present ∧ (s.unit u).phase = .opened ∧ 0 < (s.unit u).window then
    let p := s.setting .beaconPeriod
    ((s.onUnit u fun r => { r with period := p, window := 2000 * p }).bump .missedWindows).unitError u
  else s

/-- MISSED_WINDOW (R125). -/
def execMissedWindow (u : UnitId) (s : State) : Host.Outcome State Fault Refusal := s.take (State.windowMissed u)

end Sys2Proof.Machine
end

