-- ==== Sys2Proof/Machine/GatewayCommands.lean ====
section
/-! DEFINITION. Machine/GatewayCommands.lean: the gateway commands to the demand account, the shed controller, the unit supervisor and
the call queue (R42, R101, R104, R137, R75). -/

namespace Sys2Proof.Machine

/-- A gateway frame: a malformed one is answered INVALID with data 0 and counted (R159); otherwise the command is taken. DEDUCED,
log entry 39: R104 says that every ANSWER to SHED ORDER carries the number of orders held; R159's data 0 is followed for a malformed
one. -/
def State.gatewayFrame {α : Type} (kind : Nat) (fields : Option α) (taken : α → State → State) (s : State) : State :=
  match fields with
  | none => (s.answer kind .invalid []).bump .malformedGatewayFrames
  | some x => taken x s

/-- A command that HALTED turns away: it is answered HALTED with data 0 and goes no further (R143, R160). SHED ORDER, whose HALTED
ANSWER carries the number of orders held (R104), has State.orderUnlessHalted. -/
def State.unlessHalted (kind : Nat) (taken : State → State) (s : State) : State :=
  if s.mode = .halted then s.answer kind .halted [] else taken s

/-- A SET CEILING taken (R42): K, the supervision timer and state, and the answer OK with K (R160). -/
def State.takeCeiling (k : Nat) (s : State) : State :=
  (s.onAccount fun a =>
    { a with ceiling := k, supervision := .supervised,
             supervisionTimer := minutes (s.setting .supervisionTimeout) }).answer 16 .ok (twoBytes k)

/-- SET CEILING (R42). -/
def execSetCeiling (data : List Byte) (s : State) : Host.Outcome State Fault Refusal :=
  s.receive (State.gatewayFrame 16 (ceilingFields data) fun k => State.unlessHalted 16 (State.takeCeiling k))

/-- A SET CURTAIL taken (R101): the level, clamped to 3, and lambda formed again; the answer carries both (R160). -/
def State.takeCurtail (level : Nat) (s : State) : State :=
  let s' := (s.onShed fun d => { d with gatewayLevel := min level 3 }).formLambda
  s'.answer 17 (if 3 < level then .clamped else .ok) [byteOf s'.shed.gatewayLevel, byteOf s'.shed.lambda]

/-- SET CURTAIL (R101). -/
def execSetCurtail (data : List Byte) (s : State) : Host.Outcome State Fault Refusal :=
  s.receive (State.gatewayFrame 17 (curtailFields data) fun level => State.unlessHalted 17 (State.takeCurtail level))

/-- The order a well-formed SHED ORDER enters, its duration limited to 240 minutes (R104). -/
def OrderFields.order (f : OrderFields) : ShedOrder :=
  { number := f.number, groupValue := f.groupValue, groupMask := f.groupMask, kindSet := f.kindSet, action := f.action,
    timer := minutes (min f.length 240) }

/-- Answer a well-formed SHED ORDER with the number of orders held after the command as its data, whatever the status (R104, R160;
log entry 39 for a malformed one). -/
def State.answerOrder (status : Status) (s : State) : State := s.answer 18 status [byteOf s.shed.orders.length]

/-- An order has left the table: a pass cause (R81, R104, R105). -/
def State.orderLeft (s : State) : State := s.give (.pass .orderLeft)

/-- An order that enters or is replaced with action STOP causes a shed check (R104). -/
def State.orderTaken (action : OrderAction) (s : State) : State :=
  match action with
  | .stop => s.give (.check .orderTaken)
  | .hold => s

/-- A SHED ORDER taken (R104): cancellation, replacement in place, entry at the end, or turned away. -/
def State.takeOrder (f : OrderFields) (s : State) : State :=
  let held := s.shed.orders.any fun o => o.number == f.number
  let status : Status := if 240 < f.length then .clamped else .ok
  if f.length = 0 then
    if held then
      ((s.onShed fun d => { d with orders := d.orders.filter fun o => o.number != f.number }).answerOrder .ok).orderLeft
    else s.answerOrder .notFound
  else if held then
    (((s.onShed fun d =>
      { d with orders := d.orders.map fun o => if o.number = f.number then f.order else o }).answerOrder
        status).orderLeft).orderTaken f.action
  else if s.shed.orders.length < orderCapacity then
    ((s.onShed fun d => { d with orders := d.orders ++ [f.order] }).answerOrder status).orderTaken f.action
  else s.answerOrder .full

/-- A well-formed SHED ORDER: in HALTED it is answered HALTED, with the number of orders held like every ANSWER to it, and the table
is unchanged; otherwise it is taken (R104, R143). -/
def State.orderUnlessHalted (f : OrderFields) (s : State) : State :=
  if s.mode = .halted then s.answerOrder .halted else s.takeOrder f

/-- SHED ORDER (R104). -/
def execShedOrder (data : List Byte) (s : State) : Host.Outcome State Fault Refusal :=
  s.receive (State.gatewayFrame 18 (orderFields data) State.orderUnlessHalted)

/-- A stage CLEAR UNIT moves to IDLE: TRIPPED is cleared and HELD released; the others are kept (R137). -/
def State.clearOrRelease (s : State) (st : StageId) : State :=
  match (s.stage st).state with
  | .tripped => s.clearStage st
  | .held => s.releaseStage st
  | .idle | .queued | .granted | .running | .stopping => s

/-- A CLEAR UNIT taken (R137); the answer carries the number of stages moved to IDLE. -/
def State.takeClear (u : UnitId) (s : State) : State :=
  let moved := (stagesOf u).countP fun st => (s.stage st).state == .tripped || (s.stage st).state == .held
  let s' := (stagesOf u).foldl State.clearOrRelease s
  (s'.onUnit u fun r => { r with presence := .unknown, errors := 0, phase := .none, window := 0 }).answer 25 .ok
    [byteOf moved]

/-- CLEAR UNIT (R137). -/
def execClearUnit (data : List Byte) (s : State) : Host.Outcome State Fault Refusal :=
  s.receive (State.gatewayFrame 25 (clearFields data) fun u => State.unlessHalted 25 (State.takeClear u))

/-- An entry is flushed: its stage returns to IDLE; a unit call's unit is sent DEFER(FLUSHED), and a replay entry marks the
roster (R75, R13, R74). -/
def State.flushEntry (s : State) (e : CallEntry) : State :=
  let s' := ((s.onStage e.stage fun r => { r with state := .idle }).removeCall e.stage).bump .flushedEntries
  if e.replay then s'.markRemoved e.stage false else s'.sendDefer e.stage .flushed

/-- A FLUSH CALLS taken (R75): the named unit's entries, or all, from the head; then the answer with their number, and the
feeding that replay entries among them call for when the flush is complete (R150). DESIGN CHOICE, log entry 31: R75 does not say
whether the ANSWER stands before or after the DEFER(FLUSHED) frames in the notice queue; it is placed after them. -/
def State.takeFlush (u : Option UnitId) (s : State) : State :=
  let flushed := s.calls.entries.filter fun e => match u with
    | none => true
    | some v => e.stage.unit == v
  let s' := (flushed.foldl State.flushEntry s).answer 26 .ok [byteOf flushed.length]
  if flushed.any CallEntry.replay then s'.feed else s'

/-- FLUSH CALLS (R75). -/
def execFlushCalls (data : List Byte) (s : State) : Host.Outcome State Fault Refusal :=
  s.receive (State.gatewayFrame 26 (flushFields data) fun u => State.unlessHalted 26 (State.takeFlush u))

end Sys2Proof.Machine
end

