-- ==== Sys2Proof/Machine/StoreCommands.lean ====
section
/-! DEFINITION. Machine/StoreCommands.lean: the writes, the lock, the erase and their completions (spec/10). -/

namespace Sys2Proof.Machine

/-- An operation becomes the operation in flight (R169, R172). -/
def State.startOperation (o : Operation) (s : State) : State :=
  { (s.onStore fun d => { d with flight := some { operation := o, elapsed := 0, drawn := s.drawn } }) with
    drawn := s.drawn + 1 }

/-- A well-formed write taken by the store's state (R169): BUSY, LOCKED, INVALID, or the operation in flight with the answer OK
or CLAMPED and the values as taken. -/
def State.takeWrite (kind : Nat) (valid : Bool) (item : StoreItem) (clamped : Bool) (data : List Byte) (s : State) :
    State :=
  if s.store.flight.isSome then s.answer kind .busy []
  else if s.store.lock then s.answer kind .locked []
  else if !valid then s.answer kind .invalid []
  else (s.startOperation (.write item)).answer kind (if clamped then .clamped else .ok) data

/-- A lead slot field is 255 for absent or a slot other than the stage's own (R169); none where it is invalid. -/
def leadOf (st : StageId) (lead : Nat) : Option (Option Slot) :=
  if lead = 255 then some none
  else if h : lead < 4 then (if lead = st.slot.val then none else some (some ⟨lead, h⟩))
  else none

/-- A lead slot as a field: 255 for absent (R158). -/
def leadByte (lead : Option Slot) : Byte :=
  match lead with
  | none => 255
  | some k => byteOf k.val

/-- A WRITE STAGE ELECTRICAL taken (R169): load clamped to 1..600, surge flag to 0..1 and class to 1..3. -/
def State.takeElectrical (f : ElectricalFields) (s : State) : State :=
  let load := clampTo 1 600 f.load
  let surge := clampTo 0 1 f.surge
  let cls := clampTo 1 3 f.shedClass
  let clamped := load != f.load || surge != f.surge || cls != f.shedClass
  let lead := leadOf f.stage f.lead
  s.takeWrite 19 lead.isSome (.electrical f.stage f.kind load (surge == 1) cls (lead.getD none)) clamped
    ([byteOf f.kind.code] ++ twoBytes load ++ [byteOf surge, byteOf cls, leadByte (lead.getD none)])

/-- WRITE STAGE ELECTRICAL (R169). -/
def execWriteStageElectrical (data : List Byte) (s : State) : Host.Outcome State Fault Refusal :=
  s.receive (State.gatewayFrame 19 (electricalFields data) fun f => State.unlessHalted 19 (State.takeElectrical f))

/-- A WRITE STAGE TIMING taken (R169): min-on and min-off clamped to 0..1800. -/
def State.takeTiming (st : StageId) (on off : Nat) (s : State) : State :=
  let on' := clampTo 0 1800 on
  let off' := clampTo 0 1800 off
  s.takeWrite 20 true (.timing st on' off') (on' != on || off' != off) (twoBytes on' ++ twoBytes off')

/-- WRITE STAGE TIMING (R169). -/
def execWriteStageTiming (data : List Byte) (s : State) : Host.Outcome State Fault Refusal :=
  s.receive
    (State.gatewayFrame 20 (timingFields data) fun f => State.unlessHalted 20 (State.takeTiming f.1 f.2.1 f.2.2))

/-- WRITE UNIT GROUP (R169). -/
def execWriteUnitGroup (data : List Byte) (s : State) : Host.Outcome State Fault Refusal :=
  s.receive
    (State.gatewayFrame 21 (groupFields data) fun f =>
      State.unlessHalted 21 (State.takeWrite 21 true (.group f.1 f.2) false [byteOf (f.1.val + 1), f.2]))

/-- A WRITE SETTING taken (R169), with the value clamped to the setting's range (R160, R168). -/
def State.takeSetting (number : Nat) (x : Setting) (v : Nat) (s : State) : State :=
  let v' := x.clamp v
  s.takeWrite 22 true (.setting x v') (v' != v) ([byteOf number] ++ twoBytes v')

/-- WRITE SETTING (R169). A number that names no setting is answered NOT_FOUND before anything else (R160). -/
def execWriteSetting (data : List Byte) (s : State) : Host.Outcome State Fault Refusal :=
  s.receive
    (State.gatewayFrame 22 (settingFields data) fun f s =>
      match Setting.ofNumber f.1 with
      | none => s.answer 22 .notFound []
      | some x => s.unlessHalted 22 (State.takeSetting f.1 x f.2))

/-- A LOCK PROFILES taken: the lock is set, whatever is in flight (R171). -/
def State.takeLock (s : State) : State := (s.onStore fun d => { d with lock := true }).answer 23 .ok []

/-- LOCK PROFILES (R171). -/
def execLockProfiles (data : List Byte) (s : State) : Host.Outcome State Fault Refusal :=
  s.receive (State.gatewayFrame 23 (emptyFields data) fun _ => State.unlessHalted 23 State.takeLock)

/-- An ERASE PROFILES taken in every mode, whatever the lock: BUSY with an operation in flight, else the erase starts (R172). -/
def State.takeErase (s : State) : State :=
  if s.store.flight.isSome then s.answer 24 .busy [] else (s.startOperation .erase).answer 24 .ok []

/-- ERASE PROFILES (R172). -/
def execEraseProfiles (data : List Byte) (s : State) : Host.Outcome State Fault Refusal :=
  s.receive (State.gatewayFrame 24 (emptyFields data) fun _ => State.takeErase)

/-- Place a written value in its cells (R170). -/
def StoreItem.placeIn (item : StoreItem) (store : Store) : Store :=
  match item with
  | .electrical st kind load surge cls lead =>
    let p := { store.profile st with kind := kind, load := load, surge := surge, shedClass := cls, lead := lead }
    { store with profiles := store.profiles.set st.index p }
  | .timing st on off =>
    let p := { store.profile st with minOn := on, minOff := off }
    { store with profiles := store.profiles.set st.index p }
  | .group u code => { store with groups := store.groups.set u code }
  | .setting x v => { store with settings := store.settings.set x.index v }

/-- Store the digest of the contents, with the completion mark set and nothing in flight (R170, R172). -/
def Store.complete (store : Store) : Store :=
  { store with digest := store.contentsDigest, completionMark := true, flight := none }

/-- Notify the owners of each copy that differs between two contents: a profile change for each changed stage, a group code for
each changed unit, and each changed setting, in that order and each by number (R170, R172; log entry 12). -/
def State.notifyChanges (before : Store) (s : State) : State :=
  let after := s.store
  let s := (allStages.filter fun st => after.profile st != before.profile st).foldl (fun s st => s.profileChange st) s
  let s := (units.filter fun u => after.group u != before.group u).foldl (fun s u => s.groupChanged u) s
  (Setting.all.filter fun x => after.setting x != before.setting x).foldl (fun s x => s.settingChanged x) s

/-- The completion of the write in flight (R170). -/
def State.writeCompletes (s : State) : State :=
  match s.store.flight with
  | some { operation := .write item, .. } =>
    ((s.onStore fun d => (item.placeIn d).complete).bump .writesCompleted).notifyChanges s.store
  | _ => s

/-- WRITE_COMPLETION (R170). -/
def execWriteCompletion (s : State) : Host.Outcome State Fault Refusal := s.take State.writeCompletes

/-- Every profile, code and setting at its erased value, and the lock clear (R172). -/
def Store.erase (store : Store) : Store :=
  { store with profiles := Vector.replicate 96 erasedProfile, groups := Vector.replicate 24 0,
               settings := defaultSettings, lock := false }

/-- The report of an erase completion to the mode controller: HALTED is left for STARTUP with the join timer loaded (R143). -/
def State.endHalt (s : State) : State :=
  if s.mode = .halted then (s.onModes fun d => { d with timer := s.store.joinTime }).setMode .startup else s

/-- The completion of the erase in flight (R172). -/
def State.eraseCompletes (s : State) : State :=
  match s.store.flight with
  | some { operation := .erase, .. } =>
    (((s.onStore fun d => d.erase.complete).bump .erasesCompleted).notifyChanges s.store).endHalt
  | _ => s

/-- ERASE_COMPLETION (R172). -/
def execEraseCompletion (s : State) : Host.Outcome State Fault Refusal := s.take State.eraseCompletes

end Sys2Proof.Machine
end

