-- ==== Sys2Proof/Machine/AccountEvents.lean ====
section
/-! DEFINITION. Machine/AccountEvents.lean: the expiries of the demand account's timers (R31, R37, R39, R43). -/

namespace Sys2Proof.Machine

/-- Steps 1 and 2 of R31: t goes up by one, and in ESTIMATED the energy by U and C_run (R36). -/
def State.advanceInterval (s : State) : State :=
  s.onAccount fun a =>
    { a with elapsed := a.elapsed + 1,
             energy := if a.metering.isEstimated then satAdd max32 a.energy (a.uncontrolled + s.stages.cRun) else a.energy }

/-- Step 3 of R31: at t = T the interval closes, with cause CLOCK or SELF_TIMED by the mark line use setting (R33). -/
def State.closeAtLength (s : State) : State :=
  if s.account.intervalLength ≤ s.account.elapsed then
    if s.setting .markLineUse = 0 then s.boundary .clock
    else ((s.boundary .selfTimed).bump .missedMarks).bump .selfTimedBoundaries
  else s

/-- Step 5 of R31: the shed persistence count, from the headroom as it now stands (R49). -/
def State.updatePersistence (s : State) : State :=
  s.onAccount fun a => { a with persistence := if s.headroom < 0 then satAdd max16 a.persistence 1 else 0 }

/-- An evaluation (R31): its five steps, the reload of its timer, and its notices to the call queue, the arbiter and the shed
controller. -/
def State.evaluate (s : State) : State :=
  ((((((s.onAccount fun a => { a with evaluationTimer := evaluationTime }).advanceInterval.closeAtLength.recomputeAllowance
    ).updatePersistence).give .ageing).give (.pass .evaluation)).give (.check .evaluation))

/-- EVALUATION (R31). -/
def execEvaluation (s : State) : Host.Outcome State Fault Refusal := s.take State.evaluate

/-- The end of a rate window (R37, R38). -/
def State.rateWindowEnds (s : State) : State :=
  s.onAccount fun a =>
    let mean := min max16 (a.windowEnergy / 60)
    { a with rateWindow := rateWindowTime, windowEnergy := 0, windowMetered := !a.metering.isEstimated,
             measured := if a.windowMetered then mean else a.measured,
             uncontrolled := if a.windowMetered then mean - s.stages.cRun else a.uncontrolled }

/-- RATE_WINDOW_EXPIRY (R37). -/
def execRateWindowExpiry (s : State) : Host.Outcome State Fault Refusal := s.take State.rateWindowEnds

/-- The expiry of the silence timer (R39). -/
def State.silenceExpires (s : State) : State :=
  let s' := s.onAccount fun a => { a with silence := s.settingTime .silenceTimeout }
  if s.account.metering = .metered ∧ 0 < s.stages.cRun then s'.estimate .silent else s'

/-- SILENCE_TIMER_EXPIRY (R39). -/
def execSilenceTimerExpiry (s : State) : Host.Outcome State Fault Refusal := s.take State.silenceExpires

/-- The lapse of the supervision (R43). The timer stays at zero until the next SET CEILING. -/
def State.supervisionLapses (s : State) : State :=
  if 0 < s.account.supervisionTimer then
    (s.onAccount fun a =>
      { a with supervision := .standalone, supervisionTimer := 0, ceiling := s.setting .fallbackCeiling }).bump
        .supervisionLapses
  else s

/-- SUPERVISION_TIMER_EXPIRY (R43). -/
def execSupervisionTimerExpiry (s : State) : Host.Outcome State Fault Refusal := s.take State.supervisionLapses

end Sys2Proof.Machine
end

