-- ==== Sys2Proof/Machine/ModeEvents.lean ====
section
/-! DEFINITION. Machine/ModeEvents.lean: the expiries of the timers of the arbiter, the shed controller and the mode controller (R93,
R105, R115, R142, R149). -/

namespace Sys2Proof.Machine

/-- The start-pacing generator expires: a slot, a reload and a pass cause (R93, R94). -/
def State.startSlotExpires (s : State) : State :=
  if s.arbiter.gate = .running ∧ 0 < s.arbiter.pacing then
    (s.onArbiter fun a => { a with slotFlag := true, pacing := s.pacingPeriod }).give (.pass .startSlot)
  else s

/-- START_SLOT_EXPIRY (R93). -/
def execStartSlotExpiry (s : State) : Host.Outcome State Fault Refusal := s.take State.startSlotExpires

/-- A shed order's time runs out: it leaves the table and the expiry is counted (R105). -/
def State.orderExpires (number : Byte) (s : State) : State :=
  if s.shed.orders.any fun o => o.number == number then
    ((s.onShed fun d => { d with orders := d.orders.filter fun o => o.number != number }).bump .ordersExpired).orderLeft
  else s

/-- ORDER_TIMER_EXPIRY (R105). -/
def execOrderTimerExpiry (number : Byte) (s : State) : Host.Outcome State Fault Refusal :=
  s.take (State.orderExpires number)

/-- The displacement hold-off timer runs out (R115). -/
def State.holdOffExpires (s : State) : State := s.onShed fun d => { d with holdOff := 0 }

/-- DISPLACEMENT_HOLD_OFF_EXPIRY (R115). -/
def execDisplacementHoldOffExpiry (s : State) : Host.Outcome State Fault Refusal := s.take State.holdOffExpires

/-- The end of the join period (R142): COORDINATING, or the mains-off handling where the power-fail line stands asserted. -/
def State.joinExpires (s : State) : State :=
  if s.mode = .startup ∧ 0 < s.modes.timer then
    if s.lines.powerFail.state.asserted then s.mainsOffFresh
    else (s.onModes fun d => { d with timer := 0 }).setMode .coordinating
  else s

/-- JOIN_TIMER_EXPIRY (R142). -/
def execJoinTimerExpiry (s : State) : Host.Outcome State Fault Refusal := s.take State.joinExpires

/-- The pacing gate starts with a full period for the mode and no slot (R95). -/
def State.startGate (s : State) : State :=
  s.onArbiter fun a => { a with gate := .running, pacing := s.pacingPeriod, slotFlag := false }

/-- Some roster entry is WAITING (R149). -/
def State.rosterWaits (s : State) : Bool := s.modes.roster.any fun e => e.outcome == .waiting

/-- The end of the settle delay (R149): the settled notice to the supervisor, and REPLAY with the feeder started, or
COORDINATING with the roster emptied; the pacing gate starts either way. -/
def State.settleExpires (s : State) : State :=
  if s.mode = .settling ∧ 0 < s.modes.timer then
    let s := (s.onSupervisor fun v => { v with records := mapTable UnitRec.settled v.records }).onModes
      fun d => { d with timer := 0 }
    if s.rosterWaits then ((s.setMode .replay).bump .replaysBegun).startGate.feed
    else (s.emptyRoster.setMode .coordinating).startGate
  else s

/-- SETTLE_TIMER_EXPIRY (R149). -/
def execSettleTimerExpiry (s : State) : Host.Outcome State Fault Refusal := s.take State.settleExpires

end Sys2Proof.Machine
end

