-- ==== Sys2Proof/Machine/LineEvents.lean ====
section
/-! DEFINITION. Machine/LineEvents.lean: the events of the site lines (spec/03). -/

namespace Sys2Proof.Machine

/-- A level at a pin changes. The pin is outside the part, so it changes without supply too; the monitor sees it only with
supply. -/
def State.pinChange (pins : Pins → Pins) (effect : State → State) (s : State) : Host.Outcome State Fault Refusal :=
  .next (if s.supplied then (effect (s.onPins pins)).drain else s.onPins pins)

/-- The debounce time of a line whose pin has come to a level: a return to the debounced level absorbs the change, and any other
level must hold for 5 ms (R52). -/
def debounceOf (debounced level : Bool) : Millis := if level = debounced then 0 else debounceTime

/-- The monitor's side of a level change on MPULSE or IMARK (R52). -/
def State.debounceStarts (line : DebouncedLine) (level : Bool) (s : State) : State :=
  match line with
  | .meterPulse => s.onLines fun l => { l with pulse := { l.pulse with debounce := debounceOf l.pulse.level level } }
  | .intervalMark => s.onLines fun l => { l with mark := { l.mark with debounce := debounceOf l.mark.level level } }

/-- The level of a debounced line's pin. -/
def Pins.levelOf (p : Pins) (line : DebouncedLine) : Bool :=
  match line with
  | .meterPulse => p.pulse
  | .intervalMark => p.mark

/-- Set the level of a debounced line's pin. -/
def Pins.setLevel (line : DebouncedLine) (level : Bool) (p : Pins) : Pins :=
  match line with
  | .meterPulse => { p with pulse := level }
  | .intervalMark => { p with mark := level }

/-- DEBOUNCE_PIN_CHANGE (R52). A command that names the level the pin has is no change. -/
def execDebouncePinChange (line : DebouncedLine) (level : Bool) (s : State) : Host.Outcome State Fault Refusal :=
  s.pinChange (Pins.setLevel line level) fun s' =>
    if s.pins.levelOf line = level then s' else s'.debounceStarts line level

/-- A debounced assertion of the meter pulse line (R53). -/
def State.pulseAsserted (s : State) : State :=
  match s.lines.pulse.state with
  | .released =>
    (s.onPins fun p => { p with pulse := true }).onLines
      fun l => { l with pulse := { level := true, debounce := 0, state := .timing, width := 0 } }
  | .timing | .valid | .stuck => s

/-- PULSE_ASSERTION_EDGE (R53). -/
def execPulseAssertionEdge (s : State) : Host.Outcome State Fault Refusal := s.take State.pulseAsserted

/-- The width timer reaches the minimum width in TIMING (R53). -/
def State.pulseMinimum (s : State) : State :=
  if s.lines.pulse.state = .timing then
    s.onLines fun l =>
      { l with pulse := { l.pulse with state := .valid, width := minimumWidth (s.setting .minimumWidthCode) } }
  else s

/-- PULSE_MINIMUM_WIDTH_REACHED (R53). -/
def execPulseMinimumWidthReached (s : State) : Host.Outcome State Fault Refusal := s.take State.pulseMinimum

/-- The width timer reaches the maximum width in VALID (R55). -/
def State.pulseMaximum (s : State) : State :=
  if s.lines.pulse.state = .valid then
    (s.onLines fun l =>
      { l with pulse := { l.pulse with width := maximumWidth (s.setting .maximumWidthCode) } }).pulseStuck
  else s

/-- PULSE_MAXIMUM_WIDTH_REACHED (R55). -/
def execPulseMaximumWidthReached (s : State) : Host.Outcome State Fault Refusal := s.take State.pulseMaximum

/-- The record of the meter pulse line and its pin after a release edge (R54). -/
def State.pulseAtRest (s : State) : State :=
  (s.onPins fun p => { p with pulse := false }).onLines
    fun l => { l with pulse := { level := false, debounce := 0, state := .released, width := 0 } }

/-- A debounced release of the meter pulse line: noise, a valid pulse, or a release report (R54). -/
def State.pulseReleased (s : State) : State :=
  match s.lines.pulse.state with
  | .released => s
  | .timing => s.pulseAtRest.bump .noisePulses
  | .valid => s.pulseAtRest.validPulse
  | .stuck => s.pulseAtRest.releaseReport

/-- PULSE_RELEASE_EDGE (R54). -/
def execPulseReleaseEdge (s : State) : Host.Outcome State Fault Refusal := s.take State.pulseReleased

/-- A debounced assertion of the interval mark line (R57). -/
def State.markAsserted (s : State) : State :=
  match s.lines.mark.state with
  | .released =>
    (s.onPins fun p => { p with mark := true }).onLines
      fun l => { l with mark := { level := true, debounce := 0, state := .timing, timer := 0 } }
  | .timing | .marked => s

/-- MARK_ASSERTION_EDGE (R57). -/
def execMarkAssertionEdge (s : State) : Host.Outcome State Fault Refusal := s.take State.markAsserted

/-- The record of the interval mark line and its pin after a release edge (R57). -/
def State.markAtRest (s : State) : State :=
  (s.onPins fun p => { p with mark := false }).onLines
    fun l => { l with mark := { l.mark with level := false, debounce := 0, state := .released } }

/-- A debounced release of the interval mark line: mark noise in TIMING (R57). -/
def State.markReleased (s : State) : State :=
  match s.lines.mark.state with
  | .released => s
  | .timing => s.markAtRest.bump .markNoise
  | .marked => s.markAtRest

/-- MARK_RELEASE_EDGE (R57). -/
def execMarkReleaseEdge (s : State) : Host.Outcome State Fault Refusal := s.take State.markReleased

/-- The mark timer reaches 20 ms in TIMING: a mark is delivered to the demand account (R57). -/
def State.markQualifies (s : State) : State :=
  if s.lines.mark.state = .timing then
    (s.onLines fun l => { l with mark := { l.mark with state := .marked, timer := markTime } }).intervalMark
  else s

/-- MARK_QUALIFIED (R57). -/
def execMarkQualified (s : State) : Host.Outcome State Fault Refusal := s.take State.markQualifies

/-- The monitor's side of a change of the curtail code (R58). DESIGN CHOICE, log entry 30: a stability timer that R58 stops
holds 0. -/
def State.curtailCodeRead (code : Fin 4) (s : State) : State :=
  s.onLines fun l =>
    { l with curtail :=
        if code = l.curtail.qualified then { l.curtail with candidate := none, stability := 0 }
        else { l.curtail with candidate := some code, stability := stabilityTime } }

/-- CURTAIL_CODE_CHANGE (R58). A command that names the code the pins give is no change. -/
def execCurtailCodeChange (code : Fin 4) (s : State) : Host.Outcome State Fault Refusal :=
  s.pinChange (fun p => { p with curtail := code }) fun s' =>
    if s.pins.curtail = code then s' else s'.curtailCodeRead code

/-- The stability timer expires: the candidate is qualified, and the line curtail level delivered (R58, R59). -/
def State.curtailQualifies (s : State) : State :=
  match s.lines.curtail.candidate with
  | none => s
  | some code =>
    (s.onLines fun l =>
      { l with curtail := { l.curtail with qualified := code, candidate := none, stability := 0 } }).deliverCurtail

/-- CURTAIL_STABILITY_EXPIRY (R58). -/
def execCurtailStabilityExpiry (s : State) : Host.Outcome State Fault Refusal := s.take State.curtailQualifies

/-- Set the power-fail record (R60). DESIGN CHOICE, log entry 30: a qualification timer that R60 stops holds 0. -/
def State.setPowerFail (state : PowerFailState) (timer : Millis) (s : State) : State :=
  s.onLines fun l => { l with powerFail := { state := state, timer := timer } }

/-- The monitor's side of a change of the power-fail pin (R60). -/
def State.powerFailRead (asserted : Bool) (s : State) : State :=
  match s.lines.powerFail.state, asserted with
  | .normal, true => s.setPowerFail .failPending failTime
  | .failPending, false => (s.setPowerFail .normal 0).bump .powerFailGlitches
  | .failed, false => s.setPowerFail .restorePending restoreTime
  | .restorePending, true => (s.setPowerFail .failed 0).bump .powerFailGlitches
  | .normal, false | .failPending, true | .failed, true | .restorePending, false => s

/-- POWER_FAIL_PIN_CHANGE (R60). -/
def execPowerFailPinChange (asserted : Bool) (s : State) : Host.Outcome State Fault Refusal :=
  s.pinChange (fun p => { p with powerFail := asserted }) (State.powerFailRead asserted)

/-- The power-fail qualification timer expires: a qualified edge is delivered to the mode controller (R60). -/
def State.powerFailQualifies (s : State) : State :=
  match s.lines.powerFail.state with
  | .failPending => (s.setPowerFail .failed 0).powerFailAsserted
  | .restorePending => (s.setPowerFail .normal 0).powerFailDeasserted
  | .normal | .failed => s

/-- POWER_FAIL_QUALIFICATION_EXPIRY (R60). -/
def execPowerFailQualificationExpiry (s : State) : Host.Outcome State Fault Refusal := s.take State.powerFailQualifies

end Sys2Proof.Machine
end

