-- ==== Sys2Proof/Machine/LinkEvents.lean ====
section
/-! DEFINITION. Machine/LinkEvents.lean: foreign frames, the end of a transmission attempt, and the roof link's timers (R157, R162 to
R164). -/

namespace Sys2Proof.Machine

/-- FOREIGN_FRAME (R157): ignored and counted. A frame the filter takes is not foreign, and this is no event of it. -/
def execForeignFrame (frame : Frame) (s : State) : Host.Outcome State Fault Refusal :=
  s.receive fun s => if frame.taken then s else s.bump .foreignFrames

/-- Whether an attempt of the queue's head may begin: a notice waits and no STOP stands before it (R162). -/
def Link.headReady (l : Link) : Bool := l.stopSlot.isNone && !l.queue.isEmpty

/-- Whether an attempt of a frame can be the one that ends now (R162): the link is ON_BUS, and there is a STOP in the stop slot,
or an attempt of the queue's head may be under way. -/
def Link.attempting (l : Link) (source : TxSource) : Bool :=
  l.state == .onBus &&
    match source with
    | .stopSlot => l.stopSlot.isSome
    | .queueHead => l.headAttempt && !l.queue.isEmpty

/-- An attempt has ended; the next one begins anew (R162). DESIGN CHOICE, log entry 32: R162 does not say whether the next attempt
begins before or after the notices that this end gives are acted on; it may begin before, so an attempt of the queue's head may
be under way when a shed check of the same command places a STOP. -/
def State.attemptEnds (s : State) : State := s.onLink fun l => { l with headAttempt := l.headReady }

/-- The frame was sent: it leaves its place, the failures count becomes 0, and the notices of stop room and of space are given
(R162). -/
def State.frameSent (source : TxSource) (s : State) : State :=
  match source with
  | .stopSlot =>
    ((s.onLink fun l => { l with stopSlot := none, failures := 0 }).attemptEnds).give (.check .stopRoom)
  | .queueHead =>
    let length := s.link.queue.length
    let s' := (s.onLink fun l => { l with queue := l.queue.tail, failures := 0 }).attemptEnds
    if length = noticeCapacity then s'.give (.check .stopRoom)
    else if length = noticeMark then s'.give (.pass .linkSpace)
    else s'

/-- The link goes OFF_BUS (R163, R155). -/
def State.goOffBus (s : State) : State :=
  ((s.onLink fun l =>
    { l with state := .offBus, failures := 0, offBusTimer := offBusTime, headAttempt := false }).bump
      .busOffEntries).formFallback

/-- The attempt failed: it is counted, and at 32 consecutive failures the link goes OFF_BUS (R162, R163). -/
def State.frameFailed (s : State) : State :=
  let s' := ((s.onLink fun l => { l with failures := l.failures + 1 }).attemptEnds).bump .failedTransmissions
  if failureLimit ≤ s'.link.failures then s'.goOffBus else s'

/-- The end of a transmission attempt (R162). -/
def State.transmission (source : TxSource) (outcome : TxOutcome) (s : State) : State :=
  if s.link.attempting source then
    match outcome with
    | .sent => s.frameSent source
    | .lostArbitration => s.attemptEnds
    | .failed => s.frameFailed
  else s

/-- FRAME_TRANSMISSION (R162). -/
def execFrameTransmission (source : TxSource) (outcome : TxOutcome) (s : State) : Host.Outcome State Fault Refusal :=
  s.take (State.transmission source outcome)

/-- The off-bus timer expires: the link returns to ON_BUS, the fallback output is formed again, and the link notices are given
(R163). -/
def State.returnToBus (s : State) : State :=
  match s.link.state with
  | .onBus => s
  | .offBus =>
    ((((s.onLink fun l => { l with state := .onBus, offBusTimer := 0 }).attemptEnds).formFallback).give
      (.pass .linkSpace)).give (.check .linkReturned)

/-- OFF_BUS_TIMER_EXPIRY (R163). -/
def execOffBusTimerExpiry (s : State) : Host.Outcome State Fault Refusal := s.take State.returnToBus

/-- A value clamped to -32767..32767 (R48, R164). -/
def clampHeadroom (h : Int) : Int := max (-32767) (min 32767 h)

/-- The site beacon as it is formed now (R164). -/
def State.beacon (s : State) : SiteBeacon :=
  { mode := s.mode, supervision := s.account.supervision, metering := s.account.metering, lambda := s.shed.lambda,
    headroom := clampHeadroom s.headroom, queueLength := s.calls.entries.length, congested := s.calls.congested,
    attention := s.supervisor.attention }

/-- The site beacon timer expires: a beacon is placed, or skipped and counted (R164). -/
def State.siteBeaconDue (s : State) : State :=
  let s' := s.onLink fun l => { l with beaconTimer := siteBeaconTime }
  if s.onBus ∧ s.link.queue.length < noticeMark then s'.enqueue (.siteBeacon s.beacon) else s'.bump .beaconsSkipped

/-- SITE_BEACON_TIMER_EXPIRY (R164). -/
def execSiteBeaconTimerExpiry (s : State) : Host.Outcome State Fault Refusal := s.take State.siteBeaconDue

end Sys2Proof.Machine
end

