-- ==== Sys2Proof/Machine/ResetCommands.lean ====
section
/-! DEFINITION. Machine/ResetCommands.lean: power-on reset, the reset line and the loss of supply (R63, R156, R174). -/

namespace Sys2Proof.Machine

/-- The store when an operation in flight is lost (R174): nothing in flight, the contents of the last completion, and the
completion mark left clear where the loss falls between steps 1 and 4 of the completion. -/
def Store.loseFlight (insideCompletion : Bool) (store : Store) : Store :=
  { store with flight := none,
               completionMark := store.completionMark && !(insideCompletion && store.flight.isSome) }

/-- POWER_ON_RESET (R174, R156): supply is applied, and every block takes its reset state from the store's contents and the pins.
The commands that wait are kept. -/
def execPowerOnReset (s : State) : Host.Outcome State Fault Refusal :=
  .next (State.afterReset (s.store.loseFlight false) s.pins .powerOn s.drawn s.pending)

/-- RESET_LINE (R156): as a power-on reset, with its own reset cause. -/
def execResetLine (insideCompletion : Bool) (s : State) : Host.Outcome State Fault Refusal :=
  .next (if s.supplied then State.afterReset (s.store.loseFlight insideCompletion) s.pins .resetLine s.drawn s.pending else s)

/-- SUPPLY_LOSS (R63, R174): the part stops, the fallback pin reads as deasserted, and an operation in flight is lost. -/
def execSupplyLoss (insideCompletion : Bool) (s : State) : Host.Outcome State Fault Refusal :=
  .next (if s.supplied then { (s.onStore (Store.loseFlight insideCompletion)) with supplied := false } else s)

end Sys2Proof.Machine
end

