-- ==== Sys2Proof/Machine/Queries.lean ====
section
/-! DEFINITION. Machine/Queries.lean: the ten subjects of QUERY and their pages (R165, R166), and the collection of a unit's trips
(R136). An enumerated value whose code R158 does not give is coded by its place in its owner's list (R158; log entry 16). -/

namespace Sys2Proof.Machine

/-- A count as one byte. -/
def lengthByte {α : Type} (l : List α) : Byte := byteOf l.length

/-- A one-second timer field of one byte, rounded up (R165). -/
def timerByte (t : Millis) : Byte := byteOf (secondsUp t)

/-- A one-second timer field of two bytes, rounded up (R165). -/
def timerBytes (t : Millis) : List Byte := twoBytes (secondsUp t)

/-- A stage's code as a byte, 0 for no stage (R158). -/
def stageByte (st : Option StageId) : Byte :=
  match st with
  | none => 0
  | some st => byteOf st.code

/-- A position as a byte, 255 for none (R166). -/
def positionByte (p : Option Nat) : Byte := byteOf (p.getD 255)

/-- The last pass cause: 0 for none, and 1 to 8 in the order of R81's table (R166). -/
def passCauseCode (c : Option PassCause) : Nat :=
  match c with
  | none => 0
  | some c => c.ctorIdx + 1

/-- The six data bytes of a page of SITE (R166). DESIGN CHOICE, log entry 35: R166 gives page 13 a marker load and no value for it
while the blocking-head marker is none; it is 0 then. -/
def State.sitePage (s : State) (page : Nat) : List Byte :=
  match page with
  | 0 => [byteOf s.mode.code, byteOf s.modes.resetCause.ctorIdx, byteOf s.link.state.ctorIdx,
      flagByte s.supervisor.attention] ++ timerBytes s.modes.timer
  | 1 => twoBytes s.account.ceiling ++ twoBytes s.account.effectiveCeiling
  | 2 => fourBytesSigned s.headroom ++ twoBytes s.account.uncontrolled
  | 3 => twoBytes s.stages.cRun ++ twoBytes s.stages.cPend ++ twoBytes s.account.measured
  | 4 => fourBytes s.account.energy ++ twoBytes s.account.elapsed
  | 5 => twoBytes s.account.intervalLength ++ twoBytes (s.account.pendingLength.getD 0) ++
      timerBytes s.account.supervisionTimer
  | 6 => [byteOf s.account.supervision.code, byteOf s.account.metering.code, byteOf s.account.metering.causeCode,
      flagByte s.account.stuckStanding] ++ timerBytes s.account.silence
  | 7 => fourBytes s.account.closed.energy ++ twoBytes s.account.closed.elapsed
  | 8 => [byteOf s.account.closed.cause.ctorIdx, flagByte s.account.windowMetered, timerByte s.account.rateWindow] ++
      twoBytes s.account.persistence ++ [byteOf s.shed.lambda]
  | 9 => [byteOf s.shed.lineLevel, byteOf s.shed.gatewayLevel, timerByte s.shed.holdOff,
      byteOf s.lines.curtail.qualified.val, positionByte (s.lines.curtail.candidate.map Fin.val),
      byteOf s.lines.powerFail.state.ctorIdx]
  | 10 => [byteOf s.lines.pulse.state.ctorIdx, byteOf s.lines.mark.state.ctorIdx] ++ twoBytes s.lines.pulse.width ++
      [lengthByte s.calls.entries, flagByte s.calls.congested]
  | 11 => fourBytes s.calls.arrival ++ [lengthByte s.link.queue, flagByte s.link.stopSlot.isSome]
  | 12 => [byteOf s.arbiter.tokenCounter, byteOf s.arbiter.gate.ctorIdx, flagByte s.arbiter.slotFlag,
      timerByte s.arbiter.pacing, stageByte (s.arbiter.marker.map Marker.stage), byteOf s.link.failures]
  | 13 => twoBytes ((s.arbiter.marker.map Marker.load).getD 0) ++ [lengthByte s.modes.roster,
      byteOf s.modes.readPosition, byteOf s.modes.fedCount, byteOf (passCauseCode s.arbiter.lastPass.cause)]
  | 14 => fourBytesSigned s.arbiter.lastPass.headroomAtStart ++ twoBytes s.arbiter.lastPass.guardBand
  | 15 => fourBytesSigned s.arbiter.lastPass.headroomAtEnd ++
      [byteOf s.arbiter.lastPass.grants, stageByte s.arbiter.lastPass.blockingHead]
  | 16 => fourBytesSigned s.account.allowance ++ [timerByte s.account.evaluationTimer]
  | _ => fourBytes s.account.windowEnergy

/-- The six data bytes of a page of STAGE; an absent lead slot is 255 (R166). DEDUCED, log entry 29: R11 says that the QUERY answers
give the run order list's length and its entries by position, but R166's pages hold only a stage's own position, on this page 3;
R166 is followed. -/
def State.stagePage (s : State) (st : StageId) (page : Nat) : List Byte :=
  let r := s.stage st
  match page with
  | 0 => [byteOf r.state.ctorIdx, byteOf r.working.kind.code] ++ twoBytes r.working.load ++
      [flagByte r.working.surge, byteOf r.working.shedClass]
  | 1 => [leadByte r.working.lead, flagByte r.pendingProfile] ++ twoBytes r.working.minOn ++ twoBytes r.working.minOff
  | 2 => timerBytes r.rest ++ timerBytes r.run ++ [timerByte r.handshake, timerByte r.window]
  | _ => [tokenByte r.token, tokenByte r.withdrawn, flagByte r.rosterFlag, flagByte r.withdrawnByReplay,
      positionByte (s.stages.runOrder.findIdx? fun x => x == st),
      positionByte (s.calls.entries.findIdx? fun e => e.stage == st)]

/-- The bitmap and the cause of a trip slot, 0 and 0 for an empty one (R166). -/
def tripBytes (t : Option TripRecord) : List Byte :=
  match t with
  | none => [0, 0]
  | some t => [t.slots, byteOf t.cause]

/-- The six data bytes of a page of UNIT (R166). -/
def State.unitPage (s : State) (u : UnitId) (page : Nat) : List Byte :=
  let r := s.unit u
  match page with
  | 0 => [byteOf r.presence.ctorIdx, byteOf r.phase.ctorIdx] ++ twoBytes r.window ++
      [byteOf r.errors, byteOf (s.setting .errorThreshold)]
  | _ => tripBytes r.tripSlot ++ [byteOf r.furtherTrips, flagByte r.anomaly, r.group, byteOf r.period]

/-- The six data bytes of a page of QUEUE, for an entry that is there (R166). -/
def State.queuePage (s : State) (e : CallEntry) (page : Nat) : List Byte :=
  match page with
  | 0 => [byteOf e.stage.code, byteOf e.cls, flagByte e.replay, lengthByte s.calls.entries] ++ twoBytes e.waitAge
  | _ => fourBytes e.stamp ++ twoBytes e.passedOver

/-- The remaining minutes of an order: its timer divided by 60 s, rounded up (R103). -/
def ShedOrder.remainingMinutes (o : ShedOrder) : Nat := (o.timer + 59999) / 60000

/-- The six data bytes of a page of ORDER, for an order that is held (R166, R103). -/
def State.orderPage (s : State) (o : ShedOrder) (page : Nat) : List Byte :=
  match page with
  | 0 => [o.number, o.groupValue, o.groupMask, o.kindSet, byteOf o.action.code, lengthByte s.shed.orders]
  | _ => [byteOf o.remainingMinutes] ++ timerBytes o.timer

/-- The six data bytes of ROSTER, for an entry that is there (R166). -/
def State.rosterPage (s : State) (e : RosterEntry) : List Byte :=
  [byteOf e.stage.code, byteOf e.outcome.ctorIdx, lengthByte s.modes.roster, byteOf s.modes.readPosition,
   byteOf s.modes.fedCount, byteOf s.mode.code]

/-- The six data bytes of COUNTER (R166). -/
def State.counterPage (s : State) (index : Nat) : List Byte :=
  [byteOf index] ++ twoBytes (s.counters.toList.getD index 0)

/-- The six data bytes of DIGEST (R166). -/
def State.digestPage (s : State) : List Byte :=
  twoBytes s.store.digest ++ twoBytes s.store.recomputed ++ [flagByte s.store.lock, flagByte s.store.flight.isSome]

/-- The six data bytes of IDENTITY: vendor 41, part 7240, silicon revision 1 (R166, R175). -/
def identityPage : List Byte := twoBytes 41 ++ twoBytes 7240 ++ [1]

/-- The six data bytes of TRIP COLLECT (R166, R136). -/
def State.tripPage (s : State) (u : UnitId) : List Byte :=
  let r := s.unit u
  [byteOf (u.val + 1)] ++ tripBytes r.tripSlot ++ [byteOf r.furtherTrips, flagByte r.anomaly, byteOf r.presence.ctorIdx]

/-- Answer a QUERY with a page that is there, or NOT_FOUND with zero data (R166). -/
def State.answerPage (page : Option (List Byte)) (s : State) : State :=
  match page with
  | some data => s.answer 27 .ok data
  | none => s.answer 27 .notFound []

/-- QUERY SITE (R166). A QUERY that names no subject comes here too, and is malformed (R159; log entry 17). -/
def execQuerySite (data : List Byte) (s : State) : Host.Outcome State Fault Refusal :=
  s.receive (State.gatewayFrame 27 (queryFields 1 0 0 17 data) fun f s => s.answerPage (some (s.sitePage f.2)))

/-- QUERY STAGE (R166). -/
def execQueryStage (data : List Byte) (s : State) : Host.Outcome State Fault Refusal :=
  s.receive
    (State.gatewayFrame 27 (queryFields 2 4 99 3 data) fun f s =>
      s.answerPage ((stageOfCode f.1).map fun st => s.stagePage st f.2))

/-- QUERY UNIT (R120, R166). -/
def execQueryUnit (data : List Byte) (s : State) : Host.Outcome State Fault Refusal :=
  s.receive
    (State.gatewayFrame 27 (queryFields 3 1 24 1 data) fun f s =>
      s.answerPage ((unitOf (byteOf f.1)).map fun u => s.unitPage u f.2))

/-- QUERY QUEUE (R77, R166). -/
def execQueryQueue (data : List Byte) (s : State) : Host.Outcome State Fault Refusal :=
  s.receive
    (State.gatewayFrame 27 (queryFields 4 0 31 1 data) fun f s =>
      s.answerPage (s.calls.entries[f.1]?.map fun e => s.queuePage e f.2))

/-- QUERY ORDER (R103, R166). -/
def execQueryOrder (data : List Byte) (s : State) : Host.Outcome State Fault Refusal :=
  s.receive
    (State.gatewayFrame 27 (queryFields 5 0 3 1 data) fun f s =>
      s.answerPage (s.shed.orders[f.1]?.map fun o => s.orderPage o f.2))

/-- QUERY ROSTER (R166). -/
def execQueryRoster (data : List Byte) (s : State) : Host.Outcome State Fault Refusal :=
  s.receive
    (State.gatewayFrame 27 (queryFields 6 0 95 0 data) fun f s => s.answerPage (s.modes.roster[f.1]?.map s.rosterPage))

/-- QUERY COUNTER (R166). A counter is not cleared by reading it. -/
def execQueryCounter (data : List Byte) (s : State) : Host.Outcome State Fault Refusal :=
  s.receive
    (State.gatewayFrame 27 (queryFields 7 0 53 0 data) fun f s => s.answerPage (some (s.counterPage f.1)))

/-- QUERY DIGEST (R166, R168). -/
def execQueryDigest (data : List Byte) (s : State) : Host.Outcome State Fault Refusal :=
  s.receive (State.gatewayFrame 27 (queryFields 8 0 0 0 data) fun _ s => s.answerPage (some s.digestPage))

/-- QUERY IDENTITY (R166, R175). -/
def execQueryIdentity (data : List Byte) (s : State) : Host.Outcome State Fault Refusal :=
  s.receive (State.gatewayFrame 27 (queryFields 9 0 0 0 data) fun _ s => s.answerPage (some identityPage))

/-- A unit's trip slot, further-trips count and anomaly flag emptied (R136). -/
def UnitRec.collected (r : UnitRec) : UnitRec := { r with tripSlot := none, furtherTrips := 0, anomaly := false }

/-- A collection taken: the answer, and, when it is placed, the emptied record and the attention flag (R136). -/
def State.collectTrips (u : UnitId) (s : State) : State :=
  let s' := s.answerPage (some (s.tripPage u))
  if s.noticeRoom then (s'.onUnit u UnitRec.collected).formAttention else s'

/-- QUERY TRIP COLLECT (R136, R166). -/
def execQueryTripCollect (data : List Byte) (s : State) : Host.Outcome State Fault Refusal :=
  s.receive
    (State.gatewayFrame 27 (queryFields 10 1 24 0 data) fun f s =>
      match unitOf (byteOf f.1) with
      | some u => s.collectTrips u
      | none => s)

end Sys2Proof.Machine
end

