-- ==== Sys2Proof/Machine/Dispatch.lean ====
section
/-! DEFINITION. Machine/Dispatch.lean: the meaning of each command. -/

namespace Sys2Proof.Machine

/-- The effect of a command on everything but the queue of waiting commands: one arm for each row of the table. -/
def exec (i : Instr) (s : State) : Host.Outcome State Fault Refusal :=
  match i with
  | .call u data => Sys2Proof.Machine.execCall u data s
  | .withdraw u data => Sys2Proof.Machine.execWithdraw u data s
  | .started u data => Sys2Proof.Machine.execStarted u data s
  | .stopped u data => Sys2Proof.Machine.execStopped u data s
  | .trip u data => Sys2Proof.Machine.execTrip u data s
  | .tripReset u data => Sys2Proof.Machine.execTripReset u data s
  | .unitBeacon u data => Sys2Proof.Machine.execUnitBeacon u data s
  | .foreignFrame frame => Sys2Proof.Machine.execForeignFrame frame s
  | .setCeiling data => Sys2Proof.Machine.execSetCeiling data s
  | .setCurtail data => Sys2Proof.Machine.execSetCurtail data s
  | .shedOrder data => Sys2Proof.Machine.execShedOrder data s
  | .writeStageElectrical data => Sys2Proof.Machine.execWriteStageElectrical data s
  | .writeStageTiming data => Sys2Proof.Machine.execWriteStageTiming data s
  | .writeUnitGroup data => Sys2Proof.Machine.execWriteUnitGroup data s
  | .writeSetting data => Sys2Proof.Machine.execWriteSetting data s
  | .lockProfiles data => Sys2Proof.Machine.execLockProfiles data s
  | .eraseProfiles data => Sys2Proof.Machine.execEraseProfiles data s
  | .clearUnit data => Sys2Proof.Machine.execClearUnit data s
  | .flushCalls data => Sys2Proof.Machine.execFlushCalls data s
  | .querySite data => Sys2Proof.Machine.execQuerySite data s
  | .queryStage data => Sys2Proof.Machine.execQueryStage data s
  | .queryUnit data => Sys2Proof.Machine.execQueryUnit data s
  | .queryQueue data => Sys2Proof.Machine.execQueryQueue data s
  | .queryOrder data => Sys2Proof.Machine.execQueryOrder data s
  | .queryRoster data => Sys2Proof.Machine.execQueryRoster data s
  | .queryCounter data => Sys2Proof.Machine.execQueryCounter data s
  | .queryDigest data => Sys2Proof.Machine.execQueryDigest data s
  | .queryIdentity data => Sys2Proof.Machine.execQueryIdentity data s
  | .queryTripCollect data => Sys2Proof.Machine.execQueryTripCollect data s
  | .frameTransmission source outcome => Sys2Proof.Machine.execFrameTransmission source outcome s
  | .offBusTimerExpiry => Sys2Proof.Machine.execOffBusTimerExpiry s
  | .siteBeaconTimerExpiry => Sys2Proof.Machine.execSiteBeaconTimerExpiry s
  | .evaluation => Sys2Proof.Machine.execEvaluation s
  | .rateWindowExpiry => Sys2Proof.Machine.execRateWindowExpiry s
  | .silenceTimerExpiry => Sys2Proof.Machine.execSilenceTimerExpiry s
  | .supervisionTimerExpiry => Sys2Proof.Machine.execSupervisionTimerExpiry s
  | .restTimerExpiry st => Sys2Proof.Machine.execRestTimerExpiry st s
  | .runTimerExpiry st => Sys2Proof.Machine.execRunTimerExpiry st s
  | .confirmTimeout st => Sys2Proof.Machine.execConfirmTimeout st s
  | .stopTimeout st => Sys2Proof.Machine.execStopTimeout st s
  | .windowTimerExpiry st => Sys2Proof.Machine.execWindowTimerExpiry st s
  | .windowGuardExpiry u => Sys2Proof.Machine.execWindowGuardExpiry u s
  | .missedWindow u => Sys2Proof.Machine.execMissedWindow u s
  | .startSlotExpiry => Sys2Proof.Machine.execStartSlotExpiry s
  | .orderTimerExpiry number => Sys2Proof.Machine.execOrderTimerExpiry number s
  | .displacementHoldOffExpiry => Sys2Proof.Machine.execDisplacementHoldOffExpiry s
  | .joinTimerExpiry => Sys2Proof.Machine.execJoinTimerExpiry s
  | .settleTimerExpiry => Sys2Proof.Machine.execSettleTimerExpiry s
  | .debouncePinChange line asserted => Sys2Proof.Machine.execDebouncePinChange line asserted s
  | .pulseAssertionEdge => Sys2Proof.Machine.execPulseAssertionEdge s
  | .pulseMinimumWidthReached => Sys2Proof.Machine.execPulseMinimumWidthReached s
  | .pulseMaximumWidthReached => Sys2Proof.Machine.execPulseMaximumWidthReached s
  | .pulseReleaseEdge => Sys2Proof.Machine.execPulseReleaseEdge s
  | .markAssertionEdge => Sys2Proof.Machine.execMarkAssertionEdge s
  | .markReleaseEdge => Sys2Proof.Machine.execMarkReleaseEdge s
  | .markQualified => Sys2Proof.Machine.execMarkQualified s
  | .curtailCodeChange code => Sys2Proof.Machine.execCurtailCodeChange code s
  | .curtailStabilityExpiry => Sys2Proof.Machine.execCurtailStabilityExpiry s
  | .powerFailPinChange asserted => Sys2Proof.Machine.execPowerFailPinChange asserted s
  | .powerFailQualificationExpiry => Sys2Proof.Machine.execPowerFailQualificationExpiry s
  | .writeCompletion => Sys2Proof.Machine.execWriteCompletion s
  | .eraseCompletion => Sys2Proof.Machine.execEraseCompletion s
  | .powerOnReset => Sys2Proof.Machine.execPowerOnReset s
  | .resetLine insideCompletion => Sys2Proof.Machine.execResetLine insideCompletion s
  | .supplyLoss insideCompletion => Sys2Proof.Machine.execSupplyLoss insideCompletion s

end Sys2Proof.Machine
end

