-- ==== Sys2Proof/Machine/Tick.lean ====
section
/-! DEFINITION. Machine/Tick.lean: one millisecond of the part's own clock: every running timer counts, and each timer that runs
out has its expiry taken (spec/00, section 5; log entries 2, 4 and 5). What is due is read from the state as the millisecond
begins: a timer loaded with n ms runs out in the n-th millisecond after its load. Every timer counts the whole millisecond before
the first of its events is taken, so an event is judged by the timers as they stand at the millisecond's end (R56). -/

namespace Sys2Proof.Machine

/-- A timer counts one millisecond down. A timer with 1 ms left runs out in this millisecond: it is left at 1, for its expiry to
be taken by its owner's rule. At 0 it does not run. -/
def countDown (t : Millis) : Millis := if t ≤ 1 then t else t - 1

/-- A timer runs out in the coming millisecond: it has 1 ms left. -/
def timerDue (t : Millis) : Bool := t == 1

/-- The timers of a stage count (R5 to R7, R9). -/
def Stage.tick (r : Stage) : Stage :=
  { r with rest := countDown r.rest, run := countDown r.run, handshake := countDown r.handshake,
           window := countDown r.window }

/-- The window timer of a unit counts (R123). -/
def UnitRec.tick (r : UnitRec) : UnitRec := { r with window := countDown r.window }

/-- The timers of the demand account count (R31, R37, R39, R43). -/
def Account.tick (a : Account) : Account :=
  { a with evaluationTimer := countDown a.evaluationTimer, rateWindow := countDown a.rateWindow,
           silence := countDown a.silence, supervisionTimer := countDown a.supervisionTimer }

/-- The pacing countdown counts while the gate is running (R93, R95). -/
def Arbiter.tick (a : Arbiter) : Arbiter :=
  match a.gate with
  | .running => { a with pacing := countDown a.pacing }
  | .stopped => a

/-- The order timers and the displacement hold-off timer count (R105, R115). -/
def Shed.tick (d : Shed) : Shed :=
  { d with orders := d.orders.map fun o => { o with timer := countDown o.timer }, holdOff := countDown d.holdOff }

/-- So many milliseconds ahead, the width timer is at the minimum in force in TIMING, or at the maximum in force in VALID (R53,
R55, R56). -/
def State.widthEnds (s : State) (ahead : Millis) : Bool :=
  match s.lines.pulse.state with
  | .timing => decide (minimumWidth (s.setting .minimumWidthCode) ≤ s.lines.pulse.width + ahead)
  | .valid => decide (maximumWidth (s.setting .maximumWidthCode) ≤ s.lines.pulse.width + ahead)
  | .released | .stuck => false

/-- The meter pulse line's timers count; the width timer counts up in TIMING and VALID, whatever width is in force (R52, R53,
R56). -/
def PulseLine.tick (l : PulseLine) : PulseLine :=
  { l with debounce := countDown l.debounce,
           width := match l.state with
             | .timing | .valid => l.width + 1
             | .released | .stuck => l.width }

/-- So many milliseconds ahead, the mark timer is at 20 ms in TIMING (R57). -/
def MarkLine.ends (l : MarkLine) (ahead : Millis) : Bool := l.state == .timing && decide (markTime ≤ l.timer + ahead)

/-- The mark line's timers count; the mark timer counts up in TIMING (R52, R57). -/
def MarkLine.tick (l : MarkLine) : MarkLine :=
  { l with debounce := countDown l.debounce, timer := if l.state = .timing then l.timer + 1 else l.timer }

/-- The timers of the site lines count (R52 to R60). -/
def Lines.tick (l : Lines) : Lines :=
  { pulse := l.pulse.tick, mark := l.mark.tick,
    curtail := { l.curtail with stability := countDown l.curtail.stability },
    powerFail := { l.powerFail with timer := countDown l.powerFail.timer } }

/-- The timers of the roof link count (R163, R164). -/
def Link.tick (l : Link) : Link :=
  { l with offBusTimer := countDown l.offBusTimer, beaconTimer := countDown l.beaconTimer }

/-- The whole time of the operation in flight: 7 to 9 ms for a write and 380 to 420 ms for an erase (R169, R172). Where it lies
in these limits is a free value (log entry 5). -/
def Flight.time (f : Flight) : Millis :=
  match f.operation with
  | .write _ => 7 + Config.writeExtra f.drawn % 3
  | .erase => 380 + Config.eraseExtra f.drawn % 41

/-- So many milliseconds ahead, the operation in flight has had its time (R170, R172). -/
def Flight.ends (f : Flight) (ahead : Millis) : Bool := decide (f.time ≤ f.elapsed + ahead)

/-- The operation in flight goes on. -/
def Flight.tick (f : Flight) : Flight := { f with elapsed := f.elapsed + 1 }

/-- Every running timer counts one millisecond. A countdown that runs out in this millisecond is left at 1, for its expiry to be
taken. -/
def State.advance (s : State) : State :=
  { s with
    stages := { s.stages with records := mapTable Stage.tick s.stages.records }
    arbiter := s.arbiter.tick
    account := s.account.tick
    shed := s.shed.tick
    supervisor := { s.supervisor with records := mapTable UnitRec.tick s.supervisor.records }
    lines := s.lines.tick
    modes := { s.modes with timer := countDown s.modes.timer }
    link := s.link.tick
    store := { s.store with flight := s.store.flight.map Flight.tick } }

/-- A command, if a condition holds. -/
def dueIf (c : Instr) (b : Bool) : List Instr := if b then [c] else []

/-- The expiry of the handshake timer is a stop timeout in STOPPING and a confirm timeout elsewhere (R7). -/
def Stage.handshakeExpiry (r : Stage) (st : StageId) : Instr :=
  match r.state with
  | .stopping => .stopTimeout st
  | .idle | .queued | .granted | .running | .held | .tripped => .confirmTimeout st

/-- The expiries due of a stage's timers. -/
def State.stageDue (s : State) (st : StageId) : List Instr :=
  let r := s.stage st
  dueIf (.restTimerExpiry st) (timerDue r.rest) ++ dueIf (.runTimerExpiry st) (timerDue r.run) ++
    dueIf (r.handshakeExpiry st) (timerDue r.handshake) ++ dueIf (.windowTimerExpiry st) (timerDue r.window)

/-- The expiry due of a unit's window timer (R123, R125). -/
def State.unitDue (s : State) (u : UnitId) : List Instr :=
  let r := s.unit u
  match r.phase with
  | .guard => dueIf (.windowGuardExpiry u) (timerDue r.window)
  | .opened => dueIf (.missedWindow u) (timerDue r.window)
  | .none => []

/-- The expiries due of the demand account's timers. -/
def State.accountDue (s : State) : List Instr :=
  dueIf .evaluation (timerDue s.account.evaluationTimer) ++ dueIf .rateWindowExpiry (timerDue s.account.rateWindow) ++
    dueIf .silenceTimerExpiry (timerDue s.account.silence) ++
    dueIf .supervisionTimerExpiry (timerDue s.account.supervisionTimer)

/-- The expiries due of the timers of the arbiter, the shed controller and the mode controller. -/
def State.controlDue (s : State) : List Instr :=
  dueIf .startSlotExpiry (s.arbiter.gate == .running && timerDue s.arbiter.pacing) ++
    (s.shed.orders.flatMap fun o => dueIf (.orderTimerExpiry o.number) (timerDue o.timer)) ++
    dueIf .displacementHoldOffExpiry (timerDue s.shed.holdOff) ++
    dueIf .joinTimerExpiry (s.mode == .startup && timerDue s.modes.timer) ++
    dueIf .settleTimerExpiry (s.mode == .settling && timerDue s.modes.timer)

/-- The edges and qualifications due on the site lines, so many milliseconds ahead of a timer that counts up. -/
def State.linesDue (s : State) (ahead : Millis) : List Instr :=
  dueIf (if s.pins.pulse then .pulseAssertionEdge else .pulseReleaseEdge) (timerDue s.lines.pulse.debounce) ++
    dueIf .pulseMinimumWidthReached (s.lines.pulse.state == .timing && s.widthEnds ahead) ++
    dueIf .pulseMaximumWidthReached (s.lines.pulse.state == .valid && s.widthEnds ahead) ++
    dueIf (if s.pins.mark then .markAssertionEdge else .markReleaseEdge) (timerDue s.lines.mark.debounce) ++
    dueIf .markQualified (s.lines.mark.ends ahead) ++ dueIf .curtailStabilityExpiry (timerDue s.lines.curtail.stability) ++
    dueIf .powerFailQualificationExpiry (timerDue s.lines.powerFail.timer)

/-- The expiries due of the roof link and the completion due of the profile store, so many milliseconds ahead. -/
def State.linkDue (s : State) (ahead : Millis) : List Instr :=
  dueIf .offBusTimerExpiry (timerDue s.link.offBusTimer) ++ dueIf .siteBeaconTimerExpiry (timerDue s.link.beaconTimer) ++
    match s.store.flight with
    | none => []
    | some f => dueIf (match f.operation with | .write _ => .writeCompletion | .erase => .eraseCompletion) (f.ends ahead)

/-- Everything that is due when a timer that counts up has so many milliseconds still to count: 1 as a millisecond begins, 0
once it has been counted. A countdown has 1 ms left at both. -/
def State.dueAhead (s : State) (ahead : Millis) : List Instr :=
  allStages.flatMap s.stageDue ++ units.flatMap s.unitDue ++ s.accountDue ++ s.controlDue ++ s.linesDue ahead ++ s.linkDue ahead

/-- Everything that is due in the coming millisecond. -/
def State.due (s : State) : List Instr := s.dueAhead 1

/-- Take the events that were due as the millisecond began, one after another, each only if it is still due now that the
millisecond has been counted: an event before it may have stopped or reloaded its timer, or changed the width in force (R56).
Where more than one waits, which is next is a free choice (log entry 4). The number bounds how many are taken. -/
def takeDue (choose : Nat → Nat) : Nat → List Instr → State → Host.Outcome State Fault Refusal
  | 0, _, s => .next s
  | fuel + 1, waiting, s =>
    match waiting.filter (s.dueAhead 0).contains with
    | [] => .next s
    | first :: others =>
      let free := !others.isEmpty
      let i := if free then choose s.drawn % (others.length + 1) else 0
      let drawn := if free then s.drawn + 1 else s.drawn
      match exec ((first :: others).getD i first) { s with drawn := drawn } with
      | .next s' => takeDue choose fuel ((first :: others).eraseIdx i) s'
      | .fault r => .fault r
      | .refused r => .refused r

/-- One millisecond passes with no command waiting: every timer counts, and what was due as the millisecond began is taken.
Without supply nothing counts (R63). -/
def tick (s : State) : Host.Outcome State Fault Refusal :=
  if s.supplied then takeDue Config.dueChoice s.due.length s.due s.advance else .next s

end Sys2Proof.Machine
end

