-- ==== Sys2Proof/Safety.lean ====
section
/-! DEFINITION. Safety.lean: what the manual says of the part as a whole, block by block, as conditions on a state. Each is a
condition that reset leaves true and every step keeps. -/

namespace Sys2Proof.Machine

/-- The committed sums are exact: C_run sums the loads of the stages RUNNING, STOPPING or HELD, C_pend those of the GRANTED stages
(R10). -/
abbrev StageTable.sumsExact (t : StageTable) : Prop :=
  t.cRun = (t.records.toList.map Stage.runLoad).sum ∧ t.cPend = (t.records.toList.map Stage.pendLoad).sum

/-- The run order list names each GRANTED, RUNNING, STOPPING and HELD stage once, and no other (R11). -/
abbrev StageTable.runOrderExact (t : StageTable) : Prop :=
  t.runOrder.Nodup ∧
    ∀ (u : UnitId) (k : Slot),
      ({ unit := u, slot := k } : StageId) ∈ t.runOrder ↔ (t.get { unit := u, slot := k }).state.listed = true

/-- A profile holds the values R168 allows its stage: load, class, min-on and min-off in range and a lead slot that is not the
stage's own. -/
abbrev Profile.valid (k : Slot) (p : Profile) : Prop :=
  1 ≤ p.load ∧ p.load ≤ 600 ∧ 1 ≤ p.shedClass ∧ p.shedClass ≤ 3 ∧ p.minOn ≤ 1800 ∧ p.minOff ≤ 1800 ∧ p.lead ≠ some k

/-- A setting's value is one R168 allows: in its range, and for the interval length one of 300, 900 and 1800. -/
abbrev Setting.allows (x : Setting) (v : Nat) : Prop :=
  x.range.1 ≤ v ∧ v ≤ x.range.2 ∧ (x = .intervalLength → v = 300 ∨ v = 900 ∨ v = 1800)

/-- What a write in flight carries is a value R168 allows. -/
def StoreItem.valid (item : StoreItem) : Bool :=
  match item with
  | .electrical st _ load _ cls lead =>
    decide (1 ≤ load ∧ load ≤ 600 ∧ 1 ≤ cls ∧ cls ≤ 3 ∧ lead ≠ some st.slot)
  | .timing _ on off => decide (on ≤ 1800 ∧ off ≤ 1800)
  | .group _ _ => true
  | .setting x v => decide (x.allows v)

/-- What the operation in flight carries, if anything. -/
def Store.itemInFlight (store : Store) : Option StoreItem :=
  match store.flight with
  | some { operation := .write item, .. } => some item
  | _ => none

/-- The store holds only values R168 allows, in its cells and in the write in flight. -/
abbrev Store.valid (store : Store) : Prop :=
  (∀ (u : UnitId) (k : Slot), (store.profile { unit := u, slot := k }).valid k) ∧
    (∀ x ∈ Setting.all, x.allows (store.setting x)) ∧ (∀ item ∈ store.itemInFlight, item.valid = true)

/-- The fields of a stage record agree with its state (R5 to R9, R3): the rest timer stands at zero in RUNNING and STOPPING, the
run timer runs only in RUNNING and the handshake timer only in GRANTED and STOPPING; a GRANTED stage holds a token 1..255, and a
stage IDLE, QUEUED or TRIPPED none; the window timer runs exactly while there is a withdrawn token; the roster flag is set only
in GRANTED, and the pending-profile flag only in GRANTED, RUNNING, STOPPING and HELD. -/
abbrev Stage.valid (r : Stage) : Prop :=
  (r.state = .running ∨ r.state = .stopping → r.rest = 0) ∧
    (r.state ≠ .running → r.run = 0) ∧
    (r.state ≠ .granted ∧ r.state ≠ .stopping → r.handshake = 0) ∧
    (r.state = .granted → 1 ≤ r.token.getD 0 ∧ r.token.getD 0 ≤ 255) ∧
    (r.state = .idle ∨ r.state = .queued ∨ r.state = .tripped → r.token = none) ∧
    (r.withdrawn = none ↔ r.window = 0) ∧
    (r.withdrawnByReplay = true → r.withdrawn ≠ none) ∧
    (r.rosterFlag = true → r.state = .granted) ∧
    (r.pendingProfile = true → r.state.listed = true)

/-- Every stage record agrees with its state, and its working copy is a profile R168 allows. -/
abbrev StageTable.valid (t : StageTable) : Prop :=
  ∀ (u : UnitId) (k : Slot),
    (t.get { unit := u, slot := k }).valid ∧ (t.get { unit := u, slot := k }).working.valid k

/-- The call queue holds one entry for each QUEUED stage and no other entry (R12, R64), at most 32, in the order of class and
arrival stamp (R65), with distinct stamps below the arrival counter (R66). -/
abbrev State.callsExact (s : State) : Prop :=
  (s.calls.entries.map CallEntry.stage).Nodup ∧ (s.calls.entries.map CallEntry.stamp).Nodup ∧
    (∀ (u : UnitId) (k : Slot),
      ({ unit := u, slot := k } : StageId) ∈ s.calls.entries.map CallEntry.stage ↔
        (s.stage { unit := u, slot := k }).state = .queued) ∧
    s.calls.entries.Pairwise (fun a b => a.before b = true) ∧
    (∀ e ∈ s.calls.entries, e.stamp < s.calls.arrival) ∧ s.calls.arrival ≤ max32 ∧
    s.calls.entries.length ≤ callCapacity

/-- What is held is within the part's capacities: 24 notices (R161), four orders with distinct numbers 1..255 (R103), a token
counter of 1..255 (R88), a failures count below 32 (R163). -/
abbrev State.withinCapacity (s : State) : Prop :=
  s.link.queue.length ≤ noticeCapacity ∧ s.shed.orders.length ≤ orderCapacity ∧
    (s.shed.orders.map ShedOrder.number).Nodup ∧ (∀ o ∈ s.shed.orders, o.number ≠ 0) ∧
    1 ≤ s.arbiter.tokenCounter ∧ s.arbiter.tokenCounter ≤ 255 ∧ s.link.failures < failureLimit

/-- The quantities formed from others stand as their rules form them: the congestion flag (R76), the attention flag (R135), the
fallback output (R155) and the resolved curtail level (R100). -/
abbrev State.flagsFormed (s : State) : Prop :=
  s.calls.congested = decide (s.setting .congestionThreshold ≤ s.calls.entries.length) ∧
    s.supervisor.attention = (s.supervisor.records.toList.any fun r => r.tripSlot.isSome || r.anomaly) ∧
    s.modes.fallback = (s.modes.mode == .startup || s.modes.mode == .halted || s.link.state == .offBus) ∧
    s.shed.lambda = max s.shed.lineLevel s.shed.gatewayLevel

/-- A unit record agrees with its presence: a PRESENT unit is in a window and below the error threshold, any other is in no
window, and an ABSENT unit stands at the threshold (R122, R123, R127 to R129). -/
abbrev UnitRec.valid (threshold : Nat) (r : UnitRec) : Prop :=
  (r.presence = .present → r.phase ≠ .none ∧ r.errors < threshold) ∧
    (r.presence ≠ .present → r.phase = .none ∧ r.window = 0) ∧ (r.presence = .absent → r.errors = threshold)

/-- Every unit record agrees with its presence, and a stage is HELD only in an ABSENT unit, whose other stages are IDLE or
TRIPPED (R23, R24). -/
abbrev State.unitsValid (s : State) : Prop :=
  ∀ u : UnitId,
    (s.unit u).valid (s.setting .errorThreshold) ∧
      ∀ k : Slot,
        ((s.stage { unit := u, slot := k }).state = .held → (s.unit u).presence = .absent) ∧
          ((s.unit u).presence = .absent →
            (s.stage { unit := u, slot := k }).state = .idle ∨ (s.stage { unit := u, slot := k }).state = .held ∨
              (s.stage { unit := u, slot := k }).state = .tripped)

/-- One of the three interval lengths (R29). -/
abbrev intervalAllowed (v : Nat) : Prop := v = 300 ∨ v = 900 ∨ v = 1800

/-- The demand account's quantities are in the ranges R29 gives; the elapsed time has not reached the interval length (R33), the
allowance lies between -65535 and the effective ceiling (R47), the supervision timer runs exactly in SUPERVISED (R42, R43), and
the window-metered flag is set only in METERED (R37). -/
abbrev Account.valid (a : Account) : Prop :=
  intervalAllowed a.intervalLength ∧ (∀ v ∈ a.pendingLength, intervalAllowed v) ∧ a.elapsed < a.intervalLength ∧
    a.energy ≤ max32 ∧ a.windowEnergy ≤ max32 ∧ a.measured ≤ max16 ∧ a.uncontrolled ≤ max16 ∧ a.ceiling ≤ max16 ∧
    a.effectiveCeiling ≤ max16 ∧ -65535 ≤ a.allowance ∧ a.allowance ≤ a.effectiveCeiling ∧ a.persistence ≤ max16 ∧
    (a.supervision = .supervised ↔ 0 < a.supervisionTimer) ∧ (a.windowMetered = true → a.metering = .metered)

/-- The records of the site lines agree with their states (R53, R57, R58, R60); the delivered curtail level is that of the
qualified code, and the shed controller holds it (R59, R100); and the stuck-standing flag is set exactly in STUCK, with the
metering state ESTIMATED by STUCK (R40, R55). -/
abbrev State.linesValid (s : State) : Prop :=
  s.lines.pulse.level = (s.lines.pulse.state != .released) ∧ s.lines.mark.level = (s.lines.mark.state != .released) ∧
    (s.lines.curtail.candidate = none ↔ s.lines.curtail.stability = 0) ∧
    s.lines.curtail.candidate ≠ some s.lines.curtail.qualified ∧
    s.lines.curtail.delivered = s.lineLevelOf s.lines.curtail.qualified ∧ s.shed.lineLevel = s.lines.curtail.delivered ∧
    (s.lines.powerFail.timer = 0 ↔ s.lines.powerFail.state = .normal ∨ s.lines.powerFail.state = .failed) ∧
    s.account.stuckStanding = (s.lines.pulse.state == .stuck) ∧
    (s.account.stuckStanding = true → s.account.metering = .estimated .stuck)

/-- The pacing gate is stopped exactly in MAINS_OFF and SETTLING, with no slot (R95); the mode timer runs exactly in STARTUP and
SETTLING (R140); and the power-fail line stands qualified asserted in MAINS_OFF and deasserted in COORDINATING, SETTLING and
REPLAY (R141). -/
abbrev State.modesValid (s : State) : Prop :=
  (s.arbiter.gate = .stopped ↔ s.mode = .mainsOff ∨ s.mode = .settling) ∧
    (s.arbiter.gate = .stopped → s.arbiter.slotFlag = false) ∧
    (s.modes.timer = 0 ↔ s.mode ≠ .startup ∧ s.mode ≠ .settling) ∧
    (s.mode = .mainsOff → s.lines.powerFail.state.asserted = true) ∧
    (s.mode = .coordinating ∨ s.mode = .settling ∨ s.mode = .replay → s.lines.powerFail.state.asserted = false)

/-- The restart roster names no stage twice, is empty in STARTUP, COORDINATING and HALTED, and counts its FED entries, at most
four (R144, R150); every entry before the read position is RESTORED or DROPPED (R152); and the call queue's replay entries are
those of the FED stages, and stand only in REPLAY (R74, R78, R151). -/
abbrev State.rosterExact (s : State) : Prop :=
  (s.modes.roster.map RosterEntry.stage).Nodup ∧
    s.modes.fedCount = s.modes.roster.countP (fun e => e.outcome == .fed) ∧ s.modes.fedCount ≤ fedLimit ∧
    s.modes.readPosition ≤ s.modes.roster.length ∧
    (∀ e ∈ s.modes.roster.take s.modes.readPosition, e.outcome = .restored ∨ e.outcome = .dropped) ∧
    (∀ (u : UnitId) (k : Slot),
      (∃ e ∈ s.calls.entries, e.stage = { unit := u, slot := k } ∧ e.replay = true) ↔
        ({ stage := { unit := u, slot := k }, outcome := .fed } : RosterEntry) ∈ s.modes.roster) ∧
    (s.mode ≠ .replay → ∀ e ∈ s.calls.entries, e.replay = false) ∧
    (s.mode = .startup ∨ s.mode = .coordinating ∨ s.mode = .halted → s.modes.roster = [])

/-- The blocking-head marker names a stage in the call queue, and none outside COORDINATING and REPLAY (R82, R92, R97). -/
abbrev State.markerExact (s : State) : Prop :=
  (∀ m ∈ s.arbiter.marker, m.stage ∈ s.calls.entries.map CallEntry.stage) ∧
    (s.mode.admits = false → s.arbiter.marker = none)

/-- From s to p a stage comes to have the record r; or, in REPLAY, r is IDLE and the feeder has QUEUED the stage since, its roster
entry being FED (R68, R150). -/
abbrev State.leftOrFed (s p : State) (st : StageId) (r : Stage) : Prop :=
  p.stage st = r ∨
    (s.mode = .replay ∧ p.mode = .replay ∧ r.state = .idle ∧ p.stage st = { r with state := .queued } ∧
      ({ stage := st, outcome := .fed } : RosterEntry) ∈ p.modes.roster)

/-- What the call queue and the restart roster hold when, in REPLAY, the entries of the stages that `out` names have been removed
for a cause other than a grant and the feeder has acted on the replay entries among them: a replay entry removed does not come back;
its roster entry is DROPPED, or the roster is finished and the mode COORDINATING (R74, R151, R152); the other entries of the queue
stand as before but for their stamps, with those of the stages FED since (R68); the congestion flag is formed (R76) and the marker
cleared if its entry left (R92); in the roster only WAITING entries and those of the removed replay entries have changed; no entry
waits while fewer than four are FED, where a replay entry was removed (R150); and each entry that became DROPPED is counted. -/
abbrev State.replayRemoved (s p : State) (out : StageId → Bool) : Prop :=
  let removed := s.calls.entries.filter fun e => out e.stage
  let entries := fun (o : RosterOutcome) (x : State) => x.modes.roster.countP fun e => e.outcome == o
  let dropped := if p.mode = .replay then entries .dropped p - entries .dropped s else entries .waiting s + entries .fed s
  (p.mode = .replay ∨ (p.mode = .coordinating ∧ p.modes.roster = [])) ∧
    (∀ e ∈ removed, e.replay = true →
      (∀ x ∈ p.calls.entries, x.stage ≠ e.stage) ∧
        (p.mode = .replay → ({ stage := e.stage, outcome := .dropped } : RosterEntry) ∈ p.modes.roster)) ∧
    (∀ e ∈ s.calls.entries, out e.stage = false → ∃ x ∈ p.calls.entries, x = { e with stamp := x.stamp }) ∧
    (∀ x ∈ p.calls.entries,
      (∃ e ∈ s.calls.entries, out e.stage = false ∧ x = { e with stamp := x.stamp }) ∨
        (({ stage := x.stage, outcome := .fed } : RosterEntry) ∈ p.modes.roster ∧
          x = { stage := x.stage, cls := 0, stamp := x.stamp, waitAge := 0, passedOver := 0, replay := true })) ∧
    (removed ≠ [] → p.calls.congested = decide (p.setting .congestionThreshold ≤ p.calls.entries.length)) ∧
    (s.markerExact → p.arbiter =
      { s.arbiter with marker := s.arbiter.marker.filter fun m => !(removed.any fun e => e.stage == m.stage) }) ∧
    (p.mode = .replay →
      p.modes.roster.map RosterEntry.stage = s.modes.roster.map RosterEntry.stage ∧
        (∀ e ∈ s.modes.roster, e.outcome = .waiting ∨ (e.outcome = .fed ∧ out e.stage = true) ∨ e ∈ p.modes.roster) ∧
        p.modes.fedCount = entries .fed p ∧ (removed.any CallEntry.replay = true → entries .waiting p = 0 ∨ entries .fed p = fedLimit)) ∧
    p.counter .rosterDropped =
      if dropped = 0 then s.counter .rosterDropped else min max16 (s.counter .rosterDropped + dropped)

/-- Every notice given has been acted on: a command is taken whole (spec/95). -/
abbrev State.settledDown (s : State) : Prop := s.causes = []

/-- The part has supply, and the notices of the last command have been acted on. -/
abbrev State.powered (s : State) : Prop := s.supplied = true ∧ s.settledDown

/-- The part has supply and takes frames: the link is ON_BUS (R163), and the notices of the last command have been acted on. -/
abbrev State.listening (s : State) : Prop := s.powered ∧ s.onBus = true

/-- Everything the manual says of the part as a whole. -/
structure State.Safe (s : State) : Prop where
  sums : s.stages.sumsExact
  runOrder : s.stages.runOrderExact
  stages : s.stages.valid
  store : s.store.valid
  calls : s.callsExact
  capacity : s.withinCapacity
  flags : s.flagsFormed
  units : s.unitsValid
  account : s.account.valid
  lines : s.linesValid
  modes : s.modesValid
  roster : s.rosterExact
  marker : s.markerExact
  settled : s.settledDown

end Sys2Proof.Machine
end

