-- ==== Sys2Proof/WellFormed.lean ====
section
/-! DEFINITION. WellFormed.lean: which frames and commands the bus and the table can give. -/

namespace Sys2Proof

/-- What classic CAN can put on the wire: at most eight data bytes, an 11-bit or a 29-bit identifier, no data in a
remote frame. -/
def Frame.wellFormed (f : Frame) : Bool :=
  decide (f.data.length ≤ 8) && decide (f.identifier < if f.extended then 536870912 else 2048) &&
    (!f.remote || f.data.isEmpty)

/-- The classic frame's limit of eight data bytes. -/
def fitsFrame (data : List Byte) : Bool := decide (data.length ≤ 8)

/-- A command is well formed when the bus can carry its frame, when a QUERY row carries that row's subject, and when a
foreign frame is foreign. A QUERY that names no subject is carried by QUERY_SITE (log entry 17). -/
def Instr.wellFormed : Instr → Bool
  | .call _ d | .withdraw _ d | .started _ d | .stopped _ d | .trip _ d | .tripReset _ d | .unitBeacon _ d => fitsFrame d
  | .foreignFrame f => f.wellFormed && !f.taken
  | .setCeiling d | .setCurtail d | .shedOrder d | .writeStageElectrical d | .writeStageTiming d
  | .writeUnitGroup d | .writeSetting d | .lockProfiles d | .eraseProfiles d | .clearUnit d | .flushCalls d => fitsFrame d
  | .querySite d => fitsFrame d && (querySubject d ≤ 1 || 10 < querySubject d)
  | .queryStage d => fitsFrame d && querySubject d == 2
  | .queryUnit d => fitsFrame d && querySubject d == 3
  | .queryQueue d => fitsFrame d && querySubject d == 4
  | .queryOrder d => fitsFrame d && querySubject d == 5
  | .queryRoster d => fitsFrame d && querySubject d == 6
  | .queryCounter d => fitsFrame d && querySubject d == 7
  | .queryDigest d => fitsFrame d && querySubject d == 8
  | .queryIdentity d => fitsFrame d && querySubject d == 9
  | .queryTripCollect d => fitsFrame d && querySubject d == 10
  | .orderTimerExpiry number => number != 0
  | .frameTransmission _ _ | .offBusTimerExpiry | .siteBeaconTimerExpiry | .evaluation | .rateWindowExpiry
  | .silenceTimerExpiry | .supervisionTimerExpiry | .restTimerExpiry _ | .runTimerExpiry _ | .confirmTimeout _
  | .stopTimeout _ | .windowTimerExpiry _ | .windowGuardExpiry _ | .missedWindow _ | .startSlotExpiry
  | .displacementHoldOffExpiry | .joinTimerExpiry | .settleTimerExpiry | .debouncePinChange _ _ | .pulseAssertionEdge
  | .pulseMinimumWidthReached | .pulseMaximumWidthReached | .pulseReleaseEdge | .markAssertionEdge | .markReleaseEdge
  | .markQualified | .curtailCodeChange _ | .curtailStabilityExpiry | .powerFailPinChange _
  | .powerFailQualificationExpiry | .writeCompletion | .eraseCompletion | .powerOnReset | .resetLine _
  | .supplyLoss _ => true

end Sys2Proof
end

