-- ==== Sys2Proof/Certificates/Slice0/Obligations.lean ====
section
/-! DEFINITION. Certificates/Slice0/Obligations.lean: the statements for the provers. `State.place`, `State.answer`,
`State.enqueue`, `State.give`, `State.bump` and `StageTable.put` are the shared updates that NoticesArePlaced describes, and
`State.feed`, the replay feeder, is described in JoinAndSettleEnd; `State.drain` acts on the
notices a command has given, one by one: DrainKeepsTheRest says how, PassesGrantWhatFits and ShedsAreMade say what a pass and a
shed check do (log entry 3: the notices and their free order are the model's own form). -/

section ObligationStatements
open Sys2Proof Sys2Proof.Machine

/-- A step takes the command at the front of the queue and runs it on the rest (one queue, first in first out: the model's
choice, log entry 2). (95 What each step holds) -/
def Obligations.StepRunsFrontCommand : Prop :=
  ∀ (c : Instr) (rest : List Instr) (s : State),
    step { s with pending := c :: rest } = exec c { s with pending := rest }

/-- No command faults or is refused in any state (the model's reading, log entries 10 and 26); each keeps the waiting
commands and has its notices acted on. The model's choices and readings: log entries 2, 3. (95 What each step holds, R157,
R159) -/
def Obligations.EveryCommandCompletes : Prop :=
  ∀ (c : Instr) (s : State), s.settledDown → ∃ t, exec c s = .next t ∧ t.pending = s.pending ∧ t.settledDown

/-- Without supply nothing but the pins and a power-on reset has effect; OFF_BUS, every frame sent to the part is lost.
The model's choices and readings: log entry 10. (R63, R157, R163) -/
def Obligations.WithoutSupplyOrBus : Prop :=
  (∀ (c : Instr) (s : State), s.supplied = false → s.fallbackPin = false ∧
    (c ≠ .powerOnReset → ∃ p : Pins, exec c s = .next { s with pins := p } ∧
      ((∀ line level, c ≠ .debouncePinChange line level) → (∀ code, c ≠ .curtailCodeChange code) →
        (∀ level, c ≠ .powerFailPinChange level) → p = s.pins))) ∧
  (∀ (c : Instr) (f : Frame) (s : State), s.powered → s.onBus = false → c.toFrame = some f → exec c s = .next s)

/-- The receive filter reads every well-formed command back from the frame that carries it. The model's choices and
readings: log entry 17. (R157, R158, R159) -/
def Obligations.FrameRoundTrip : Prop :=
  ∀ (i : Instr) (f : Frame), i.wellFormed = true → i.toFrame = some f → Instr.ofFrame f = i

/-- The filter takes exactly the frames of R157's pairs, and a foreign frame is ignored and counted. (R157) -/
def Obligations.ForeignFramesAreCounted : Prop :=
  (∀ f : Frame, f.taken = true ↔
    f.remote = false ∧ f.extended = false ∧ f.identifier < 2048 ∧
      ((f.identifier / 64 ∈ [1, 4, 5, 6, 7, 8, 10] ∧ 1 ≤ f.identifier % 64 ∧ f.identifier % 64 ≤ 24) ∨
        (16 ≤ f.identifier / 64 ∧ f.identifier / 64 ≤ 27 ∧ f.identifier % 64 = 63))) ∧
  ∀ (s : State) (f : Frame), s.listening → f.taken = false →
    exec (.foreignFrame f) s = .next
      { s with counters := s.counters.set Counter.foreignFrames.index (min 65535 (s.counter .foreignFrames + 1)) }

/-- State.reset: what every block holds (erased store, pins at rest, a stopped timer's 0 and stopReason are the model's:
log entries 6, 7, 8, 9, 30). The model's choices and readings: log entries 2, 3. (R28, R50, R61, R79, R98, R119, R139,
R156, R167, R168, R174) -/
def Obligations.ResetValues : Prop :=
  let s := State.reset
  (∀ st : StageId, s.stage st =
    { working := { kind := .none, load := 1, surge := false, shedClass := 3, lead := none, minOn := 180, minOff := 300 },
      pendingProfile := false, state := .idle, rest := 0, run := 0, handshake := 0, token := none, withdrawn := none,
      window := 0, withdrawnByReplay := false, rosterFlag := false, stopReason := none }) ∧
  s.stages.cRun = 0 ∧ s.stages.cPend = 0 ∧ s.stages.runOrder = [] ∧
  s.calls = { entries := [], arrival := 0, congested := false } ∧
  s.arbiter =
    { tokenCounter := 1, pacing := 10000, gate := .running, slotFlag := false, marker := none,
      lastPass := { cause := none, headroomAtStart := 0, guardBand := 0, grants := 0, headroomAtEnd := 0,
                    blockingHead := none } } ∧
  s.account =
    { intervalLength := 900, pendingLength := none, elapsed := 0, energy := 0,
      closed := { energy := 0, elapsed := 0, cause := .clock }, rateWindow := 60000, windowEnergy := 0,
      windowMetered := true, measured := 0, uncontrolled := 500, ceiling := 2000, supervision := .standalone,
      supervisionTimer := 0, metering := .metered, stuckStanding := false, silence := 120000, effectiveCeiling := 2000,
      allowance := 2000, persistence := 0, evaluationTimer := 1000 } ∧
  s.headroom = 1500 ∧
  s.shed = { lineLevel := 0, gatewayLevel := 0, lambda := 0, orders := [], holdOff := 0 } ∧
  (∀ u : UnitId, s.unit u =
    { presence := .unknown, phase := .none, window := 0, period := 5, errors := 0, tripSlot := none, furtherTrips := 0,
      anomaly := false, group := 0 }) ∧
  s.supervisor.attention = false ∧
  s.lines =
    { pulse := { level := false, debounce := 0, state := .released, width := 0 },
      mark := { level := false, debounce := 0, state := .released, timer := 0 },
      curtail := { qualified := 0, candidate := none, stability := 0, delivered := 0 },
      powerFail := { state := .normal, timer := 0 } } ∧
  s.modes = { mode := .startup, timer := 15000, roster := [], readPosition := 0, fedCount := 0, resetCause := .powerOn,
              fallback := true } ∧
  s.fallbackPin = true ∧
  s.link = { state := .onBus, failures := 0, offBusTimer := 0, queue := [], stopSlot := none, beaconTimer := 2000,
             headAttempt := false } ∧
  (∀ st : StageId, s.store.profile st =
    { kind := .none, load := 1, surge := false, shedClass := 3, lead := none, minOn := 180, minOff := 300 }) ∧
  (∀ u : UnitId, s.store.group u = 0) ∧ (∀ x : Setting, s.setting x = x.default) ∧
  s.store = { s.store with digest := 61252, completionMark := true, lock := false, flight := none, recomputed := 61252 } ∧
  s.supplied = true ∧ s.pins = { pulse := false, mark := false, curtail := 0, powerFail := false } ∧
  (∀ c : Counter, s.counter c = 0) ∧ s.pending = [] ∧ s.causes = [] ∧ s.drawn = 0

/-- POWER_ON_RESET, RESET_LINE, SUPPLY_LOSS: what each block holds after a reset, what a loss loses (the model's clauses:
log entries 6, 8, 9, 10, 22, 27, 30). (R28, R50, R61, R63, R79, R98, R119, R139, R156, R167, R174) -/
def Obligations.ResetFromStore : Prop :=
  (∀ (s : State) (c : Instr) (inside : Bool) (cause : ResetCause),
    (c = .powerOnReset ∧ inside = false ∧ cause = .powerOn) ∨
      (c = .resetLine inside ∧ cause = .resetLine ∧ s.supplied = true) →
    ∃ t, exec c s = .next t ∧
      let mark := s.store.completionMark && !(inside && s.store.flight.isSome)
      let passes := mark && s.store.contentsDigest == s.store.digest
      let setting := s.store.setting
      t.supplied = true ∧ t.pins = s.pins ∧ t.pending = s.pending ∧ t.drawn = s.drawn ∧ t.causes = [] ∧
      t.store = { s.store with flight := none, recomputed := s.store.contentsDigest, completionMark := mark } ∧
      (∀ st, t.stage st =
        { working := s.store.profile st, pendingProfile := false, state := .idle,
          rest := if (s.store.profile st).kind = .none then 0 else 1000 * (s.store.profile st).minOff, run := 0,
          handshake := 0, token := none, withdrawn := none, window := 0, withdrawnByReplay := false, rosterFlag := false,
          stopReason := none }) ∧
      t.stages.cRun = 0 ∧ t.stages.cPend = 0 ∧ t.stages.runOrder = [] ∧
      t.calls = { entries := [], arrival := 0, congested := false } ∧
      t.arbiter =
        { tokenCounter := 1, pacing := 1000 * setting .staggerPeriod, gate := .running, slotFlag := false, marker := none,
          lastPass := { cause := none, headroomAtStart := 0, guardBand := 0, grants := 0, headroomAtEnd := 0,
                        blockingHead := none } } ∧
      t.account =
        { intervalLength := setting .intervalLength, pendingLength := none, elapsed := 0, energy := 0,
          closed := { energy := 0, elapsed := 0, cause := .clock }, rateWindow := 60000, windowEnergy := 0,
          windowMetered := true, measured := 0, uncontrolled := setting .baseLoadDefault,
          ceiling := setting .fallbackCeiling, supervision := .standalone, supervisionTimer := 0, metering := .metered,
          stuckStanding := false, silence := 1000 * setting .silenceTimeout,
          effectiveCeiling := setting .fallbackCeiling, allowance := setting .fallbackCeiling, persistence := 0,
          evaluationTimer := 1000 } ∧
      t.shed = { lineLevel := 0, gatewayLevel := 0, lambda := 0, orders := [], holdOff := 0 } ∧
      (∀ u, t.unit u =
        { presence := .unknown, phase := .none, window := 0, period := setting .beaconPeriod, errors := 0,
          tripSlot := none, furtherTrips := 0, anomaly := false, group := s.store.group u }) ∧
      t.supervisor.attention = false ∧
      t.lines =
        { pulse := { level := false, debounce := if s.pins.pulse then 5 else 0, state := .released, width := 0 },
          mark := { level := false, debounce := if s.pins.mark then 5 else 0, state := .released, timer := 0 },
          curtail := { qualified := 0, candidate := if s.pins.curtail = 0 then none else some s.pins.curtail,
                       stability := if s.pins.curtail = 0 then 0 else 1000, delivered := 0 },
          powerFail := { state := if s.pins.powerFail then .failPending else .normal,
                         timer := if s.pins.powerFail then 500 else 0 } } ∧
      t.modes =
        { mode := if passes then .startup else .halted, timer := if passes then 3000 * setting .beaconPeriod else 0,
          roster := [], readPosition := 0, fedCount := 0, resetCause := cause, fallback := true } ∧
      t.link = { state := .onBus, failures := 0, offBusTimer := 0, queue := [], stopSlot := none, beaconTimer := 2000,
                 headAttempt := false } ∧
      ∀ x, t.counter x = if x = .haltedStarts ∧ passes = false then 1 else 0) ∧
  (∀ (s : State) (inside : Bool), s.supplied = true →
    exec (.supplyLoss inside) s = .next
      { s with supplied := false,
               store := { s.store with flight := none,
                                       completionMark := s.store.completionMark && !(inside && s.store.flight.isSome) } })

/-- The state after reset keeps every condition of Safety.lean (erased store, pins at rest, a stopped timer's 0: the
model's choices, log entries 7, 8 and 30). (R10, R11, R65, R144, R168) -/
def Obligations.ResetIsSafe : Prop :=
  State.reset.Safe

/-- Every step keeps the committed sums and the run order list exact. (R10, R11, R15, R16, R19, R20, R21, R23, R24, R25,
R27) -/
def Obligations.SumsAndRunOrderKept : Prop :=
  ∀ s t : State, step s = .next t → s.stages.sumsExact ∧ s.stages.runOrderExact → t.stages.sumsExact ∧ t.stages.runOrderExact

/-- Every step keeps the capacities: 24 notices, four distinct orders, a token counter of 1..255, fewer than 32 failures.
(R88, R103, R161, R163) -/
def Obligations.CapacitiesKept : Prop :=
  ∀ s t : State, step s = .next t → s.withinCapacity → t.withinCapacity

/-- Every step keeps every stored profile and setting, and the write in flight, within the ranges of R2 and R168. (R2,
R160, R168, R169, R170, R172) -/
def Obligations.StoreKept : Prop :=
  ∀ s t : State, step s = .next t → s.store.valid → t.store.valid

/-- Every step keeps the congestion flag, the attention flag, the fallback output and the curtail level as their rules
form them. (R59, R76, R100, R135, R155) -/
def Obligations.FlagsKept : Prop :=
  ∀ s t : State, step s = .next t → s.store.valid ∧ s.flagsFormed → t.store.valid ∧ t.flagsFormed

/-- Every step keeps one call entry for each QUEUED stage and no other, in the order of class and distinct stamps, at most
32. (R12, R13, R64, R65, R66, R68, R70, R73) -/
def Obligations.CallQueueKept : Prop :=
  ∀ s t : State, step s = .next t → s.callsExact → t.callsExact

/-- Every step keeps each stage record in agreement with its state. (R3, R5, R6, R7, R8, R9, R19, R25, R26) -/
def Obligations.StagesKept : Prop :=
  ∀ s t : State, step s = .next t → s.store.valid ∧ s.withinCapacity ∧ s.callsExact ∧ s.stages.valid → t.store.valid ∧ t.withinCapacity ∧ t.callsExact ∧ t.stages.valid

/-- Every step keeps unit records valid, and stages HELD only in ABSENT units. (R23, R24, R122, R123, R127, R128, R129,
R130, R137, R138) -/
def Obligations.UnitsKept : Prop :=
  ∀ s t : State, step s = .next t → s.store.valid ∧ s.unitsValid → t.store.valid ∧ t.unitsValid

/-- Every step keeps the demand account in range: t below T, A between -65535 and K_eff. (R29, R30, R33, R37, R42, R43,
R47, R49) -/
def Obligations.AccountKept : Prop :=
  ∀ s t : State, step s = .next t → s.store.valid ∧ s.account.valid → t.store.valid ∧ t.account.valid

/-- Every step keeps the site line records in agreement with their states (a stopped timer at 0: the model's, log entry
30), and the delivered curtail level. (R40, R53, R54, R55, R57, R58, R59, R60) -/
def Obligations.LinesKept : Prop :=
  ∀ s t : State, step s = .next t → s.linesValid → t.linesValid

/-- Every step keeps the gate, the mode timer and the power-fail level in agreement with the mode. (R95, R97, R140, R141,
R142, R143, R145, R147, R148, R149) -/
def Obligations.ModesKept : Prop :=
  ∀ s t : State, step s = .next t → s.store.valid ∧ s.modesValid → t.store.valid ∧ t.modesValid

/-- Every step keeps the restart roster exact: its FED entries are the replay entries of the call queue, and only in
REPLAY. (R68, R74, R78, R144, R145, R146, R149, R150, R151, R152, R153) -/
def Obligations.RosterKept : Prop :=
  ∀ s t : State, step s = .next t → s.stages.runOrderExact ∧ s.callsExact ∧ s.rosterExact → t.stages.runOrderExact ∧ t.callsExact ∧ t.rosterExact

/-- Every step keeps the blocking-head marker on a stage in the call queue, and none outside COORDINATING and REPLAY.
(R82, R91, R92, R97) -/
def Obligations.MarkerKept : Prop :=
  ∀ s t : State, step s = .next t → s.callsExact ∧ s.markerExact → t.callsExact ∧ t.markerExact

/-- The shared updates: a notice joins the queue's end below 24 or is dropped, a STOP takes an empty slot first, counters
saturate, a stage joins the run order last. The model's choices and readings: log entry 6. (R10, R11, R109, R161, 00
Conventions) -/
def Obligations.NoticesArePlaced : Prop :=
  ∀ s : State,
    (∀ n : Notice, s.link.queue.length < 24 →
      s.place n = { s with link := { s.link with queue := s.link.queue ++ [n],
                                                 headAttempt := (s.place n).link.headAttempt } } ∧
        (s.link.headAttempt = true ∨ (s.link.stopSlot = none ∧ s.link.state = .onBus) ↔
          (s.place n).link.headAttempt = true)) ∧
    (∀ n : Notice, 24 ≤ s.link.queue.length → s.place n = s.bump .noticesDropped) ∧
    (∀ f : StopFrame, s.link.stopSlot = none → s.placeStop f = { s with link := { s.link with stopSlot := some f } }) ∧
    (∀ f : StopFrame, s.link.stopSlot ≠ none → s.placeStop f = s.enqueue (.stop f)) ∧
    (∀ (kind : Nat) (status : Status) (d : List Byte), d.length ≤ 6 →
      s.answer kind status d = s.place (.answer kind status (d ++ List.replicate (6 - d.length) 0))) ∧
    (∀ c d : Counter, (s.bump c).counter d = if d = c then min 65535 (s.counter c + 1) else s.counter d) ∧
    (∀ c : Counter, s.bump c = { s with counters := (s.bump c).counters }) ∧
    (∀ c : Cause, s.give c = { s with causes := s.causes ++ [c] }) ∧
    (∀ (table : StageTable) (st : StageId) (r : Stage),
      let t := table.put st r
      let old := table.get st
      let listed := fun x : Stage => x.state = .granted ∨ x.state = .running ∨ x.state = .stopping ∨ x.state = .held
      let running := fun x : Stage =>
        if x.state = .running ∨ x.state = .stopping ∨ x.state = .held then x.working.load else 0
      let granted := fun x : Stage => if x.state = .granted then x.working.load else 0
      t.get st = r ∧ (∀ x, x ≠ st → t.get x = table.get x) ∧
      t.cRun = table.cRun - running old + running r ∧ t.cPend = table.cPend - granted old + granted r ∧
      (listed r → ¬ listed old → t.runOrder = table.runOrder ++ [st]) ∧
      (¬ listed r → listed old → t.runOrder = table.runOrder.filter (fun x => x != st)) ∧
      ((listed r ↔ listed old) → t.runOrder = table.runOrder))

/-- A malformed unit frame is answered DEFER(INVALID), a malformed gateway frame ANSWER INVALID; each is counted and
changes nothing else. The model's choices and readings: log entry 39. (R122, R158, R159) -/
def Obligations.MalformedFramesAreAnswered : Prop :=
  ∀ (s : State) (d : List Byte), s.listening →
    let field := fun k : Nat => (d.getD k 0).toNat
    let toUnit := fun (u : UnitId) (slot : Byte) (c : Instr) =>
      exec c s = .next ((s.place (.defer u slot .invalid)).bump .malformedUnitFrames)
    let toGateway := fun (kind : Nat) (c : Instr) =>
      exec c s = .next ((s.answer kind .invalid []).bump .malformedGatewayFrames)
    (∀ u, d.length ≠ 1 ∨ 3 < field 0 →
      toUnit u (d.getD 0 0) (.call u d) ∧ toUnit u (d.getD 0 0) (.withdraw u d) ∧ toUnit u (d.getD 0 0) (.stopped u d)) ∧
    (∀ u, d.length ≠ 2 ∨ 3 < field 0 → toUnit u (d.getD 0 0) (.started u d)) ∧
    (∀ u, d.length ≠ 2 ∨ field 0 = 0 ∨ 15 < field 0 ∨ field 1 = 0 ∨ 7 < field 1 → toUnit u 0 (.trip u d)) ∧
    (∀ u, d.length ≠ 1 ∨ field 0 = 0 ∨ 15 < field 0 → toUnit u 0 (.tripReset u d)) ∧
    (∀ u, d.length ≠ 1 ∨ 15 < field 0 → toUnit u 0 (.unitBeacon u d)) ∧
    (d.length ≠ 2 → toGateway 16 (.setCeiling d)) ∧
    (d.length ≠ 1 → toGateway 17 (.setCurtail d)) ∧
    (d.length ≠ 6 ∨ field 0 = 0 ∨ (field 4 ≠ 1 ∧ field 4 ≠ 2) ∨ 15 < field 3 ∨ (field 3 = 0 ∧ 0 < field 5) →
      toGateway 18 (.shedOrder d)) ∧
    (d.length ≠ 8 ∨ field 0 = 0 ∨ 24 < field 0 ∨ 3 < field 1 ∨ 4 < field 2 → toGateway 19 (.writeStageElectrical d)) ∧
    (d.length ≠ 6 ∨ field 0 = 0 ∨ 24 < field 0 ∨ 3 < field 1 → toGateway 20 (.writeStageTiming d)) ∧
    (d.length ≠ 2 ∨ field 0 = 0 ∨ 24 < field 0 → toGateway 21 (.writeUnitGroup d)) ∧
    (d.length ≠ 3 → toGateway 22 (.writeSetting d)) ∧
    (d.length ≠ 0 → toGateway 23 (.lockProfiles d) ∧ toGateway 24 (.eraseProfiles d)) ∧
    (d.length ≠ 1 ∨ field 0 = 0 ∨ 24 < field 0 → toGateway 25 (.clearUnit d)) ∧
    (d.length ≠ 1 ∨ 24 < field 0 → toGateway 26 (.flushCalls d)) ∧
    ∀ q ∈ ([(.querySite, 1, 0, 0, 17), (.queryStage, 2, 4, 99, 3), (.queryUnit, 3, 1, 24, 1), (.queryQueue, 4, 0, 31, 1),
        (.queryOrder, 5, 0, 3, 1), (.queryRoster, 6, 0, 95, 0), (.queryCounter, 7, 0, 53, 0), (.queryDigest, 8, 0, 0, 0),
        (.queryIdentity, 9, 0, 0, 0), (.queryTripCollect, 10, 1, 24, 0)] :
          List ((List Byte → Instr) × Nat × Nat × Nat × Nat)),
      d.length ≠ 3 ∨ field 0 ≠ q.2.1 ∨ field 1 < q.2.2.1 ∨ q.2.2.2.1 < field 1 ∨ q.2.2.2.2 < field 2 →
        toGateway 27 (q.1 d)

/-- In HALTED every gateway command but QUERY and ERASE PROFILES is answered HALTED; an unknown setting number is
NOT_FOUND first. (R101, R104, R143, R160) -/
def Obligations.CommandsAreTurnedAway : Prop :=
  ∀ s : State, s.listening →
    (∀ (number hi lo : Byte), number.toNat = 0 ∨ 25 < number.toNat →
      exec (.writeSetting [number, hi, lo]) s = .next (s.answer 22 .notFound [])) ∧
    (s.mode = .halted → ∀ (a b : Byte) (u : UnitId) (k : Slot),
      let unit := byteOf (u.val + 1)
      let slot := byteOf k.val
      exec (.setCeiling [a, b]) s = .next (s.answer 16 .halted []) ∧
      exec (.setCurtail [a]) s = .next (s.answer 17 .halted []) ∧
      (∀ number kinds action length : Byte, number.toNat ≠ 0 → kinds.toNat ≤ 15 → (action = 1 ∨ action = 2) →
        (kinds.toNat ≠ 0 ∨ length.toNat = 0) →
        exec (.shedOrder [number, a, b, kinds, action, length]) s = .next (s.answer 18 .halted [byteOf s.shed.orders.length])) ∧
      (∀ kind surge cls lead : Byte, kind.toNat ≤ 4 →
        exec (.writeStageElectrical [unit, slot, kind, a, b, surge, cls, lead]) s = .next (s.answer 19 .halted [])) ∧
      (∀ c d : Byte, exec (.writeStageTiming [unit, slot, a, b, c, d]) s = .next (s.answer 20 .halted [])) ∧
      exec (.writeUnitGroup [unit, a]) s = .next (s.answer 21 .halted []) ∧
      (∀ number : Byte, 1 ≤ number.toNat → number.toNat ≤ 25 →
        exec (.writeSetting [number, a, b]) s = .next (s.answer 22 .halted [])) ∧
      exec (.lockProfiles []) s = .next (s.answer 23 .halted []) ∧
      exec (.clearUnit [unit]) s = .next (s.answer 25 .halted []) ∧
      exec (.flushCalls [unit]) s = .next (s.answer 26 .halted []) ∧
      exec (.flushCalls [0]) s = .next (s.answer 26 .halted []))

/-- A well-formed CALL, WITHDRAW, STARTED, STOPPED, TRIP or TRIP RESET from an ABSENT unit is refused with DEFER(ABSENT),
nothing else. (R122) -/
def Obligations.AbsentUnitsAreRefused : Prop :=
  ∀ (s : State) (u : UnitId) (k : Slot), s.listening → (s.unit u).presence = .absent →
    let refused := fun c : Instr => exec c s = .next (s.place (.defer u (byteOf k.val) .absent))
    refused (.call u [byteOf k.val]) ∧ refused (.withdraw u [byteOf k.val]) ∧ refused (.stopped u [byteOf k.val]) ∧
      (∀ token : Byte, refused (.started u [byteOf k.val, token])) ∧
      ∀ bitmap : Byte, bitmap.toNat ≤ 15 → bitmap.getLsbD k.val = true → (∀ j : Slot, j < k → bitmap.getLsbD j.val = false) →
        refused (.tripReset u [bitmap]) ∧
          ∀ cause : Byte, 1 ≤ cause.toNat → cause.toNat ≤ 7 → refused (.trip u [bitmap, cause])

/-- CALL by the stage's state: what it answers (the seconds of a PERMIT sent again rounded up: log entry 15), and the
entry an accepted call makes. The model's choices and readings: log entry 21. (R12, R65, R66, R67, R69, R76) -/
def Obligations.CallsAreTaken : Prop :=
  ∀ (s : State) (st : StageId), s.listening → (s.unit st.unit).presence ≠ .absent →
    let r := s.stage st
    let call := Instr.call st.unit [byteOf st.slot.val]
    let answered := fun reason : DeferReason => State.place (.defer st.unit (byteOf st.slot.val) reason)
    (r.state = .idle → r.working.kind = .none → exec call s = .next (answered .noProfile s)) ∧
    (r.state = .idle → r.working.kind ≠ .none → 32 ≤ s.calls.entries.length →
      exec call s = .next (answered .queueFull (s.bump .queueFullRefusals))) ∧
    (r.state = .queued → exec call s = .next (answered .queued s)) ∧
    (r.state = .granted → exec call s = .next (s.place (.permit st (r.token.getD 0) ((r.handshake + 999) / 1000)))) ∧
    (r.state = .running → exec call s = .next (answered .running s)) ∧
    (r.state = .stopping → exec call s = .next (answered .stopping s)) ∧
    (r.state = .tripped → exec call s = .next (answered .tripped s)) ∧
    (r.state = .idle → r.working.kind ≠ .none → s.calls.entries.length < 32 → s.callsExact →
      ∃ p : State, exec call s = .next p.drain ∧
        p = { s with stages := s.stages.put st { r with state := .queued }, calls := p.calls,
                     link := (answered .queued s).link, counters := p.counters, causes := [.pass .entry] } ∧
        p.counters = (answered .queued
          (if p.calls.congested = true ∧ s.calls.congested = false then s.bump .congestionOnsets else s)).counters ∧
        p.calls.congested = decide (s.setting .congestionThreshold ≤ s.calls.entries.length + 1) ∧
        let placed := s.calls.entries.filter (fun e => decide (e.cls ≤ r.working.shedClass)) ++
          [{ stage := st, cls := r.working.shedClass, stamp := s.calls.arrival, waitAge := 0, passedOver := 0,
             replay := false }] ++ s.calls.entries.filter (fun e => decide (r.working.shedClass < e.cls))
        (s.calls.arrival < 4294967295 → p.calls.entries = placed ∧ p.calls.arrival = s.calls.arrival + 1) ∧
        (s.calls.arrival = 4294967295 →
          p.calls.entries = placed.zipIdx.map (fun e => { e.1 with stamp := e.2 }) ∧
            p.calls.arrival = s.calls.entries.length + 1))

/-- WITHDRAW by the stage's state: a queued call leaves, a permit is declined, and other states ignore it (HELD is left
out: log entry 21). (R9, R13, R14, R73, R74, R92, R151, R153) -/
def Obligations.WithdrawsAreTaken : Prop :=
  ∀ (s : State) (st : StageId), s.listening → (s.unit st.unit).presence ≠ .absent →
    let r := s.stage st
    let withdraw := Instr.withdraw st.unit [byteOf st.slot.val]
    let declined := fun byReplay : Bool =>
      { r with state := .idle, run := 0, handshake := 0, withdrawn := r.token, token := none,
                window := 1000 * s.setting .confirmTimeout, withdrawnByReplay := byReplay, rosterFlag := false,
                working := if r.pendingProfile then s.store.profile st else r.working, pendingProfile := false }
    (r.state = .queued → s.callsExact →
      (s.mode = .replay → ∀ e ∈ s.calls.entries, e.stage = st → e.replay = false) →
      ∃ t, exec withdraw s = .next t ∧ t.calls.entries = s.calls.entries.filter (fun e => e.stage != st) ∧
        t.calls.arrival = s.calls.arrival ∧
        t.calls.congested = decide (s.setting .congestionThreshold ≤ t.calls.entries.length) ∧
        t = { s with stages := s.stages.put st { r with state := .idle }, calls := t.calls,
                     arbiter := { s.arbiter with marker := s.arbiter.marker.filter fun m => m.stage != st },
                     counters := if t.calls.congested = true ∧ s.calls.congested = false then
                       (s.bump .congestionOnsets).counters else s.counters }) ∧
    (r.state = .queued → s.mode = .replay → s.callsExact → s.rosterExact →
      (∀ e ∈ s.calls.entries, e.stage = st → e.replay = true) →
      ∃ p : State, exec withdraw s = .next p.drain ∧
        (let left := s.calls.entries.filter fun e => e.stage != st
          let congested := decide (s.setting .congestionThreshold ≤ left.length)
          p = State.feed (State.bump .rosterDropped
            { s with
              stages := s.stages.put st { r with state := .idle }
              calls := { s.calls with entries := left, congested := congested }
              arbiter := { s.arbiter with marker := s.arbiter.marker.filter fun m => m.stage != st }
              counters := if congested = true ∧ s.calls.congested = false then (s.bump .congestionOnsets).counters
                else s.counters
              modes := { s.modes with
                roster := s.modes.roster.map fun e =>
                  if e.stage = st ∧ e.outcome = .fed then { e with outcome := .dropped } else e
                fedCount := s.modes.fedCount - 1 } })) ∧
        p.stage st = { r with state := .idle } ∧
        (∀ e ∈ p.calls.entries, e.stage ≠ st) ∧
        ((p.mode = .replay ∧ ({ stage := st, outcome := .dropped } : RosterEntry) ∈ p.modes.roster) ∨
          (p.mode = .coordinating ∧ p.modes.roster = []))) ∧
    (r.state = .granted → r.rosterFlag = false ∨ s.mode ≠ .replay →
      exec withdraw s = .next (State.drain
        { s with stages := s.stages.put st (declined r.rosterFlag), counters := (s.bump .declines).counters,
                 causes := [.pass .stageChange] })) ∧
    (r.state = .granted → r.rosterFlag = true → s.mode = .replay → s.rosterExact →
      ({ stage := st, outcome := .restored } : RosterEntry) ∈ s.modes.roster →
      ∃ p : State, exec withdraw s = .next p.drain ∧
        p = State.bump .declines (State.give (.pass .stageChange) (State.feed (State.bump .replayDeclines
          { s with
            stages := s.stages.put st (declined true)
            modes := { s.modes with roster := s.modes.roster.map fun e =>
              if e.stage = st ∧ e.outcome = .restored then { e with outcome := .dropped } else e } }))) ∧
        p.stage st = declined true ∧
        ((p.mode = .replay ∧ ({ stage := st, outcome := .dropped } : RosterEntry) ∈ p.modes.roster) ∨
          (p.mode = .coordinating ∧ p.modes.roster = []))) ∧
    (r.state = .idle ∨ r.state = .running ∨ r.state = .stopping ∨ r.state = .tripped → exec withdraw s = .next s)

/-- STARTED by the stage's state and its token: confirmation, adoption (the roster entry stays: log entry 33), ignored, or
bad token (HELD left out: log entry 21). The model's choices and readings: log entry 36. (R8, R9, R10, R11, R15, R73, R74,
R76, R92, R151) -/
def Obligations.StartsAreTaken : Prop :=
  ∀ (s : State) (st : StageId) (token : Byte), s.listening → (s.unit st.unit).presence ≠ .absent →
    let r := s.stage st
    let started := Instr.started st.unit [byteOf st.slot.val, token]
    let answered := fun reason : DeferReason => State.place (.defer st.unit (byteOf st.slot.val) reason)
    let current := r.token = some token.toNat
    let withdrawn := r.withdrawn = some token.toNat ∧ 0 < r.window
    let confirmed :=
      { r with state := .running, rest := 0, run := 1000 * r.working.minOn, handshake := 0, rosterFlag := false,
                withdrawn := none, window := 0, withdrawnByReplay := false }
    let adopted :=
      { r with state := .running, rest := 0, run := 1000 * r.working.minOn, token := some token.toNat,
                withdrawn := none, window := 0, withdrawnByReplay := false }
    let notices : List Cause := .pass .stageChange :: if r.working.minOn = 0 then [.check .settled] else []
    (r.state = .granted → current ∨ withdrawn →
      exec started s = .next (State.drain
        { s with stages := s.stages.put st confirmed, causes := notices })) ∧
    (r.state = .running ∨ r.state = .stopping → current ∨ withdrawn → exec started s = .next s) ∧
    (r.state = .idle → ¬ current → withdrawn → r.working.kind ≠ .none → s.callsExact →
      exec started s = .next (State.drain
        { s with stages := s.stages.put st adopted, counters := (s.bump .adoptions).counters, causes := notices })) ∧
    (r.state = .queued → ¬ current → withdrawn → r.working.kind ≠ .none → s.callsExact →
      (s.mode = .replay → ∀ e ∈ s.calls.entries, e.stage = st → e.replay = false) →
      let left := s.calls.entries.filter fun e => e.stage != st
      let congested := decide (s.setting .congestionThreshold ≤ left.length)
      let formed := if congested = true ∧ s.calls.congested = false then s.bump .congestionOnsets else s
      exec started s = .next (State.drain
        { s with stages := s.stages.put st adopted
                 calls := { s.calls with entries := left, congested := congested }
                 arbiter := { s.arbiter with marker := s.arbiter.marker.filter fun m => m.stage != st }
                 counters := (formed.bump .adoptions).counters
                 causes := notices })) ∧
    (r.state = .queued → ¬ current → withdrawn → r.working.kind ≠ .none → s.callsExact → s.mode = .replay → s.rosterExact →
      (∀ e ∈ s.calls.entries, e.stage = st → e.replay = true) →
      ∃ p : State, exec started s = .next p.drain ∧
        (let left := s.calls.entries.filter fun e => e.stage != st
          let congested := decide (s.setting .congestionThreshold ≤ left.length)
          p = notices.foldl (fun (x : State) c => x.give c) (State.bump .adoptions (State.feed (State.bump .rosterDropped
            { s with
              stages := s.stages.put st adopted
              calls := { s.calls with entries := left, congested := congested }
              arbiter := { s.arbiter with marker := s.arbiter.marker.filter fun m => m.stage != st }
              counters := if congested = true ∧ s.calls.congested = false then (s.bump .congestionOnsets).counters
                else s.counters
              modes := { s.modes with
                roster := s.modes.roster.map fun e =>
                  if e.stage = st ∧ e.outcome = .fed then { e with outcome := .dropped } else e
                fedCount := s.modes.fedCount - 1 } })))) ∧
        p.stage st = adopted ∧ (∀ e ∈ p.calls.entries, e.stage ≠ st) ∧
        ((p.mode = .replay ∧ ({ stage := st, outcome := .dropped } : RosterEntry) ∈ p.modes.roster) ∨
          (p.mode = .coordinating ∧ p.modes.roster = []))) ∧
    (r.state = .idle ∨ r.state = .queued → ¬ current → withdrawn → r.working.kind = .none →
      exec started s = .next (answered .noProfile s)) ∧
    (r.state ≠ .held → ¬ current → ¬ withdrawn → r.withdrawnByReplay = true →
      exec started s = .next (answered .badToken s)) ∧
    (r.state ≠ .held → ¬ current → ¬ withdrawn → r.withdrawnByReplay = false →
      exec started s = .next ((answered .badToken s).unitError st.unit).drain)

/-- STOPPED by the stage's state: release, done, decline, or ignored. The model's choices and readings: log entry 21. (R3,
R5, R9, R10, R11, R14, R16) -/
def Obligations.StopsAreTaken : Prop :=
  ∀ (s : State) (st : StageId), s.listening → (s.unit st.unit).presence ≠ .absent →
    let r := s.stage st
    let stopped := Instr.stopped st.unit [byteOf st.slot.val]
    let released :=
      { r with state := .idle, rest := 1000 * r.working.minOff, run := 0, handshake := 0, token := none,
                working := if r.pendingProfile then s.store.profile st else r.working, pendingProfile := false }
    (r.state = .running ∨ r.state = .stopping →
      exec stopped s = .next (State.drain
        { s with stages := s.stages.put st released,
                 causes := .pass .stageChange :: if r.working.minOff = 0 then [.pass .restExpiry] else [] })) ∧
    (r.state = .granted → exec stopped s = exec (.withdraw st.unit [byteOf st.slot.val]) s) ∧
    (r.state = .idle ∨ r.state = .queued ∨ r.state = .tripped → exec stopped s = .next s)

/-- TRIP: each named stage is tripped whatever its state, the trip is recorded or counted, and the attention flag is set.
The model's choices and readings: log entries 19, 23, 37. (R1, R3, R5, R10, R11, R25, R74, R76, R81, R92, R133, R135) -/
def Obligations.TripsAreTaken : Prop :=
  ∀ (s : State) (u : UnitId) (bitmap cause : Byte), s.listening → (s.unit u).presence ≠ .absent →
    1 ≤ bitmap.toNat → bitmap.toNat ≤ 15 → 1 ≤ cause.toNat → cause.toNat ≤ 7 →
    let named := ([0, 1, 2, 3] : List Slot).filter fun k => bitmap.getLsbD k.val
    let running := fun k : Slot =>
      let r := s.stage { unit := u, slot := k }
      if r.state = .running ∨ r.state = .stopping ∨ r.state = .held then r.working.load else 0
    let granted := fun k : Slot =>
      let r := s.stage { unit := u, slot := k }
      if r.state = .granted then r.working.load else 0
    let out := fun st : StageId => st.unit == u && bitmap.getLsbD st.slot.val
    let removed := s.calls.entries.filter fun e => out e.stage
    let given : List Cause := named.flatMap fun k =>
      let r := s.stage { unit := u, slot := k }
      (if r.state = .granted ∨ r.state = .running ∨ r.state = .stopping then [.pass .stageChange] else []) ++
        if r.working.minOff = 0 then [.pass .restExpiry] else []
    ∃ p : State, exec (.trip u [bitmap, cause]) s = .next p.drain ∧
      p.stages.cRun = s.stages.cRun - (named.map running).sum ∧ p.stages.cPend = s.stages.cPend - (named.map granted).sum ∧
      p.stages.runOrder = s.stages.runOrder.filter (fun st =>
        !(st.unit == u && bitmap.getLsbD st.slot.val &&
          decide ((s.stage st).state = .granted ∨ (s.stage st).state = .running ∨ (s.stage st).state = .stopping ∨
            (s.stage st).state = .held))) ∧
      p.unit u =
        (match (s.unit u).tripSlot with
          | none => { s.unit u with tripSlot := some { slots := bitmap, cause := cause.toNat } }
          | some _ => { s.unit u with furtherTrips := min 255 ((s.unit u).furtherTrips + 1) }) ∧
      (∀ v, v ≠ u → p.unit v = s.unit v) ∧ p.supervisor.attention = true ∧
      p.counter .trips = min 65535 (s.counter .trips + 1) ∧
      (∀ k : Slot, bitmap.getLsbD k.val = true →
        let r := s.stage { unit := u, slot := k }
        s.leftOrFed p { unit := u, slot := k }
          { r with state := if r.state = .tripped ∨ cause.toNat ≤ 3 then .tripped else .idle,
                   rest := 1000 * r.working.minOff, run := 0, handshake := 0, token := none, withdrawn := none,
                   window := 0, rosterFlag := false, withdrawnByReplay := false,
                   working := if r.pendingProfile then s.store.profile { unit := u, slot := k } else r.working,
                   pendingProfile := false }) ∧
      (∀ st : StageId, st.unit ≠ u ∨ bitmap.getLsbD st.slot.val = false → s.leftOrFed p st (s.stage st)) ∧
      p.causes.filter (fun c => c == .pass .stageChange || c == .pass .restExpiry) = given ∧
      (∀ c : Counter, c ∉ [.trips, .congestionOnsets, .rosterDropped] → p.counter c = s.counter c) ∧
      p = { s with stages := p.stages, calls := p.calls, arbiter := { s.arbiter with marker := p.arbiter.marker },
                   supervisor := p.supervisor, modes := p.modes, counters := p.counters, causes := p.causes } ∧
      (s.mode ≠ .replay →
        p.calls = { s.calls with
          entries := s.calls.entries.filter fun e => !out e.stage
          congested := if removed = [] then s.calls.congested
            else decide (s.setting .congestionThreshold ≤ p.calls.entries.length) } ∧
        p.arbiter.marker = s.arbiter.marker.filter (fun m => !(removed.any fun e => e.stage == m.stage)) ∧
        (s.callsExact → p.counter .congestionOnsets =
          if removed ≠ [] ∧ s.calls.congested = false ∧ s.setting .congestionThreshold + 1 ≤ s.calls.entries.length then
            min 65535 (s.counter .congestionOnsets + 1) else s.counter .congestionOnsets) ∧
        p.modes = s.modes ∧ p.counter .rosterDropped = s.counter .rosterDropped ∧ p.causes = given) ∧
      (s.mode = .replay → s.callsExact → s.rosterExact → s.replayRemoved p out)

/-- TRIP RESET and CLEAR UNIT: a clear moves a TRIPPED stage to IDLE with its rest timer running on, and touches no other
stage. (R26, R134) -/
def Obligations.TrippedStagesAreCleared : Prop :=
  (∀ (s : State) (u : UnitId) (bitmap : Byte), s.listening → (s.unit u).presence ≠ .absent → bitmap.toNat ≤ 15 →
    (bitmap.toNat = 0 → exec (.tripReset u [bitmap]) s =
      .next ((s.place (.defer u 0 .invalid)).bump .malformedUnitFrames)) ∧
    (bitmap.toNat ≠ 0 → ∃ t : State, exec (.tripReset u [bitmap]) s = .next t ∧ t = { s with stages := { s.stages with records := t.stages.records } } ∧
      ∀ st : StageId,
        let r := s.stage st
        t.stage st =
          if st.unit = u ∧ bitmap.getLsbD st.slot.val = true ∧ r.state = .tripped then
            { r with state := .idle, working := if r.pendingProfile then s.store.profile st else r.working,
                     pendingProfile := false }
          else r)) ∧
  (∀ (s : State) (u : UnitId) (k : Slot), s.listening → s.mode ≠ .halted →
    (s.stage { unit := u, slot := k }).state = .tripped →
    ∃ p : State, exec (.clearUnit [byteOf (u.val + 1)]) s = .next p.drain ∧
      let r := s.stage { unit := u, slot := k }
      p.stage { unit := u, slot := k } =
        { r with state := .idle,
                 working := if r.pendingProfile then s.store.profile { unit := u, slot := k } else r.working,
                 pendingProfile := false })

/-- CLEAR UNIT: TRIPPED and HELD stages move to IDLE and are counted in the answer, placed before the passes (log entry
11), and the unit becomes UNKNOWN. The model's choices and readings: log entry 23. (R1, R10, R11, R24, R26, R81, R137,
R160) -/
def Obligations.UnitsAreCleared : Prop :=
  ∀ (s : State) (u : UnitId), s.listening → s.mode ≠ .halted →
    let moved := ([0, 1, 2, 3] : List Slot).countP fun k =>
      decide ((s.stage { unit := u, slot := k }).state = .tripped ∨ (s.stage { unit := u, slot := k }).state = .held)
    let held := ([0, 1, 2, 3] : List Slot).filter fun k => (s.stage { unit := u, slot := k }).state == .held
    ∃ p : State, exec (.clearUnit [byteOf (u.val + 1)]) s = .next p.drain ∧
      p = { s with stages := p.stages, supervisor := p.supervisor, link := (s.answer 25 .ok [byteOf moved]).link,
                   counters := (s.answer 25 .ok [byteOf moved]).counters, causes := p.causes } ∧
      p.unit u = { s.unit u with presence := .unknown, errors := 0, phase := .none, window := 0 } ∧
      (∀ v, v ≠ u → p.unit v = s.unit v) ∧ p.supervisor.attention = s.supervisor.attention ∧
      (∀ st : StageId, st.unit ≠ u → p.stage st = s.stage st) ∧
      p.stages.cRun = s.stages.cRun - (held.map fun k => (s.stage { unit := u, slot := k }).working.load).sum ∧
      p.stages.cPend = s.stages.cPend ∧
      p.stages.runOrder = s.stages.runOrder.filter (fun st => !(st.unit == u && (s.stage st).state == .held)) ∧
      p.causes = held.flatMap (fun k => .pass .stageChange ::
        if (s.stage { unit := u, slot := k }).working.minOff = 0 then [.pass .restExpiry] else []) ∧
      ∀ k : Slot,
        let r := s.stage { unit := u, slot := k }
        let stored := s.store.profile { unit := u, slot := k }
        p.stage { unit := u, slot := k } =
          match r.state with
          | .tripped => { r with state := .idle, working := if r.pendingProfile then stored else r.working,
                                 pendingProfile := false }
          | .held => { r with state := .idle, rest := 1000 * r.working.minOff, run := 0, handshake := 0, token := none,
                              working := if r.pendingProfile then stored else r.working, pendingProfile := false }
          | _ => r

/-- UNIT BEACON by presence, window phase and mode: first acceptance, acceptance, early beacon, rejoin, ignored. (R122,
R123, R124, R126, R130) -/
def Obligations.BeaconsAreTaken : Prop :=
  ∀ (s : State) (u : UnitId) (bitmap : Byte), s.listening → bitmap.toNat ≤ 15 →
    let r := s.unit u
    let period := s.setting .beaconPeriod
    ∃ t : State, exec (.unitBeacon u [bitmap]) s = .next t ∧ (∀ v, v ≠ u → t.unit v = s.unit v) ∧
      ((r.presence = .unknown ∧ s.mode ≠ .mainsOff) ∨ r.presence = .absent ∨
          (r.presence = .awaiting ∧ s.mode = .settling) →
        t.unit u = { r with presence := .present, errors := 0, phase := .guard, period := period, window := 500 * period,
                            anomaly := (t.unit u).anomaly }) ∧
      (r.presence = .absent → t.counter .rejoins = min 65535 (s.counter .rejoins + 1)) ∧
      (r.presence = .present → r.phase = .opened →
        t.unit u = { r with errors := r.errors - 1, phase := .guard, period := period, window := 500 * period,
                            anomaly := (t.unit u).anomaly }) ∧
      (r.presence = .present → r.phase = .guard → t = ((s.bump .earlyBeacons).unitError u).drain) ∧
      (r.presence = .unknown ∨ r.presence = .awaiting → s.mode = .mainsOff → t = s)

/-- An accepted beacon is reconciled slot by slot in every mode: adopt, confirm, resume, release or anomaly, the lower
slot first; in REPLAY the feeder may follow. The model's choices and readings: log entry 19. (R10, R11, R22, R24, R74,
R76, R81, R92, R108, R131, R132, R151) -/
def Obligations.BeaconsAreReconciled : Prop :=
  ∀ (s : State) (u : UnitId) (bitmap : Byte), s.listening → bitmap.toNat ≤ 15 →
    ((s.unit u).presence = .unknown ∧ s.mode ≠ .mainsOff) ∨ (s.unit u).presence = .absent ∨
      ((s.unit u).presence = .awaiting ∧ s.mode = .settling) ∨
      ((s.unit u).presence = .present ∧ (s.unit u).phase = .opened) →
    let slots : List Slot := [0, 1, 2, 3]
    let was := fun k : Slot => s.stage { unit := u, slot := k }
    let reported := fun k : Slot => bitmap.getLsbD k.val
    let waits := fun k : Slot => decide ((was k).state = .idle ∨ (was k).state = .queued)
    let adopted := fun k : Slot => reported k && waits k && (was k).working.kind != .none
    let confirmed := fun k : Slot => reported k && (was k).state == .granted
    let resumed := fun k : Slot => reported k && (was k).state == .held
    let odd := fun k : Slot => reported k && ((was k).state == .tripped || (waits k && (was k).working.kind == .none))
    let ended := fun k : Slot => !reported k &&
      decide ((was k).state = .running ∨ (was k).state = .stopping ∨ (was k).state = .held)
    let loads := fun test : Slot → Bool => ((slots.filter test).map fun k => (was k).working.load).sum
    let out := fun st : StageId => st.unit == u && adopted st.slot
    let removed := s.calls.entries.filter fun e => out e.stage
    let given : List Cause := slots.flatMap fun k =>
      (if adopted k || confirmed k || resumed k || ended k then [.pass .stageChange] else []) ++
      (if resumed k || ((adopted k || confirmed k) && (was k).working.minOn == 0) then [.check .settled] else []) ++
      if ended k && (was k).working.minOff == 0 then [.pass .restExpiry] else []
    let counted := fun (p : State) (c : Counter) (n : Nat) =>
      p.counter c = if n = 0 then s.counter c else min 65535 (s.counter c + n)
    ∃ p : State, exec (.unitBeacon u [bitmap]) s = .next p.drain ∧
      (∀ st : StageId, st.unit ≠ u → s.leftOrFed p st (s.stage st)) ∧
      (∀ k : Slot,
        let st : StageId := { unit := u, slot := k }
        let r := was k
        let started := { r with state := .running, rest := 0, run := 1000 * r.working.minOn, withdrawn := none, window := 0,
                                withdrawnByReplay := false }
        (bitmap.getLsbD k.val = true →
          (r.state = .idle ∨ r.state = .queued → r.working.kind ≠ .none → p.stage st = { started with token := none }) ∧
          (r.state = .idle ∨ r.state = .queued → r.working.kind = .none → p.stage st = r) ∧
          (r.state = .granted → p.stage st = { started with handshake := 0, rosterFlag := false }) ∧
          (r.state = .held → p.stage st = { r with state := .running, rest := 0, run := 0 }) ∧
          (r.state = .running ∨ r.state = .stopping ∨ r.state = .tripped → p.stage st = r)) ∧
        (bitmap.getLsbD k.val = false →
          (r.state = .running ∨ r.state = .stopping ∨ r.state = .held → s.leftOrFed p st
            { r with state := .idle, rest := 1000 * r.working.minOff, run := 0, handshake := 0, token := none,
                     working := if r.pendingProfile then s.store.profile st else r.working, pendingProfile := false }) ∧
          (r.state = .idle → s.leftOrFed p st r) ∧
          (r.state = .queued ∨ r.state = .granted ∨ r.state = .tripped → p.stage st = r))) ∧
      p.stages.runOrder =
        s.stages.runOrder.filter (fun st => !(st.unit == u && ended st.slot)) ++
          (slots.filter adopted).map (fun k => { unit := u, slot := k }) ∧
      (s.stages.sumsExact → p.stages.cRun = s.stages.cRun + loads adopted + loads confirmed - loads ended) ∧
      p.stages.cPend = s.stages.cPend - loads confirmed ∧
      p.unit u =
        { s.unit u with
          presence := .present, errors := if (s.unit u).presence = .present then (s.unit u).errors - 1 else 0,
          phase := .guard, period := s.setting .beaconPeriod, window := 500 * s.setting .beaconPeriod,
          anomaly := (s.unit u).anomaly || slots.any odd } ∧
      (∀ v, v ≠ u → p.unit v = s.unit v) ∧ p.supervisor.attention = (s.supervisor.attention || slots.any odd) ∧
      counted p .adoptions (slots.countP adopted) ∧ counted p .anomalies (slots.countP odd) ∧
      counted p .rejoins (if (s.unit u).presence = .absent then 1 else 0) ∧
      (∀ c : Counter, c ∉ [.adoptions, .anomalies, .rejoins, .congestionOnsets, .rosterDropped] →
        p.counter c = s.counter c) ∧
      p.causes.filter (fun c => c == .pass .stageChange || c == .check .settled || c == .pass .restExpiry) = given ∧
      p = { s with stages := p.stages, calls := p.calls, arbiter := { s.arbiter with marker := p.arbiter.marker },
                   supervisor := p.supervisor, modes := p.modes, counters := p.counters, causes := p.causes } ∧
      (s.mode ≠ .replay →
        p.calls = { s.calls with
          entries := s.calls.entries.filter fun e => !out e.stage
          congested := if removed = [] then s.calls.congested
            else decide (s.setting .congestionThreshold ≤ p.calls.entries.length) } ∧
        p.arbiter.marker = s.arbiter.marker.filter (fun m => !(removed.any fun e => e.stage == m.stage)) ∧
        (s.callsExact → p.counter .congestionOnsets =
          if removed ≠ [] ∧ s.calls.congested = false ∧ s.setting .congestionThreshold + 1 ≤ s.calls.entries.length then
            min 65535 (s.counter .congestionOnsets + 1) else s.counter .congestionOnsets) ∧
        p.modes = s.modes ∧ p.counter .rosterDropped = s.counter .rosterDropped ∧ p.causes = given) ∧
      (s.mode = .replay → s.callsExact → s.rosterExact → s.replayRemoved p out)

/-- A unit error counts for a PRESENT unit only; at the threshold the unit is ABSENT, its stages held (only QUEUED or IDLE
ones give no pass cause: log entry 27). The model's choices and readings: log entry 19. (R10, R11, R13, R23, R73, R74,
R76, R81, R92, R127, R128, R151) -/
def Obligations.UnitErrorsAreCounted : Prop :=
  ∀ (s : State) (u : UnitId),
    let r := s.unit u
    (r.presence ≠ .present → s.unitError u = s) ∧
    (r.presence = .present → r.errors + 1 ≠ s.setting .errorThreshold →
      s.unitError u = (s.onUnit u fun x => { x with errors := x.errors + 1 }).bump .unitErrors) ∧
    (r.presence = .present → r.errors + 1 = s.setting .errorThreshold →
      let p := s.unitError u
      let slots : List Slot := [0, 1, 2, 3]
      let out := fun st : StageId => st.unit == u && (s.stage st).state == .queued
      let removed := s.calls.entries.filter fun e => out e.stage
      let held : List Cause := List.replicate (slots.countP fun k =>
        let x := s.stage { unit := u, slot := k }
        decide (x.state = .granted ∨ x.state = .running ∨ x.state = .stopping)) (.pass .stageChange)
      p.unit u = { r with presence := .absent, errors := r.errors + 1, phase := .none, window := 0 } ∧
      (∀ v, v ≠ u → p.unit v = s.unit v) ∧ p.supervisor.attention = s.supervisor.attention ∧
      p.counter .unitErrors = min 65535 (s.counter .unitErrors + 1) ∧
      p.counter .absences = min 65535 (s.counter .absences + 1) ∧
      (∀ k : Slot,
        let x := s.stage { unit := u, slot := k }
        x.state = .granted ∨ x.state = .running ∨ x.state = .stopping →
          p.stage { unit := u, slot := k } = { x with state := .held, handshake := 0, run := 0, rosterFlag := false }) ∧
      p.stages.runOrder = s.stages.runOrder ∧
      (s.stages.sumsExact →
        let moved := (slots.map fun k =>
          let x := s.stage { unit := u, slot := k }
          if x.state = .granted then x.working.load else 0).sum
        p.stages.cRun = s.stages.cRun + moved ∧ p.stages.cPend = s.stages.cPend - moved) ∧
      (∀ st : StageId, st.unit ≠ u → s.leftOrFed p st (s.stage st)) ∧
      (∀ k : Slot,
        let x := s.stage { unit := u, slot := k }
        (x.state = .queued → p.stage { unit := u, slot := k } = { x with state := .idle }) ∧
        (x.state = .idle ∨ x.state = .held ∨ x.state = .tripped → p.stage { unit := u, slot := k } = x)) ∧
      (∀ c : Counter, c ∉ [.unitErrors, .absences, .congestionOnsets, .rosterDropped] → p.counter c = s.counter c) ∧
      (∃ given, p.causes = s.causes ++ given ∧ given.filter (fun c => c == .pass .stageChange) = held) ∧
      p = { s with stages := p.stages, calls := p.calls, arbiter := { s.arbiter with marker := p.arbiter.marker },
                   supervisor := p.supervisor, modes := p.modes, counters := p.counters, causes := p.causes } ∧
      (s.mode ≠ .replay →
        p.calls = { s.calls with
          entries := s.calls.entries.filter fun e => !out e.stage
          congested := if removed = [] then s.calls.congested
            else decide (s.setting .congestionThreshold ≤ p.calls.entries.length) } ∧
        p.arbiter.marker = s.arbiter.marker.filter (fun m => !(removed.any fun e => e.stage == m.stage)) ∧
        (s.callsExact → p.counter .congestionOnsets =
          if removed ≠ [] ∧ s.calls.congested = false ∧ s.setting .congestionThreshold + 1 ≤ s.calls.entries.length then
            min 65535 (s.counter .congestionOnsets + 1) else s.counter .congestionOnsets) ∧
        p.modes = s.modes ∧ p.counter .rosterDropped = s.counter .rosterDropped ∧ p.causes = s.causes ++ held) ∧
      (s.mode = .replay → s.callsExact → s.rosterExact → s.replayRemoved p out))

/-- WINDOW_GUARD_EXPIRY opens the window for one and a half periods; MISSED_WINDOW restarts it in OPEN for two and is a
unit error. The model's choices and readings: log entries 10, 13. (R123, R125) -/
def Obligations.UnitWindowsRun : Prop :=
  ∀ (s : State) (u : UnitId), s.powered →
    let r := s.unit u
    (r.phase = .guard → 0 < r.window →
      exec (.windowGuardExpiry u) s = .next (s.onUnit u fun x => { x with phase := .opened, window := 1500 * x.period })) ∧
    (r.phase ≠ .guard ∨ r.window = 0 → exec (.windowGuardExpiry u) s = .next s) ∧
    (r.presence = .present → r.phase = .opened → 0 < r.window →
      exec (.missedWindow u) s = .next
        (((s.onUnit u fun x => { x with period := s.setting .beaconPeriod, window := 2000 * s.setting .beaconPeriod }).bump
          .missedWindows).unitError u).drain) ∧
    (r.presence ≠ .present ∨ r.phase ≠ .opened ∨ r.window = 0 → exec (.missedWindow u) s = .next s)

/-- CONFIRM_TIMEOUT is a lapse with a unit error; STOP_TIMEOUT reloads the timer, sends the STOP again and is a unit
error. The model's choices and readings: log entries 9, 10, 13. (R7, R9, R17, R18, R153) -/
def Obligations.HandshakesTimeOut : Prop :=
  ∀ (s : State) (st : StageId), s.powered →
    let r := s.stage st
    let declined :=
      { r with state := .idle, run := 0, handshake := 0, withdrawn := r.token, token := none,
               window := 1000 * s.setting .confirmTimeout, withdrawnByReplay := r.rosterFlag, rosterFlag := false,
               working := if r.pendingProfile then s.store.profile st else r.working, pendingProfile := false }
    let again : StopFrame := { stage := st, reason := r.stopReason.getD .demand, token := r.token.getD 0 }
    let reloaded := s.onStage st fun x => { x with handshake := 1000 * s.setting .stopTimeout }
    (r.state = .granted → 0 < r.handshake → r.rosterFlag = false →
      exec (.confirmTimeout st) s = .next
        ((State.unitError st.unit { s with stages := s.stages.put st declined, causes := [.pass .stageChange] }).bump
          .lapses).drain) ∧
    (r.state = .granted → 0 < r.handshake → r.rosterFlag = true → s.mode ≠ .replay →
      exec (.confirmTimeout st) s = .next
        (State.drain { s with stages := s.stages.put st declined, counters := (s.bump .lapses).counters,
                              causes := [.pass .stageChange] })) ∧
    (r.state = .granted → 0 < r.handshake → r.rosterFlag = true → s.mode = .replay → s.rosterExact →
      ({ stage := st, outcome := .restored } : RosterEntry) ∈ s.modes.roster →
      ∃ p : State, exec (.confirmTimeout st) s = .next p.drain ∧
        p = State.bump .lapses (State.give (.pass .stageChange) (State.feed (State.bump .replayDeclines
          { s with
            stages := s.stages.put st declined
            modes := { s.modes with roster := s.modes.roster.map fun e =>
              if e.stage = st ∧ e.outcome = .restored then { e with outcome := .dropped } else e } }))) ∧
        p.stage st = declined ∧
        p.supervisor = s.supervisor ∧
        ((p.mode = .replay ∧ ({ stage := st, outcome := .dropped } : RosterEntry) ∈ p.modes.roster) ∨
          (p.mode = .coordinating ∧ p.modes.roster = []))) ∧
    (r.state ≠ .granted ∨ r.handshake = 0 → exec (.confirmTimeout st) s = .next s) ∧
    (r.state = .stopping → 0 < r.handshake → s.link.stopSlot = none →
      exec (.stopTimeout st) s = .next
        (State.unitError st.unit { reloaded with link := { s.link with stopSlot := some again } }).drain) ∧
    (r.state = .stopping → 0 < r.handshake → s.link.stopSlot ≠ none → s.link.queue.length < 24 →
      exec (.stopTimeout st) s = .next ((reloaded.place (.stop again)).unitError st.unit).drain) ∧
    (r.state = .stopping → 0 < r.handshake → s.link.stopSlot ≠ none → 24 ≤ s.link.queue.length →
      exec (.stopTimeout st) s = .next ((reloaded.bump .stopResendsDropped).unitError st.unit).drain) ∧
    (r.state ≠ .stopping ∨ r.handshake = 0 → exec (.stopTimeout st) s = .next s)

/-- REST, RUN and WINDOW_TIMER_EXPIRY, START_SLOT_EXPIRY and DISPLACEMENT_HOLD_OFF_EXPIRY: what each timer's end does. The
model's choices and readings: log entry 10. (R5, R6, R9, R93, R94, R115) -/
def Obligations.TimersExpire : Prop :=
  ∀ (s : State) (st : StageId), s.powered →
    let r := s.stage st
    let period := if s.mode = .replay then s.setting .restartStaggerPeriod else s.setting .staggerPeriod
    (0 < r.rest → exec (.restTimerExpiry st) s = .next
      (State.drain { s with stages := s.stages.put st { r with rest := 0 }, causes := [.pass .restExpiry] })) ∧
    (r.rest = 0 → exec (.restTimerExpiry st) s = .next s) ∧
    (r.state = .running → 0 < r.run → exec (.runTimerExpiry st) s = .next
      (State.drain { s with stages := s.stages.put st { r with run := 0 }, causes := [.check .settled] })) ∧
    (r.state ≠ .running ∨ r.run = 0 → exec (.runTimerExpiry st) s = .next s) ∧
    (0 < r.window → exec (.windowTimerExpiry st) s = .next
      { s with stages := s.stages.put st { r with window := 0, withdrawn := none, withdrawnByReplay := false } }) ∧
    (r.window = 0 → exec (.windowTimerExpiry st) s = .next s) ∧
    (s.arbiter.gate = .running → 0 < s.arbiter.pacing → exec .startSlotExpiry s = .next
      (State.drain { s with arbiter := { s.arbiter with slotFlag := true, pacing := 1000 * period },
                            causes := [.pass .startSlot] })) ∧
    (s.arbiter.gate = .stopped ∨ s.arbiter.pacing = 0 → exec .startSlotExpiry s = .next s) ∧
    exec .displacementHoldOffExpiry s = .next { s with shed := { s.shed with holdOff := 0 } }

/-- SET CEILING sets K, the supervision timer and SUPERVISED; SUPERVISION_TIMER_EXPIRY falls back to STANDALONE. The
model's choices and readings: log entry 10. (R42, R43, R160) -/
def Obligations.CeilingIsSetAndLapses : Prop :=
  ∀ (s : State) (hi lo : Byte), 
    (s.listening → s.mode ≠ .halted → exec (.setCeiling [hi, lo]) s = .next
      (State.answer 16 .ok [hi, lo]
        { s with account := { s.account with ceiling := hi.toNat * 256 + lo.toNat, supervision := .supervised,
                                             supervisionTimer := 60000 * s.setting .supervisionTimeout } })) ∧
    (s.powered → 0 < s.account.supervisionTimer → exec .supervisionTimerExpiry s = .next
      { s with account := { s.account with supervision := .standalone, supervisionTimer := 0,
                                           ceiling := s.setting .fallbackCeiling },
               counters := (s.bump .supervisionLapses).counters }) ∧
    (s.powered → s.account.supervisionTimer = 0 → exec .supervisionTimerExpiry s = .next s)

/-- SET CURTAIL: a level 0..3 is taken, one above 3 is clamped, lambda is formed again, and HALTED turns it away. (R101) -/
def Obligations.CurtailLevelIsSet : Prop :=
  ∀ (s : State) (level : Byte), s.listening →
    (s.mode ≠ .halted →
      let gateway := min level.toNat 3
      let lambda := max s.shed.lineLevel gateway
      exec (.setCurtail [level]) s = .next
        (State.answer 17 (if level.toNat ≤ 3 then .ok else .clamped) [byteOf gateway, byteOf lambda]
          { s with shed := { s.shed with gatewayLevel := gateway, lambda := lambda },
                   counters := if lambda = s.shed.lambda then s.counters else (s.bump .curtailChanges).counters })) ∧
    (s.mode = .halted → exec (.setCurtail [level]) s = .next (s.answer 17 .halted []))

/-- SHED ORDER: cancelled, replaced in place, entered or turned away, its ANSWER before the passes (log entry 11);
ORDER_TIMER_EXPIRY takes the order out. The model's choices and readings: log entry 10. (R81, R103, R104, R105, R108,
R160) -/
def Obligations.ShedOrdersAreTaken : Prop :=
  (∀ (s : State) (number value mask kinds minutes : Byte) (action : OrderAction), s.listening → s.mode ≠ .halted →
    number ≠ 0 → kinds.toNat ≤ 15 → (kinds ≠ 0 ∨ minutes = 0) →
    let order : ShedOrder :=
      { number := number, groupValue := value, groupMask := mask, kindSet := kinds, action := action,
        timer := 60000 * min minutes.toNat 240 }
    let command := Instr.shedOrder [number, value, mask, kinds, byteOf action.code, minutes]
    let status : Status := if minutes.toNat ≤ 240 then .ok else .clamped
    let table := fun orders : List ShedOrder => { s with shed := { s.shed with orders := orders } }
    let answered := fun (status : Status) (t : State) => t.answer 18 status [byteOf t.shed.orders.length]
    let checked := fun t : State => if action = .stop then t.give (.check .orderTaken) else t
    let held := ∃ o ∈ s.shed.orders, o.number = number
    (minutes = 0 → held → exec command s = .next
      ((answered .ok (table (s.shed.orders.filter fun o => o.number != number))).give (.pass .orderLeft)).drain) ∧
    (minutes = 0 → ¬ held → exec command s = .next (answered .notFound s)) ∧
    (minutes ≠ 0 → held → exec command s = .next
      (checked ((answered status (table (s.shed.orders.map fun o => if o.number = number then order else o))).give
        (.pass .orderLeft))).drain) ∧
    (minutes ≠ 0 → ¬ held → s.shed.orders.length < 4 → exec command s = .next
      (checked (answered status (table (s.shed.orders ++ [order])))).drain) ∧
    (minutes ≠ 0 → ¬ held → 4 ≤ s.shed.orders.length → exec command s = .next (answered .full s))) ∧
  (∀ (s : State) (number : Byte), s.powered →
    ((∃ o ∈ s.shed.orders, o.number = number) → exec (.orderTimerExpiry number) s = .next
      (State.drain
        { s with shed := { s.shed with orders := s.shed.orders.filter fun o => o.number != number },
                 counters := (s.bump .ordersExpired).counters, causes := [.pass .orderLeft] })) ∧
    ((∀ o ∈ s.shed.orders, o.number ≠ number) → exec (.orderTimerExpiry number) s = .next s))

/-- The four writes: BUSY, LOCKED, INVALID, or the write in flight with its values clamped and answered OK or CLAMPED. The
model's choices and readings: log entry 5. (R160, R168, R169) -/
def Obligations.WritesAreTaken : Prop :=
  ∀ (s : State) (st : StageId) (u : UnitId) (number a b c d : Byte) (x : Setting), s.listening → s.mode ≠ .halted →
    Setting.ofNumber number.toNat = some x →
    let unit := byteOf (st.unit.val + 1)
    let slot := byteOf st.slot.val
    let started := fun item : StoreItem =>
      { s with store := { s.store with flight := some { operation := .write item, elapsed := 0, drawn := s.drawn } },
               drawn := s.drawn + 1 }
    let taken := fun (kind : Nat) (command : Instr) (item : StoreItem) (same : Prop) (data : List Byte) =>
      (s.store.flight ≠ none → exec command s = .next (s.answer kind .busy [])) ∧
      (s.store.flight = none → s.store.lock = true → exec command s = .next (s.answer kind .locked [])) ∧
      (s.store.flight = none → s.store.lock = false → same →
        exec command s = .next ((started item).answer kind .ok data)) ∧
      (s.store.flight = none → s.store.lock = false → ¬ same →
        exec command s = .next ((started item).answer kind .clamped data))
    let pair := a.toNat * 256 + b.toNat
    let pair' := c.toNat * 256 + d.toNat
    let on := min 1800 pair
    let off := min 1800 pair'
    taken 20 (.writeStageTiming [unit, slot, a, b, c, d]) (.timing st on off) (pair ≤ 1800 ∧ pair' ≤ 1800)
      [byteOf (on / 256), byteOf on, byteOf (off / 256), byteOf off] ∧
    taken 21 (.writeUnitGroup [byteOf (u.val + 1), a]) (.group u a) True [byteOf (u.val + 1), a] ∧
    (x ≠ .intervalLength →
      let v := max x.range.1 (min x.range.2 pair)
      taken 22 (.writeSetting [number, a, b]) (.setting x v) (v = pair) [number, byteOf (v / 256), byteOf v]) ∧
    (x = .intervalLength →
      let v := if pair < 600 then 300 else if pair < 1350 then 900 else 1800
      taken 22 (.writeSetting [number, a, b]) (.setting x v) (v = pair) [number, byteOf (v / 256), byteOf v]) ∧
    ∀ (kind : Kind) (surge cls lead : Byte),
      let command := Instr.writeStageElectrical [unit, slot, byteOf kind.code, a, b, surge, cls, lead]
      let load := max 1 (min 600 pair)
      let surge' := min 1 surge.toNat
      let cls' := max 1 (min 3 cls.toNat)
      (s.store.flight ≠ none → exec command s = .next (s.answer 19 .busy [])) ∧
      (s.store.flight = none → s.store.lock = true → exec command s = .next (s.answer 19 .locked [])) ∧
      (s.store.flight = none → s.store.lock = false → (3 < lead.toNat ∧ lead ≠ 255) ∨ lead.toNat = st.slot.val →
        exec command s = .next (s.answer 19 .invalid [])) ∧
      (∀ k : Option Slot, (k = none ∧ lead = 255) ∨ (∃ l, k = some l ∧ lead.toNat = l.val ∧ l ≠ st.slot) →
        taken 19 command (.electrical st kind load (surge' == 1) cls' k)
          (load = pair ∧ surge' = surge.toNat ∧ cls' = cls.toNat)
          [byteOf kind.code, byteOf (load / 256), byteOf load, byteOf surge', byteOf cls', lead])

/-- LOCK PROFILES sets the lock with anything in flight; ERASE PROFILES starts an erase in every mode, or is BUSY. The
model's choices and readings: log entry 5. (R143, R160, R171, R172) -/
def Obligations.LockAndEraseAreTaken : Prop :=
  ∀ s : State, s.listening →
    (s.mode ≠ .halted →
      exec (.lockProfiles []) s = .next (State.answer 23 .ok [] { s with store := { s.store with lock := true } })) ∧
    (s.store.flight ≠ none → exec (.eraseProfiles []) s = .next (s.answer 24 .busy [])) ∧
    (s.store.flight = none → exec (.eraseProfiles []) s = .next
      (State.answer 24 .ok []
        { s with store := { s.store with flight := some { operation := .erase, elapsed := 0, drawn := s.drawn } },
                 drawn := s.drawn + 1 }))

/-- WRITE_COMPLETION places the value, stores the digest, and gives each changed copy to its owner. The model's choices
and readings: log entries 10, 20. (R3, R30, R44, R56, R59, R73, R74, R76, R121, R129, R151, R170) -/
def Obligations.WritesComplete : Prop :=
  (∀ s : State, s.powered → s.store.flight = none → exec .writeCompletion s = .next s) ∧
  ∀ (s : State) (f : Flight), s.powered → s.store.flight = some f →
    let stored := fun store : Store =>
      { s with store := { store with digest := store.contentsDigest, completionMark := true, flight := none },
               counters := (s.bump .writesCompleted).counters }
    (f.operation = .erase → exec .writeCompletion s = .next s) ∧
    (∀ (u : UnitId) (code : Byte), f.operation = .write (.group u code) →
      let t := stored { s.store with groups := s.store.groups.set u code }
      exec .writeCompletion s = .next
        (if code = s.store.group u then t else t.onUnit u fun r => { r with group := code })) ∧
    (∀ (x : Setting) (v : Nat), f.operation = .write (.setting x v) →
      let t := stored { s.store with settings := s.store.settings.set x.index v }
      (v = s.setting x → exec .writeCompletion s = .next t) ∧
      (v ≠ s.setting x →
        (x = .fallbackCeiling → exec .writeCompletion s = .next
          (if s.account.supervision = .standalone then { t with account := { s.account with ceiling := v } } else t)) ∧
        (x = .intervalLength → exec .writeCompletion s = .next
          { t with account := { s.account with pendingLength := if v = s.account.intervalLength then none else some v } }) ∧
        (x = .errorThreshold → ∃ t' : State, exec .writeCompletion s = .next t' ∧
          t' = { t with supervisor := { s.supervisor with records := t'.supervisor.records } } ∧
          ∀ u, t'.unit u =
            match (s.unit u).presence with
            | .present => { s.unit u with errors := if v ≤ (s.unit u).errors then v - 1 else (s.unit u).errors }
            | .absent => { s.unit u with errors := v }
            | .unknown | .awaiting => s.unit u) ∧
        (x = .congestionThreshold → exec .writeCompletion s = .next
          (let congested := decide (v ≤ s.calls.entries.length)
            let t' := { t with calls := { s.calls with congested := congested } }
            if congested = true ∧ s.calls.congested = false then t'.bump .congestionOnsets else t')) ∧
        (x = .curtailLineLevel → s.lines.curtail.qualified = 1 → v ≠ s.lines.curtail.delivered →
          exec .writeCompletion s = .next
            (State.formLambda
              { t.bump .lineCurtailChanges with
                  lines := { s.lines with curtail := { s.lines.curtail with delivered := v } },
                  shed := { s.shed with lineLevel := v } })) ∧
        (x = .curtailLineLevel → s.lines.curtail.qualified ≠ 1 → s.linesValid → exec .writeCompletion s = .next t) ∧
        (x = .minimumWidthCode → exec .writeCompletion s = .next
          (if s.lines.pulse.state = .timing ∧ minimumWidth v ≤ s.lines.pulse.width then
            { t with lines := { s.lines with pulse := { s.lines.pulse with state := .valid } } } else t)) ∧
        (x = .maximumWidthCode → exec .writeCompletion s = .next
          (if s.lines.pulse.state = .valid ∧ maximumWidth v ≤ s.lines.pulse.width then t.pulseStuck else t)) ∧
        (x ∈ [.guardBand, .markLineUse, .pulseWeight, .silenceTimeout, .baseLoadDefault, .beaconPeriod, .confirmTimeout,
            .stopTimeout, .staggerPeriod, .restartStaggerPeriod, .settleDelay, .supervisionTimeout, .promoteTime,
            .holdBackTime, .shedDelay, .curtailPercent1, .curtailPercent2, .curtailPercent3] →
          exec .writeCompletion s = .next t))) ∧
    (∀ (st : StageId) (new : Profile),
      (∃ kind load surge cls lead, f.operation = .write (.electrical st kind load surge cls lead) ∧
        new = { s.store.profile st with kind := kind, load := load, surge := surge, shedClass := cls, lead := lead }) ∨
      (∃ on off, f.operation = .write (.timing st on off) ∧
        new = { s.store.profile st with minOn := on, minOff := off }) →
      let t := stored { s.store with profiles := s.store.profiles.set st.index new }
      let r := s.stage st
      (new = s.store.profile st → exec .writeCompletion s = .next t) ∧
      (new ≠ s.store.profile st →
        (r.state = .idle ∨ r.state = .tripped ∨ (r.state = .queued ∧ new.kind ≠ .none) →
          exec .writeCompletion s = .next (t.onStage st fun r => { r with working := new })) ∧
        (r.state = .granted ∨ r.state = .running ∨ r.state = .stopping ∨ r.state = .held →
          exec .writeCompletion s = .next (t.onStage st fun r => { r with pendingProfile := true })) ∧
        (r.state = .queued → new.kind = .none → s.callsExact →
          let left := s.calls.entries.filter fun e => e.stage != st
          let congested := decide (s.setting .congestionThreshold ≤ left.length)
          let deferred := t.place (.defer st.unit (byteOf st.slot.val) .noProfile)
          let t' := { (if congested = true ∧ s.calls.congested = false then deferred.bump .congestionOnsets else deferred) with
            stages := s.stages.put st { r with working := new, state := .idle }
            calls := { s.calls with entries := left, congested := congested }
            arbiter := { s.arbiter with marker := s.arbiter.marker.filter fun m => m.stage != st } }
          ((s.mode = .replay → ∀ e ∈ s.calls.entries, e.stage = st → e.replay = false) →
            exec .writeCompletion s = .next t') ∧
          (s.mode = .replay → s.rosterExact → (∀ e ∈ s.calls.entries, e.stage = st → e.replay = true) →
            ∃ p : State, exec .writeCompletion s = .next p.drain ∧
              p = State.feed (State.bump .rosterDropped { t' with
                modes := { s.modes with
                  roster := s.modes.roster.map fun e =>
                    if e.stage = st ∧ e.outcome = .fed then { e with outcome := .dropped } else e
                  fedCount := s.modes.fedCount - 1 } }) ∧
              p.stage st = { r with working := new, state := .idle } ∧ (∀ e ∈ p.calls.entries, e.stage ≠ st) ∧
              ((p.mode = .replay ∧ ({ stage := st, outcome := .dropped } : RosterEntry) ∈ p.modes.roster) ∨
                (p.mode = .coordinating ∧ p.modes.roster = []))))))

/-- ERASE_COMPLETION erases every cell and the lock, reaches the owner of each changed copy (in the model's order, log
entry 12), and ends HALTED. The model's choices and readings: log entries 10, 19, 20. (R3, R30, R44, R56, R59, R74, R76,
R121, R129, R143, R151, R172) -/
def Obligations.ErasesComplete : Prop :=
  (∀ s : State, s.powered → s.store.flight = none → exec .eraseCompletion s = .next s) ∧
  ∀ (s : State) (f : Flight), s.powered → s.store.flight = some f →
    let erased : Profile :=
      { kind := .none, load := 1, surge := false, shedClass := 3, lead := none, minOn := 180, minOff := 300 }
    let changed := fun x : Setting => s.setting x ≠ x.default
    let pulse : PulseState :=
      if changed .minimumWidthCode ∧ s.lines.pulse.state = .timing ∧ 20 ≤ s.lines.pulse.width then .valid
      else s.lines.pulse.state
    let stuck := changed .maximumWidthCode ∧ pulse = .valid ∧ 1000 ≤ s.lines.pulse.width
    let level := if s.lines.curtail.qualified = 0 then 0 else if s.lines.curtail.qualified = 3 then 3 else 2
    let moved := changed .curtailLineLevel ∧ level ≠ s.lines.curtail.delivered
    let taken := fun st : StageId => (s.stage st).state == .queued && s.store.profile st != erased
    let left := s.calls.entries.filter fun e => taken e.stage
    (f.operation ≠ .erase → exec .eraseCompletion s = .next s) ∧
    (f.operation = .erase → ∃ t : State, exec .eraseCompletion s = .next t ∧
      (∀ st, t.store.profile st = erased) ∧ (∀ u, t.store.group u = 0) ∧ (∀ x : Setting, t.setting x = x.default) ∧
      t.store = { s.store with profiles := t.store.profiles, groups := t.store.groups, settings := t.store.settings,
                               digest := 61252, completionMark := true, lock := false, flight := none } ∧
      t.counter .erasesCompleted = min 65535 (s.counter .erasesCompleted + 1) ∧
      (∀ u, t.unit u =
        { s.unit u with
          group := if s.store.group u = 0 then (s.unit u).group else 0
          errors :=
            if changed .errorThreshold then
              match (s.unit u).presence with
              | .present => if 4 ≤ (s.unit u).errors then 3 else (s.unit u).errors
              | .absent => 4
              | .unknown | .awaiting => (s.unit u).errors
            else (s.unit u).errors }) ∧
      t.lines = { s.lines with
        pulse := { s.lines.pulse with state := if stuck then .stuck else pulse }
        curtail := { s.lines.curtail with delivered := if moved then level else s.lines.curtail.delivered } } ∧
      t.shed.lineLevel = (if moved then level else s.shed.lineLevel) ∧
      t.shed.lambda = (if moved then max level s.shed.gatewayLevel else s.shed.lambda) ∧
      t.account.ceiling =
        (if changed .fallbackCeiling ∧ s.account.supervision = .standalone then 2000 else s.account.ceiling) ∧
      t.account.pendingLength =
        (if changed .intervalLength then (if s.account.intervalLength = 900 then none else some 900)
          else s.account.pendingLength) ∧
      (s.mode = .halted → t.modes = { s.modes with mode := .startup, timer := 15000, fallback := true }) ∧
      ∃ (p : State) (again : StageId → Bool), t = p.drain ∧ (s.mode ≠ .replay → t = p ∧ p.causes = []) ∧
        (∀ st, again st = true → s.mode = .replay ∧ (s.stage st).state = .idle ∧ s.store.profile st ≠ erased ∧
          ({ stage := st, outcome := .waiting } : RosterEntry) ∈ s.modes.roster) ∧
        p.stages.runOrder = s.stages.runOrder ∧
        (s.stages.sumsExact → p.stages = { s.stages with records := p.stages.records }) ∧
        (∀ st,
          let r := s.stage st
          s.leftOrFed p st (
            if s.store.profile st = erased then r
            else match r.state with
              | .idle | .tripped => { r with working := erased }
              | .queued => { r with working := erased, state := .idle }
              | .granted | .running | .stopping | .held => { r with pendingProfile := true })) ∧
        p.link = ((allStages.filter fun st => taken st || again st).foldl
          (fun (x : State) st => x.place (.defer st.unit (byteOf st.slot.val) .noProfile)) s).link ∧
        p.account = { s.account with
          ceiling := t.account.ceiling, pendingLength := t.account.pendingLength,
          metering := if stuck then .estimated .stuck else s.account.metering,
          stuckStanding := if stuck then true else s.account.stuckStanding,
          windowMetered := if stuck then false else s.account.windowMetered,
          energy := if stuck then min 4294967295 (s.account.energy + 360) else s.account.energy,
          windowEnergy := if stuck then min 4294967295 (s.account.windowEnergy + 360) else s.account.windowEnergy,
          silence := if stuck then 120000 else s.account.silence } ∧
        (∀ c : Counter, c ∉ [.erasesCompleted, .noticesDropped, .congestionOnsets, .validPulses, .stuckReports,
          .estimateEntries, .lineCurtailChanges, .curtailChanges, .rosterDropped] → p.counter c = s.counter c) ∧
        (∀ c ∈ p.causes, c = .pass .entry ∨ c = .pass .admittingMode ∨ c = .check .admittingMode) ∧
        p = { s with
          stages := p.stages, calls := p.calls, account := p.account, lines := t.lines, link := p.link, modes := p.modes,
          store := t.store, counters := p.counters, causes := p.causes,
          shed := { s.shed with lineLevel := t.shed.lineLevel, lambda := t.shed.lambda },
          supervisor := { s.supervisor with records := t.supervisor.records },
          arbiter := { s.arbiter with marker := p.arbiter.marker } } ∧
        (s.mode ≠ .replay →
          (s.mode ≠ .halted → p.modes = s.modes) ∧
          p.calls = { s.calls with
            entries := s.calls.entries.filter fun e => !taken e.stage
            congested := if left ≠ [] ∨ changed .congestionThreshold then decide (24 ≤ p.calls.entries.length)
              else s.calls.congested } ∧
          p.counter .rosterDropped = s.counter .rosterDropped ∧
          p.arbiter.marker = s.arbiter.marker.filter (fun m => !(left.any fun e => e.stage == m.stage))) ∧
        (s.mode = .replay → s.callsExact → s.rosterExact → s.replayRemoved p taken))

/-- FLUSH CALLS takes the named unit's entries out, or all, returns their stages to IDLE, and answers with their number
after the DEFERs (log entry 31). The model's choices and readings: log entry 11. (R13, R73, R75, R92, R150, R151, R160) -/
def Obligations.CallsAreFlushed : Prop :=
  ∀ (s : State) (u : Option UnitId), s.listening → s.mode ≠ .halted → s.callsExact →
    let command := Instr.flushCalls [match u with | none => 0 | some v => byteOf (v.val + 1)]
    let named := fun e : CallEntry => match u with | none => true | some v => e.stage.unit == v
    let flushed := s.calls.entries.filter named
    let sent := flushed.foldl (fun (s : State) e => s.place (.defer e.stage.unit (byteOf e.stage.slot.val) .flushed)) s
    ((∀ e ∈ flushed, e.replay = false) →
      ∃ t : State, exec command s = .next t ∧
        t.calls.entries = s.calls.entries.filter (fun e => !named e) ∧ t.calls.arrival = s.calls.arrival ∧
        t.link = (sent.answer 26 .ok [byteOf flushed.length]).link ∧
        t.calls.congested =
          (if flushed = [] then s.calls.congested
            else decide (s.setting .congestionThreshold ≤ t.calls.entries.length)) ∧
        (flushed ≠ [] → t.counter .flushedEntries = min 65535 (s.counter .flushedEntries + flushed.length)) ∧
        t.counter .noticesDropped = (sent.answer 26 .ok [byteOf flushed.length]).counter .noticesDropped ∧
        t.counter .congestionOnsets =
          (if flushed ≠ [] ∧ s.calls.congested = false ∧ s.setting .congestionThreshold + 1 ≤ s.calls.entries.length then
            min 65535 (s.counter .congestionOnsets + 1) else s.counter .congestionOnsets) ∧
        (∀ c : Counter, c ∉ [.flushedEntries, .noticesDropped, .congestionOnsets] ∨ (flushed = [] ∧ c ≠ .noticesDropped) →
          t.counter c = s.counter c) ∧
        (∀ st, t.stage st =
          if st ∈ flushed.map CallEntry.stage then { s.stage st with state := .idle } else s.stage st) ∧
        t = { s with stages := { s.stages with records := t.stages.records }, calls := t.calls, link := t.link, counters := t.counters,
                     arbiter := { s.arbiter with
                       marker := s.arbiter.marker.filter fun m => !(flushed.any fun e => e.stage == m.stage) } }) ∧
    (s.mode = .replay → s.rosterExact →
      ∃ p : State, exec command s = .next p.drain ∧
        (∃ y : State,
          let replays := flushed.filter CallEntry.replay
          let placed := flushed.foldl (fun (x : State) e =>
            if e.replay then x else x.place (.defer e.stage.unit (byteOf e.stage.slot.val) .flushed)) s
          p = (if replays = [] then y else y.feed) ∧
          y.modes = { s.modes with
            roster := s.modes.roster.map fun e =>
              if e.stage ∈ replays.map CallEntry.stage ∧ e.outcome = .fed then { e with outcome := .dropped } else e
            fedCount := s.modes.fedCount - replays.length } ∧
          y.counter .rosterDropped = (if replays = [] then s.counter .rosterDropped
            else min 65535 (s.counter .rosterDropped + replays.length)) ∧
          (∀ c : Counter, c ∉ [.flushedEntries, .noticesDropped, .congestionOnsets, .rosterDropped] →
            y.counter c = s.counter c) ∧
          y.link = (placed.answer 26 .ok [byteOf flushed.length]).link ∧
          y.calls.entries = s.calls.entries.filter (fun e => !named e) ∧ y.calls.arrival = s.calls.arrival ∧
          y.calls.congested = (if flushed = [] then s.calls.congested
            else decide (s.setting .congestionThreshold ≤ y.calls.entries.length)) ∧
          (∀ st, y.stage st =
            if st ∈ flushed.map CallEntry.stage then { s.stage st with state := .idle } else s.stage st) ∧
          y = { s with stages := { s.stages with records := y.stages.records }, calls := y.calls, link := y.link,
                       counters := y.counters, modes := y.modes,
                       arbiter := { s.arbiter with
                         marker := s.arbiter.marker.filter fun m => !(flushed.any fun e => e.stage == m.stage) } }) ∧
        ∀ e ∈ flushed, e.replay = true →
          (({ stage := e.stage, outcome := .dropped } : RosterEntry) ∈ p.modes.roster ∨ p.modes.roster = []) ∧
          (p.stage e.stage).state = .idle ∧ ∀ x ∈ p.calls.entries, x.stage ≠ e.stage)

/-- QUERY SITE: the bytes of each of its 18 pages, in every mode. The model's choices and readings: log entries 15, 16,
35. (R158, R165, R166) -/
def Obligations.SiteIsQueried : Prop :=
  ∀ (s : State) (page : Nat) (data : List Byte), s.listening →
    let a := s.account
    let word := fun n : Nat => [byteOf (n / 256), byteOf n]
    let long := fun i : Int => (fun n : Nat => [byteOf (n / 16777216), byteOf (n / 65536), byteOf (n / 256), byteOf n])
      (i % 4294967296).toNat
    let up := fun t : Millis => (t + 999) / 1000
    let flag := fun b : Bool => (if b then 1 else 0 : Byte)
    let code := fun st : Option StageId =>
      match st with | none => (0 : Byte) | some st => byteOf (4 * (st.unit.val + 1) + st.slot.val)
    ((
      [ [byteOf s.mode.code, byteOf (if s.modes.resetCause = .powerOn then 0 else 1), byteOf (if s.onBus then 0 else 1),
          flag s.supervisor.attention] ++ word (up s.modes.timer),
        word a.ceiling ++ word a.effectiveCeiling,
        long s.headroom ++ word a.uncontrolled,
        word s.stages.cRun ++ word s.stages.cPend ++ word a.measured,
        long a.energy ++ word a.elapsed,
        word a.intervalLength ++ word (a.pendingLength.getD 0) ++ word (up a.supervisionTimer),
        [byteOf a.supervision.code, byteOf a.metering.code, byteOf a.metering.causeCode, flag a.stuckStanding] ++
          word (up a.silence),
        long a.closed.energy ++ word a.closed.elapsed,
        [byteOf (match a.closed.cause with | .mark => 0 | .selfTimed => 1 | .clock => 2), flag a.windowMetered,
          byteOf (up a.rateWindow)] ++ word a.persistence ++ [byteOf s.shed.lambda],
        [byteOf s.shed.lineLevel, byteOf s.shed.gatewayLevel, byteOf (up s.shed.holdOff),
          byteOf s.lines.curtail.qualified.val,
          match s.lines.curtail.candidate with | none => 255 | some code => byteOf code.val,
          byteOf (match s.lines.powerFail.state with
            | .normal => 0 | .failPending => 1 | .failed => 2 | .restorePending => 3)],
        [byteOf (match s.lines.pulse.state with | .released => 0 | .timing => 1 | .valid => 2 | .stuck => 3),
          byteOf (match s.lines.mark.state with | .released => 0 | .timing => 1 | .marked => 2)] ++
          word s.lines.pulse.width ++ [byteOf s.calls.entries.length, flag s.calls.congested],
        long s.calls.arrival ++ [byteOf s.link.queue.length, flag s.link.stopSlot.isSome],
        [byteOf s.arbiter.tokenCounter, byteOf (if s.arbiter.gate = .running then 0 else 1), flag s.arbiter.slotFlag,
          byteOf (up s.arbiter.pacing), code (s.arbiter.marker.map Marker.stage), byteOf s.link.failures],
        word ((s.arbiter.marker.map Marker.load).getD 0) ++ [byteOf s.modes.roster.length, byteOf s.modes.readPosition,
          byteOf s.modes.fedCount,
          byteOf (match s.arbiter.lastPass.cause with
            | none => 0 | some .evaluation => 1 | some .entry => 2 | some .startSlot => 3 | some .stageChange => 4
            | some .restExpiry => 5 | some .orderLeft => 6 | some .linkSpace => 7 | some .admittingMode => 8)],
        long s.arbiter.lastPass.headroomAtStart ++ word s.arbiter.lastPass.guardBand,
        long s.arbiter.lastPass.headroomAtEnd ++ [byteOf s.arbiter.lastPass.grants, code s.arbiter.lastPass.blockingHead],
        long a.allowance ++ [byteOf (up a.evaluationTimer)],
        long a.windowEnergy ] :
      List (List Byte))[page]? = some data →
      exec (.querySite [1, 0, byteOf page]) s = .next (s.answer 27 .ok data))

/-- QUERY STAGE, UNIT, QUEUE, ORDER, ROSTER, COUNTER and DIGEST: the bytes of each page, and NOT_FOUND for nothing
present. The model's choices and readings: log entries 15, 16. (R77, R103, R120, R140, R158, R165, R166, R168) -/
def Obligations.TablesAreQueried : Prop :=
  ∀ s : State, s.listening →
    let word := fun n : Nat => [byteOf (n / 256), byteOf n]
    let long := fun n : Nat => [byteOf (n / 16777216), byteOf (n / 65536), byteOf (n / 256), byteOf n]
    let up := fun t : Millis => (t + 999) / 1000
    let flag := fun b : Bool => (if b then 1 else 0 : Byte)
    let stageCode := fun st : StageId => 4 * (st.unit.val + 1) + st.slot.val
    let place := fun p : Option Nat => byteOf (p.getD 255)
    let ok := fun (subject index page : Nat) (c : List Byte → Instr) (data : List Byte) =>
      exec (c [byteOf subject, byteOf index, byteOf page]) s = .next (s.answer 27 .ok data)
    let missing := fun (subject index page : Nat) (c : List Byte → Instr) =>
      exec (c [byteOf subject, byteOf index, byteOf page]) s = .next (s.answer 27 .notFound [])
    (∀ st : StageId,
      let r := s.stage st
      ok 2 (stageCode st) 0 .queryStage
        ([byteOf (match r.state with
            | .idle => 0 | .queued => 1 | .granted => 2 | .running => 3 | .stopping => 4 | .held => 5 | .tripped => 6),
          byteOf r.working.kind.code] ++ word r.working.load ++ [flag r.working.surge, byteOf r.working.shedClass]) ∧
      ok 2 (stageCode st) 1 .queryStage
        ([match r.working.lead with | none => 255 | some k => byteOf k.val, flag r.pendingProfile] ++
          word r.working.minOn ++ word r.working.minOff) ∧
      ok 2 (stageCode st) 2 .queryStage (word (up r.rest) ++ word (up r.run) ++ [byteOf (up r.handshake), byteOf (up r.window)]) ∧
      ok 2 (stageCode st) 3 .queryStage
        [byteOf (r.token.getD 0), byteOf (r.withdrawn.getD 0), flag r.rosterFlag, flag r.withdrawnByReplay,
          place (s.stages.runOrder.findIdx? fun x => x == st), place (s.calls.entries.findIdx? fun e => e.stage == st)]) ∧
    (∀ u : UnitId,
      let r := s.unit u
      ok 3 (u.val + 1) 0 .queryUnit
        ([byteOf (match r.presence with | .unknown => 0 | .present => 1 | .absent => 2 | .awaiting => 3),
          byteOf (match r.phase with | .none => 0 | .guard => 1 | .opened => 2)] ++ word r.window ++
          [byteOf r.errors, byteOf (s.setting .errorThreshold)]) ∧
      ok 3 (u.val + 1) 1 .queryUnit
        ((match r.tripSlot with | none => [0, 0] | some t => [t.slots, byteOf t.cause]) ++
          [byteOf r.furtherTrips, flag r.anomaly, r.group, byteOf r.period])) ∧
    (∀ i : Nat, i < 32 → (∀ e, s.calls.entries[i]? = some e →
        ok 4 i 0 .queryQueue
          ([byteOf (stageCode e.stage), byteOf e.cls, flag e.replay, byteOf s.calls.entries.length] ++ word e.waitAge) ∧
        ok 4 i 1 .queryQueue (long e.stamp ++ word e.passedOver)) ∧
      (s.calls.entries[i]? = none → missing 4 i 0 .queryQueue ∧ missing 4 i 1 .queryQueue)) ∧
    (∀ i : Nat, i < 4 → (∀ o, s.shed.orders[i]? = some o →
        ok 5 i 0 .queryOrder
          [o.number, o.groupValue, o.groupMask, o.kindSet, byteOf o.action.code, byteOf s.shed.orders.length] ∧
        ok 5 i 1 .queryOrder ([byteOf ((o.timer + 59999) / 60000)] ++ word (up o.timer))) ∧
      (s.shed.orders[i]? = none → missing 5 i 0 .queryOrder ∧ missing 5 i 1 .queryOrder)) ∧
    (∀ i : Nat, i < 96 → (∀ e, s.modes.roster[i]? = some e →
        ok 6 i 0 .queryRoster
          [byteOf (stageCode e.stage),
            byteOf (match e.outcome with | .waiting => 0 | .fed => 1 | .restored => 2 | .dropped => 3),
            byteOf s.modes.roster.length, byteOf s.modes.readPosition, byteOf s.modes.fedCount, byteOf s.mode.code]) ∧
      (s.modes.roster[i]? = none → missing 6 i 0 .queryRoster)) ∧
    (∀ c : Counter, ok 7 c.index.val 0 .queryCounter ([byteOf c.index.val] ++ word (s.counter c))) ∧
    ok 8 0 0 .queryDigest
      (word s.store.digest ++ word s.store.recomputed ++ [flag s.store.lock, flag s.store.flight.isSome])

/-- QUERY IDENTITY answers vendor 41, part 7240 and revision 1 in every mode and with every store contents. (R175) -/
def Obligations.IdentityIsFixed : Prop :=
  ∀ s : State, s.listening →
    exec (.queryIdentity [9, 0, 0]) s = .next (s.answer 27 .ok [0, 41, 28, 72, 1, 0])

/-- QUERY TRIP COLLECT answers the record and empties it, and empties nothing when its answer is dropped. (R135, R136,
R160, R166) -/
def Obligations.TripsAreCollected : Prop :=
  ∀ (s : State) (u : UnitId), s.listening →
    let r := s.unit u
    let command := Instr.queryTripCollect [10, byteOf (u.val + 1), 0]
    (24 ≤ s.link.queue.length → exec command s = .next (s.bump .noticesDropped)) ∧
    (s.link.queue.length < 24 → ∃ t : State, exec command s = .next t ∧
      t = { s with supervisor := t.supervisor,
                   link := (s.answer 27 .ok
                     ([byteOf (u.val + 1)] ++ (match r.tripSlot with | none => [0, 0] | some x => [x.slots, byteOf x.cause]) ++
                       [byteOf r.furtherTrips, (if r.anomaly then 1 else 0),
                         byteOf (match r.presence with
                           | .unknown => 0 | .present => 1 | .absent => 2 | .awaiting => 3)])).link } ∧
      t.unit u = { r with tripSlot := none, furtherTrips := 0, anomaly := false } ∧ (∀ v, v ≠ u → t.unit v = s.unit v) ∧
      (t.supervisor.attention = true ↔ ∃ v, v ≠ u ∧ ((s.unit v).tripSlot ≠ none ∨ (s.unit v).anomaly = true)))

/-- FRAME_TRANSMISSION: sent, lost arbitration, failed and OFF_BUS; OFF_BUS_TIMER_EXPIRY; SITE_BEACON_TIMER_EXPIRY places
a beacon or skips it. The model's choices and readings: log entries 6, 10, 32. (R48, R77, R81, R108, R135, R155, R161,
R162, R163, R164) -/
def Obligations.TransmissionsEnd : Prop :=
  (∀ (s : State) (source : TxSource) (outcome : TxOutcome), s.powered →
    let attempting := s.link.state = .onBus ∧
      ((source = .stopSlot ∧ s.link.stopSlot ≠ none) ∨
        (source = .queueHead ∧ s.link.headAttempt = true ∧ s.link.queue ≠ []))
    let command := Instr.frameTransmission source outcome
    let ended := fun l : Link => { s with link := { l with headAttempt := l.stopSlot.isNone && !l.queue.isEmpty } }
    (¬ attempting → exec command s = .next s) ∧
    (attempting → outcome = .lostArbitration → exec command s = .next (ended s.link)) ∧
    (attempting → outcome = .sent → source = .stopSlot → exec command s = .next
      ((ended { s.link with stopSlot := none, failures := 0 }).give (.check .stopRoom)).drain) ∧
    (attempting → outcome = .sent → source = .queueHead →
      let t := ended { s.link with queue := s.link.queue.tail, failures := 0 }
      (s.link.queue.length = 24 → exec command s = .next (t.give (.check .stopRoom)).drain) ∧
      (s.link.queue.length = 20 → exec command s = .next (t.give (.pass .linkSpace)).drain) ∧
      (s.link.queue.length ≠ 24 → s.link.queue.length ≠ 20 → exec command s = .next t)) ∧
    (attempting → outcome = .failed → s.link.failures + 1 < 32 → exec command s = .next
      ((ended { s.link with failures := s.link.failures + 1 }).bump .failedTransmissions)) ∧
    (attempting → outcome = .failed → 32 ≤ s.link.failures + 1 → exec command s = .next
      { s with link := { s.link with state := .offBus, failures := 0, offBusTimer := 10000, headAttempt := false },
               modes := { s.modes with fallback := true },
               counters := ((s.bump .failedTransmissions).bump .busOffEntries).counters }) ∧
    (s.link.state = .onBus → exec .offBusTimerExpiry s = .next s) ∧
    (s.link.state = .offBus → exec .offBusTimerExpiry s = .next
      (State.drain
        { ended { s.link with state := .onBus, offBusTimer := 0 } with
            modes := { s.modes with fallback := decide (s.mode = .startup ∨ s.mode = .halted) },
            causes := [.pass .linkSpace, .check .linkReturned] }))) ∧
  ∀ s : State, s.powered →
    let h := s.account.allowance - ((s.account.uncontrolled + s.stages.cRun + s.stages.cPend : Nat) : Int)
    let reloaded := { s with link := { s.link with beaconTimer := 2000 } }
    (s.onBus = true → s.link.queue.length < 20 → exec .siteBeaconTimerExpiry s = .next
      (reloaded.place (.siteBeacon
        { mode := s.mode, supervision := s.account.supervision, metering := s.account.metering, lambda := s.shed.lambda,
          headroom := if h < -32767 then -32767 else if 32767 < h then 32767 else h, queueLength := s.calls.entries.length,
          congested := s.calls.congested, attention := s.supervisor.attention }))) ∧
    (s.onBus = false ∨ 20 ≤ s.link.queue.length →
      exec .siteBeaconTimerExpiry s = .next (reloaded.bump .beaconsSkipped))

/-- A step on the empty queue is one millisecond: every running timer counts, and each one with a millisecond left has its
expiry taken. The model's choices and readings: log entries 2, 4, 5. (00 Conventions, R1, R53, R56, R57, R93, R95, R123,
R169, R172) -/
def Obligations.ClockRuns : Prop :=
  ∀ s : State, s.pending = [] →
    (s.supplied = false → step s = .next s) ∧
    (s.supplied = true →
      let a := s.advance
      let counted := fun t : Millis => if t ≤ 1 then t else t - 1
      let pulse := s.lines.pulse
      let mark := s.lines.mark
      (∀ st, a.stage st =
        { s.stage st with rest := counted (s.stage st).rest, run := counted (s.stage st).run,
                          handshake := counted (s.stage st).handshake, window := counted (s.stage st).window }) ∧
      (∀ u, a.unit u = { s.unit u with window := counted (s.unit u).window }) ∧
      a = { s with
        stages := { s.stages with records := a.stages.records }
        supervisor := { s.supervisor with records := a.supervisor.records }
        arbiter := { s.arbiter with
          pacing := if s.arbiter.gate = .running then counted s.arbiter.pacing else s.arbiter.pacing }
        account := { s.account with
          evaluationTimer := counted s.account.evaluationTimer, rateWindow := counted s.account.rateWindow,
          silence := counted s.account.silence, supervisionTimer := counted s.account.supervisionTimer }
        shed := { s.shed with
          orders := s.shed.orders.map fun o => { o with timer := counted o.timer }, holdOff := counted s.shed.holdOff }
        lines := {
          pulse := { pulse with
            debounce := counted pulse.debounce
            width := if pulse.state = .timing ∨ pulse.state = .valid then pulse.width + 1 else pulse.width }
          mark := { mark with
            debounce := counted mark.debounce
            timer := if mark.state = .timing then mark.timer + 1 else mark.timer }
          curtail := { s.lines.curtail with stability := counted s.lines.curtail.stability }
          powerFail := { s.lines.powerFail with timer := counted s.lines.powerFail.timer } }
        modes := { s.modes with timer := counted s.modes.timer }
        link := { s.link with
          offBusTimer := counted s.link.offBusTimer, beaconTimer := counted s.link.beaconTimer }
        store := { s.store with flight := s.store.flight.map fun f => { f with elapsed := f.elapsed + 1 } } } ∧
      (∀ f ∈ s.store.flight,
        (f.operation = .erase → 380 ≤ f.time ∧ f.time ≤ 420) ∧ (f.operation ≠ .erase → 7 ≤ f.time ∧ f.time ≤ 9)) ∧
      (∀ (x : State) (ahead : Millis) (c : Instr), c ∈ x.dueAhead ahead ↔
        match c with
        | .restTimerExpiry st => (x.stage st).rest = 1
        | .runTimerExpiry st => (x.stage st).run = 1
        | .confirmTimeout st => (x.stage st).handshake = 1 ∧ (x.stage st).state ≠ .stopping
        | .stopTimeout st => (x.stage st).handshake = 1 ∧ (x.stage st).state = .stopping
        | .windowTimerExpiry st => (x.stage st).window = 1
        | .windowGuardExpiry u => (x.unit u).window = 1 ∧ (x.unit u).phase = .guard
        | .missedWindow u => (x.unit u).window = 1 ∧ (x.unit u).phase = .opened
        | .evaluation => x.account.evaluationTimer = 1
        | .rateWindowExpiry => x.account.rateWindow = 1
        | .silenceTimerExpiry => x.account.silence = 1
        | .supervisionTimerExpiry => x.account.supervisionTimer = 1
        | .startSlotExpiry => x.arbiter.pacing = 1 ∧ x.arbiter.gate = .running
        | .orderTimerExpiry n => ∃ o ∈ x.shed.orders, o.number = n ∧ o.timer = 1
        | .displacementHoldOffExpiry => x.shed.holdOff = 1
        | .joinTimerExpiry => x.modes.timer = 1 ∧ x.mode = .startup
        | .settleTimerExpiry => x.modes.timer = 1 ∧ x.mode = .settling
        | .pulseAssertionEdge => x.lines.pulse.debounce = 1 ∧ x.pins.pulse = true
        | .pulseReleaseEdge => x.lines.pulse.debounce = 1 ∧ x.pins.pulse = false
        | .pulseMinimumWidthReached => x.lines.pulse.state = .timing ∧
          minimumWidth (x.setting .minimumWidthCode) ≤ x.lines.pulse.width + ahead
        | .pulseMaximumWidthReached => x.lines.pulse.state = .valid ∧
          maximumWidth (x.setting .maximumWidthCode) ≤ x.lines.pulse.width + ahead
        | .markAssertionEdge => x.lines.mark.debounce = 1 ∧ x.pins.mark = true
        | .markReleaseEdge => x.lines.mark.debounce = 1 ∧ x.pins.mark = false
        | .markQualified => x.lines.mark.state = .timing ∧ 20 ≤ x.lines.mark.timer + ahead
        | .curtailStabilityExpiry => x.lines.curtail.stability = 1
        | .powerFailQualificationExpiry => x.lines.powerFail.timer = 1
        | .offBusTimerExpiry => x.link.offBusTimer = 1
        | .siteBeaconTimerExpiry => x.link.beaconTimer = 1
        | .writeCompletion => ∃ f, x.store.flight = some f ∧ f.operation ≠ .erase ∧ f.time ≤ f.elapsed + ahead
        | .eraseCompletion => ∃ f, x.store.flight = some f ∧ f.operation = .erase ∧ f.time ≤ f.elapsed + ahead
        | _ => False) ∧
      s.due = s.dueAhead 1 ∧
      (s.due = [] → step s = .next a) ∧ (∀ c, s.due = [c] → step s = exec c a) ∧
      ∃ order : List (Instr × Bool), (order.map Prod.fst).Perm s.due ∧
        step s = order.foldl
          (fun o p =>
            match o with
            | .next x => if p.1 ∈ x.dueAhead 0 then exec p.1 { x with drawn := x.drawn + p.2.toNat } else .next x
            | stop => stop)
          (.next a))

/-- EVALUATION: the five steps of the demand account, and its notices to the call queue, the arbiter and the shed
controller. The model's choices and readings: log entry 3. (R31, R32, R33, R36, R45, R46, R47, R48, R49, R70, R81, R108) -/
def Obligations.EvaluationsAreMade : Prop :=
  ∀ s : State, s.powered →
    let a := s.account
    let energy := if a.metering = .metered then a.energy else min 4294967295 (a.energy + (a.uncontrolled + s.stages.cRun))
    let closes := a.intervalLength ≤ a.elapsed + 1
    let unmarked := s.setting .markLineUse = 0
    let percent := match s.shed.lambda with
      | 0 => 0 | 1 => s.setting .curtailPercent1 | 2 => s.setting .curtailPercent2 | _ => s.setting .curtailPercent3
    let effective := a.ceiling * (100 - percent) / 100
    let length := if closes then a.pendingLength.getD a.intervalLength else a.intervalLength
    let elapsed := if closes then 0 else a.elapsed + 1
    let used := if closes then 0 else energy
    let quotient : Int := ((effective * length : Nat) - (used : Int)) / (max (length - elapsed) 60 : Nat)
    let allowance := max (-65535) (min (effective : Int) quotient)
    let headroom := allowance - ((a.uncontrolled + s.stages.cRun + s.stages.cPend : Nat) : Int)
    exec .evaluation s = .next (State.drain
      { s with
        account := { a with
          evaluationTimer := 1000, elapsed := elapsed, energy := used, intervalLength := length,
          pendingLength := if closes then none else a.pendingLength,
          closed := if closes then
              { energy := energy, elapsed := a.elapsed + 1, cause := if unmarked then .clock else .selfTimed }
            else a.closed,
          effectiveCeiling := effective, allowance := allowance,
          persistence := if headroom < 0 then min 65535 (a.persistence + 1) else 0 },
        counters := if closes ∧ ¬ unmarked then ((s.bump .missedMarks).bump .selfTimedBoundaries).counters else s.counters,
        causes := [.ageing, .pass .evaluation, .check .evaluation] })

/-- RATE_WINDOW_EXPIRY sets P_meas and U of a metered window; SILENCE_TIMER_EXPIRY degrades a meter silent while stages
run. (R37, R38, R39) -/
def Obligations.MeterTimersExpire : Prop :=
  ∀ s : State, s.powered →
    let a := s.account
    let mean := min 65535 (a.windowEnergy / 60)
    let opened := { a with rateWindow := 60000, windowEnergy := 0, windowMetered := decide (a.metering = .metered) }
    let reloaded := { a with silence := 1000 * s.setting .silenceTimeout }
    (a.windowMetered = true → exec .rateWindowExpiry s = .next
      { s with account := { opened with measured := mean, uncontrolled := ((mean : Int) - s.stages.cRun).toNat } }) ∧
    (a.windowMetered = false → exec .rateWindowExpiry s = .next { s with account := opened }) ∧
    (a.metering = .metered → 0 < s.stages.cRun → exec .silenceTimerExpiry s = .next
      { s with account := { reloaded with metering := .estimated .silent, windowMetered := false },
               counters := (s.bump .estimateEntries).counters }) ∧
    (a.metering ≠ .metered ∨ s.stages.cRun = 0 → exec .silenceTimerExpiry s = .next { s with account := reloaded })

/-- JOIN_TIMER_EXPIRY and SETTLE_TIMER_EXPIRY: COORDINATING, MAINS_OFF or REPLAY, with the gate, the roster and the units;
and what the replay feeder does. The model's choices and readings: log entry 10. (R68, R81, R95, R108, R138, R141, R142,
R145, R149, R150, R151, R152) -/
def Obligations.JoinAndSettleEnd : Prop :=
  ∀ s : State,
    let formed := fun m : Mode => decide (m = .startup ∨ m = .halted) || !s.onBus
    let admitted : List Cause := [.pass .admittingMode, .check .admittingMode]
    (s.powered →
      (s.mode ≠ .startup ∨ s.modes.timer = 0 → exec .joinTimerExpiry s = .next s) ∧
      (s.mode = .startup → 0 < s.modes.timer → s.lines.powerFail.state.asserted = false →
        exec .joinTimerExpiry s = .next (State.drain
          { s with modes := { s.modes with mode := .coordinating, timer := 0, fallback := formed .coordinating },
                   causes := admitted })) ∧
      (s.mode = .startup → 0 < s.modes.timer → s.lines.powerFail.state.asserted = true →
        exec .joinTimerExpiry s = .next s.powerFailAsserted) ∧
      (s.mode ≠ .settling ∨ s.modes.timer = 0 → exec .settleTimerExpiry s = .next s) ∧
      (s.mode = .settling → 0 < s.modes.timer →
        ∃ p : State, exec .settleTimerExpiry s = .next p.drain ∧
          (∀ u, p.unit u =
            { s.unit u with presence := if (s.unit u).presence = .awaiting then .unknown else (s.unit u).presence }) ∧
          p.supervisor.attention = s.supervisor.attention ∧
          ((∀ e ∈ s.modes.roster, e.outcome ≠ .waiting) →
            p = { s with supervisor := p.supervisor,
                         modes := { s.modes with mode := .coordinating, timer := 0, roster := [], readPosition := 0,
                                                 fedCount := 0, fallback := formed .coordinating },
                         arbiter := { s.arbiter with gate := .running, pacing := 1000 * s.setting .staggerPeriod,
                                                     slotFlag := false },
                         causes := admitted }) ∧
          ((∃ e ∈ s.modes.roster, e.outcome = .waiting) →
            p = State.feed (State.bump .replaysBegun
              { s with supervisor := p.supervisor,
                       modes := { s.modes with mode := .replay, timer := 0, fallback := formed .replay },
                       arbiter := { s.arbiter with gate := .running, pacing := 1000 * s.setting .restartStaggerPeriod,
                                                   slotFlag := false },
                       causes := admitted }) ∧
            p.arbiter = { s.arbiter with gate := .running, pacing := 1000 * s.setting .restartStaggerPeriod,
                                         slotFlag := false } ∧
            p.counter .replaysBegun = min 65535 (s.counter .replaysBegun + 1) ∧ p.modes.timer = 0 ∧
            p.causes.take 2 = admitted ∧
            (p.mode = .replay ∨ (p.mode = .coordinating ∧ p.modes.roster = [])) ∧ p.modes.fallback = formed p.mode))) ∧
    (s.mode ≠ .replay → s.feed = s) ∧
    (s.mode = .replay → s.callsExact → (s.modes.roster.map RosterEntry.stage).Nodup →
      let t := s.feed
      let resolved := s.modes.roster.zipIdx.foldl
        (fun (a : List RosterEntry × List StageId × Nat) (e : RosterEntry × Nat) =>
          let st := e.1.stage
          if e.1.outcome = .waiting ∧ s.modes.readPosition ≤ e.2 ∧ s.modes.fedCount + a.2.1.length < 4 then
            if (s.unit st.unit).presence = .present ∧ (s.stage st).state = .idle ∧ (s.stage st).working.kind ≠ .none ∧
                s.calls.entries.length + a.2.1.length < 32 then
              (a.1 ++ [{ stage := st, outcome := .fed }], a.2.1 ++ [st], a.2.2)
            else (a.1 ++ [{ stage := st, outcome := .dropped }], a.2.1, a.2.2 + 1)
          else (a.1 ++ [e.1], a.2.1, a.2.2))
        ([], [], 0)
      let roster := resolved.1
      let fed := resolved.2.1
      let dropped := resolved.2.2
      let position := s.modes.readPosition + ((roster.drop s.modes.readPosition).takeWhile fun e =>
        e.outcome == .restored || e.outcome == .dropped).length
      let ends := roster.length ≤ position
      let length := s.calls.entries.length + fed.length
      t.modes = (if ends then { s.modes with mode := .coordinating, roster := [], readPosition := 0, fedCount := 0,
                                             fallback := formed .coordinating }
        else { s.modes with roster := roster, readPosition := position, fedCount := s.modes.fedCount + fed.length }) ∧
      (∀ st, t.stage st = if st ∈ fed then { s.stage st with state := .queued } else s.stage st) ∧
      t.calls.entries.length = length ∧
      (∀ e ∈ s.calls.entries, ∃ x ∈ t.calls.entries, x = { e with stamp := x.stamp }) ∧
      (∀ st ∈ fed, ∃ x ∈ t.calls.entries,
        x = { stage := st, cls := 0, stamp := x.stamp, waitAge := 0, passedOver := 0, replay := true }) ∧
      (t.calls.entries.filter fun x => decide (x.stage ∈ fed)).map CallEntry.stage = fed ∧
      t.calls.entries.Pairwise (fun a b => a.cls < b.cls ∨ (a.cls = b.cls ∧ a.stamp < b.stamp)) ∧
      (s.calls.arrival + fed.length ≤ 4294967295 → t.calls.arrival = s.calls.arrival + fed.length ∧
        ∀ e ∈ s.calls.entries, e ∈ t.calls.entries) ∧
      t.calls.congested = (if fed = [] then s.calls.congested else decide (s.setting .congestionThreshold ≤ length)) ∧
      t.counter .rosterDropped =
        (if dropped = 0 then s.counter .rosterDropped else min 65535 (s.counter .rosterDropped + dropped)) ∧
      (s.calls.congested = decide (s.setting .congestionThreshold ≤ s.calls.entries.length) →
        t.counter .congestionOnsets = if t.calls.congested = true ∧ s.calls.congested = false then
          min 65535 (s.counter .congestionOnsets + 1) else s.counter .congestionOnsets) ∧
      (∀ c : Counter, c ≠ .rosterDropped → c ≠ .congestionOnsets → t.counter c = s.counter c) ∧
      t.causes = s.causes ++ List.replicate fed.length (.pass .entry) ++ (if ends then admitted else []) ∧
      t = { s with stages := { s.stages with records := t.stages.records }, calls := t.calls, modes := t.modes,
                   counters := t.counters, causes := t.causes })

/-- The meter pulse and interval mark lines: debounce, edges, minimum and maximum width, noise, valid pulse, stuck, mark
and boundary. The model's choices and readings: log entries 8, 10. (R34, R35, R40, R41, R46, R47, R52, R53, R54, R55, R57) -/
def Obligations.PulseAndMarkLinesRun : Prop :=
  ∀ (s : State) (level : Bool), s.powered →
    let a := s.account
    let onPulse := fun p : PulseLine => { s with lines := { s.lines with pulse := p } }
    let onMark := fun m : MarkLine => { s with lines := { s.lines with mark := m } }
    let weight := 36 * s.setting .pulseWeight
    let pulsed := { a with metering := .metered, energy := min 4294967295 (a.energy + weight),
                           windowEnergy := min 4294967295 (a.windowEnergy + weight),
                           silence := 1000 * s.setting .silenceTimeout }
    let released : PulseLine := { level := false, debounce := 0, state := .released, width := 0 }
    let lowPulse := { s.pins with pulse := false }
    let lowMark := { s.pins with mark := false }
    (s.pins.pulse = level → exec (.debouncePinChange .meterPulse level) s = .next s) ∧
    (s.pins.pulse ≠ level → exec (.debouncePinChange .meterPulse level) s = .next
      { onPulse { s.lines.pulse with debounce := if level = s.lines.pulse.level then 0 else 5 } with
          pins := { s.pins with pulse := level } }) ∧
    (s.pins.mark = level → exec (.debouncePinChange .intervalMark level) s = .next s) ∧
    (s.pins.mark ≠ level → exec (.debouncePinChange .intervalMark level) s = .next
      { onMark { s.lines.mark with debounce := if level = s.lines.mark.level then 0 else 5 } with
          pins := { s.pins with mark := level } }) ∧
    (s.lines.pulse.state = .released →
      exec .pulseAssertionEdge s = .next
        { onPulse { level := true, debounce := 0, state := .timing, width := 0 } with
            pins := { s.pins with pulse := true } } ∧
      exec .pulseReleaseEdge s = .next s) ∧
    (s.lines.pulse.state ≠ .released → exec .pulseAssertionEdge s = .next s) ∧
    (s.lines.pulse.state = .timing →
      (∀ width, [10, 20, 40, 80][s.setting .minimumWidthCode]? = some width →
        exec .pulseMinimumWidthReached s = .next (onPulse { s.lines.pulse with state := .valid, width := width })) ∧
      exec .pulseReleaseEdge s = .next
        { onPulse released with pins := lowPulse, counters := (s.bump .noisePulses).counters }) ∧
    (s.lines.pulse.state ≠ .timing → exec .pulseMinimumWidthReached s = .next s) ∧
    (s.lines.pulse.state = .valid →
      (∀ width, [250, 500, 1000, 2000][s.setting .maximumWidthCode]? = some width →
        exec .pulseMaximumWidthReached s = .next
          { onPulse { s.lines.pulse with state := .stuck, width := width } with
              account := { pulsed with stuckStanding := true, metering := .estimated .stuck, windowMetered := false },
              counters := (((s.bump .stuckReports).bump .validPulses).bump .estimateEntries).counters }) ∧
      exec .pulseReleaseEdge s = .next
        { onPulse released with pins := lowPulse, account := pulsed, counters := (s.bump .validPulses).counters }) ∧
    (s.lines.pulse.state ≠ .valid → exec .pulseMaximumWidthReached s = .next s) ∧
    (s.lines.pulse.state = .stuck → exec .pulseReleaseEdge s = .next
      { onPulse released with pins := lowPulse, account := { a with stuckStanding := false } }) ∧
    (s.lines.mark.state = .released →
      exec .markAssertionEdge s = .next
        { onMark { level := true, debounce := 0, state := .timing, timer := 0 } with pins := { s.pins with mark := true } } ∧
      exec .markReleaseEdge s = .next s) ∧
    (s.lines.mark.state ≠ .released → exec .markAssertionEdge s = .next s) ∧
    (s.lines.mark.state = .timing → exec .markReleaseEdge s = .next
      { onMark { s.lines.mark with level := false, debounce := 0, state := .released } with
          pins := lowMark, counters := (s.bump .markNoise).counters }) ∧
    (s.lines.mark.state = .marked → exec .markReleaseEdge s = .next
      { onMark { s.lines.mark with level := false, debounce := 0, state := .released } with pins := lowMark }) ∧
    (s.lines.mark.state ≠ .timing → exec .markQualified s = .next s) ∧
    (s.lines.mark.state = .timing →
      let marked := onMark { s.lines.mark with state := .marked, timer := 20 }
      let percent := match s.shed.lambda with
        | 0 => 0 | 1 => s.setting .curtailPercent1 | 2 => s.setting .curtailPercent2 | _ => s.setting .curtailPercent3
      let effective := a.ceiling * (100 - percent) / 100
      let length := a.pendingLength.getD a.intervalLength
      let quotient : Int := ((effective * length : Nat) : Int) / (max length 60 : Nat)
      (s.setting .markLineUse = 0 → exec .markQualified s = .next marked) ∧
      (s.setting .markLineUse ≠ 0 → a.elapsed < 60 → exec .markQualified s = .next
        { marked with counters := (s.bump .earlyMarks).counters }) ∧
      (s.setting .markLineUse ≠ 0 → 60 ≤ a.elapsed → exec .markQualified s = .next
        { marked with account := { a with
            closed := { energy := a.energy, elapsed := a.elapsed, cause := .mark }, energy := 0, elapsed := 0,
            intervalLength := length, pendingLength := none, effectiveCeiling := effective,
            allowance := min (effective : Int) quotient } }))

/-- The curtail code and the power-fail line: qualification (a stopped timer at 0 is the model's: log entry 30), the level
delivered, an outage and its end. The model's choices and readings: log entry 10. (R27, R58, R59, R60, R78, R100, R138,
R140, R145, R146, R147, R148) -/
def Obligations.CurtailAndPowerFailLinesRun : Prop :=
  ∀ s : State, s.powered →
    let curtail := fun l : CurtailLine => { s with lines := { s.lines with curtail := l } }
    let power := fun (state : PowerFailState) (timer : Millis) =>
      { s with lines := { s.lines with powerFail := { state := state, timer := timer } } }
    let pin := fun (level : Bool) (t : State) => { t with pins := { s.pins with powerFail := level } }
    let glitch := fun t : State => { t with counters := (s.bump .powerFailGlitches).counters }
    (∀ code : Fin 4,
      (s.pins.curtail = code → exec (.curtailCodeChange code) s = .next s) ∧
      (s.pins.curtail ≠ code → exec (.curtailCodeChange code) s = .next
        { curtail (if code = s.lines.curtail.qualified then { s.lines.curtail with candidate := none, stability := 0 }
            else { s.lines.curtail with candidate := some code, stability := 1000 }) with
          pins := { s.pins with curtail := code } })) ∧
    (s.lines.curtail.candidate = none → exec .curtailStabilityExpiry s = .next s) ∧
    (∀ code : Fin 4, s.lines.curtail.candidate = some code →
      let level := match code.val with | 0 => 0 | 1 => s.setting .curtailLineLevel | 2 => 2 | _ => 3
      let qualified := { s.lines.curtail with qualified := code, candidate := none, stability := 0 }
      (level = s.lines.curtail.delivered → exec .curtailStabilityExpiry s = .next (curtail qualified)) ∧
      (level ≠ s.lines.curtail.delivered →
        let lambda := max level s.shed.gatewayLevel
        let changed := s.bump .lineCurtailChanges
        exec .curtailStabilityExpiry s = .next
          { curtail { qualified with delivered := level } with
              shed := { s.shed with lineLevel := level, lambda := lambda },
              counters := if lambda = s.shed.lambda then changed.counters else (changed.bump .curtailChanges).counters })) ∧
    (s.lines.powerFail.state = .normal →
      exec (.powerFailPinChange true) s = .next (pin true (power .failPending 500)) ∧
      exec (.powerFailPinChange false) s = .next (pin false s) ∧
      exec .powerFailQualificationExpiry s = .next s) ∧
    (s.lines.powerFail.state = .failPending →
      exec (.powerFailPinChange true) s = .next (pin true s) ∧
      exec (.powerFailPinChange false) s = .next (pin false (glitch (power .normal 0)))) ∧
    (s.lines.powerFail.state = .failed →
      exec (.powerFailPinChange true) s = .next (pin true s) ∧
      exec (.powerFailPinChange false) s = .next (pin false (power .restorePending 2000)) ∧
      exec .powerFailQualificationExpiry s = .next s) ∧
    (s.lines.powerFail.state = .restorePending →
      exec (.powerFailPinChange true) s = .next (pin true (glitch (power .failed 0))) ∧
      exec (.powerFailPinChange false) s = .next (pin false s) ∧
      (s.mode ≠ .mainsOff → exec .powerFailQualificationExpiry s = .next (power .normal 0)) ∧
      (s.mode = .mainsOff → exec .powerFailQualificationExpiry s = .next
        { power .normal 0 with
            modes := { s.modes with mode := .settling, timer := 1000 * s.setting .settleDelay,
                                    fallback := !s.onBus } })) ∧
    (s.lines.powerFail.state = .failPending → s.mode = .mainsOff ∨ s.mode = .halted →
      exec .powerFailQualificationExpiry s = .next (power .failed 0)) ∧
    (s.lines.powerFail.state = .failPending → s.mode ≠ .mainsOff → s.mode ≠ .halted → s.store.valid →
      ∃ t : State, exec .powerFailQualificationExpiry s = .next t ∧
        let waiting := fun l : List StageId => l.map fun st => ({ stage := st, outcome := .waiting } : RosterEntry)
        let roster := match s.mode with
          | .settling => s.modes.roster
          | .replay =>
            (s.modes.roster.map fun e => if e.outcome = .dropped then e else { e with outcome := .waiting }) ++
              waiting (s.stages.runOrder.filter fun st => decide (∀ e ∈ s.modes.roster, e.stage ≠ st))
          | _ => waiting s.stages.runOrder
        t = { power .failed 0 with
              stages := { s.stages with records := t.stages.records, cRun := 0, cPend := 0, runOrder := [] },
              calls := { s.calls with entries := [], congested := false },
              arbiter := { s.arbiter with gate := .stopped, slotFlag := false, marker := none },
              supervisor := { s.supervisor with records := t.supervisor.records },
              modes := { s.modes with mode := .mainsOff, timer := 0, roster := roster, fallback := !s.onBus,
                                      readPosition := if s.mode = .settling then s.modes.readPosition else 0,
                                      fedCount := if s.mode = .settling then s.modes.fedCount else 0 },
              counters := (s.bump .outages).counters } ∧
        (∀ st,
          let r := s.stage st
          t.stage st =
            { r with state := if r.state = .tripped then .tripped else .idle,
                     rest := if r.working.kind = .none then 0 else 1000 * r.working.minOff, run := 0, handshake := 0,
                     window := 0, token := none, withdrawn := none, rosterFlag := false, withdrawnByReplay := false,
                     working := if r.pendingProfile then s.store.profile st else r.working, pendingProfile := false }) ∧
        ∀ u,
          let r := s.unit u
          t.unit u =
            match r.presence with
            | .present | .absent => { r with presence := .awaiting, errors := 0, phase := .none, window := 0 }
            | .unknown | .awaiting => r)

/-- Notices are acted on one by one, each by its pass, check or ageing, until none is left; what ageing does, and what all
of them leave alone. The model's choices and readings: log entries 3, 24. (R21, R70, R71, R81, R82, R92, R108, R109, R152,
R161) -/
def Obligations.DrainKeepsTheRest : Prop :=
  ∀ s : State,
    let t := s.drain
    (s.causes = [] → t = s) ∧
    (∀ c, s.causes = [c] → t = (State.act c { s with causes := [] }).drain) ∧
    (s.causes ≠ [] → ∃ (i : Fin s.causes.length) (n : Nat), (n = s.drawn ∨ n = s.drawn + 1) ∧
      t = (State.act s.causes[i] { s with causes := s.causes.eraseIdx i, drawn := n }).drain) ∧
    (∀ cause, State.act (.pass cause) s = s.passCause cause) ∧ (∀ cause, State.act (.check cause) s = s.checkCause) ∧
    (let aged := State.act .ageing s
      let moves := fun e : CallEntry =>
        (e.cls = 2 ∨ e.cls = 3) ∧ s.setting .promoteTime ≤ min 65535 (e.waitAge + 1)
      aged.calls.entries.Perm (s.calls.entries.map fun e =>
        if moves e then { e with cls := e.cls - 1, waitAge := 0 } else { e with waitAge := min 65535 (e.waitAge + 1) }) ∧
      ((s.calls.entries.map CallEntry.stamp).Nodup → aged.calls.entries.Pairwise fun a b =>
        a.cls < b.cls ∨ (a.cls = b.cls ∧ a.stamp < b.stamp)) ∧
      aged = { s with calls := { s.calls with entries := aged.calls.entries }, counters := aged.counters } ∧
      ∀ c : Counter, aged.counter c =
        if c = .promotions ∧ ∃ e ∈ s.calls.entries, moves e then
          min 65535 (s.counter c + s.calls.entries.countP fun e => decide (moves e)) else s.counter c) ∧
    t = { s with stages := t.stages, calls := t.calls, arbiter := t.arbiter,
                 account := { s.account with persistence := t.account.persistence },
                 shed := { s.shed with holdOff := t.shed.holdOff }, modes := t.modes,
                 link := { s.link with queue := t.link.queue, stopSlot := t.link.stopSlot,
                                       headAttempt := t.link.headAttempt },
                 counters := t.counters, causes := [], drawn := t.drawn } ∧
    (∃ added, t.link.queue = s.link.queue ++ added) ∧ (s.link.stopSlot ≠ none → t.link.stopSlot = s.link.stopSlot) ∧
    (s.mode ≠ .replay → t.modes = s.modes) ∧
    (s.mode = .replay → t.mode = .replay ∨ (t.mode = .coordinating ∧ t.modes.roster = [])) ∧
    (s.callsExact → ∀ st,
      (s.stage st).state = .held ∨ (s.stage st).state = .tripped ∨ (s.stage st).state = .stopping ∨
          ((s.stage st).state = .running ∧ 0 < (s.stage st).run) ∨ ((s.stage st).state = .idle ∧ s.mode ≠ .replay) →
        t.stage st = s.stage st) ∧
    (s.mode.admits = false ∨ s.onBus = false →
      t = { s with calls := { s.calls with entries := t.calls.entries },
                   arbiter := { s.arbiter with marker := t.arbiter.marker }, counters := t.counters, causes := [] } ∧
      (t.arbiter.marker = s.arbiter.marker ∨ t.arbiter.marker = none) ∧
      (∀ st, st ∈ t.calls.entries.map CallEntry.stage ↔ st ∈ s.calls.entries.map CallEntry.stage))

/-- A pass grants the first call it can, with the next token, and only eligible calls that fit; it names calls passed
over; or no pass is made. (R72, R82, R83, R84, R85, R86, R87, R88, R89, R90, R91, R92) -/
def Obligations.PassesGrantWhatFits : Prop :=
  ∀ (s : State) (cause : PassCause),
    let h := s.account.allowance - ((s.account.uncontrolled + s.stages.cRun + s.stages.cPend : Nat) : Int)
    let guardBand := s.setting .guardBand
    let bars := fun (o : ShedOrder) (st : StageId) =>
      (s.unit st.unit).group &&& o.groupMask = o.groupValue &&& o.groupMask ∧ (s.stage st).working.kind ≠ .none ∧
        o.kindSet.getLsbD ((s.stage st).working.kind.code - 1) = true
    let t := s.passCause cause
    (s.mode.admits = false → t = { s with arbiter := { s.arbiter with marker := none } }) ∧
    (s.mode.admits = true → s.onBus = false ∨ 20 ≤ s.link.queue.length →
      t = { s with arbiter := { s.arbiter with marker := none }, counters := (s.bump .passesDeferred).counters }) ∧
    (s.mode.admits = true → s.onBus = true → s.link.queue.length < 20 → s.callsExact →
      (∀ st, (s.stage st).state = .queued → (t.stage st).state ≠ .queued →
        let r := s.stage st
        (∃ e ∈ s.calls.entries, e.stage = st ∧ (s.mode = .replay → e.replay = true) ∧
          ∃ token, (1 ≤ s.arbiter.tokenCounter ∧ s.arbiter.tokenCounter ≤ 255 → 1 ≤ token ∧ token ≤ 255) ∧
            t.stage st = { r with state := .granted, token := some token, rosterFlag := e.replay,
                                  handshake := 1000 * s.setting .confirmTimeout } ∧
            Notice.permit st token (s.setting .confirmTimeout) ∈ t.link.queue.drop s.link.queue.length) ∧
        r.rest = 0 ∧ r.working.kind ≠ .none ∧ (s.unit st.unit).presence = .present ∧
        (∀ o ∈ s.shed.orders, ¬ bars o st) ∧
        (∀ k, r.working.lead = some k → (s.stage { st with slot := k }).state = .running) ∧
        (r.working.surge = true → s.arbiter.slotFlag = true ∧ t.arbiter.slotFlag = false) ∧
        (r.working.load : Int) ≤ h - guardBand) ∧
      (let fits := fun e : CallEntry => ((s.stage e.stage).working.load : Int) ≤ h - guardBand
        let blocks := fun e : CallEntry => e.cls ≤ 1 ∧
          s.setting .holdBackTime ≤ e.passedOver + (if cause = .evaluation then 1 else 0)
        let eligible := fun e : CallEntry =>
          let r := s.stage e.stage
          r.rest = 0 ∧ r.working.kind ≠ .none ∧ (s.unit e.stage.unit).presence = .present ∧
            (∀ o ∈ s.shed.orders, ¬ bars o e.stage) ∧
            (∀ k, r.working.lead = some k → (s.stage { e.stage with slot := k }).state = .running) ∧
            (r.working.surge = true → s.arbiter.slotFlag = true) ∧ (s.mode = .replay → e.replay = true)
        let aged := fun (e : CallEntry) (n : Nat) => ∃ x ∈ t.calls.entries, x = { e with passedOver := n, stamp := x.stamp }
        (∀ pre e post, s.calls.entries = pre ++ e :: post → (∀ x ∈ pre, eligible x → ¬ fits x ∧ ¬ blocks x) →
          (eligible e → fits e →
            t.stage e.stage = { s.stage e.stage with
                state := .granted, token := some s.arbiter.tokenCounter, rosterFlag := e.replay,
                handshake := 1000 * s.setting .confirmTimeout } ∧
              t.link.queue[s.link.queue.length]? =
                some (.permit e.stage s.arbiter.tokenCounter (s.setting .confirmTimeout)) ∧
              (∀ x ∈ t.calls.entries, x.stage ≠ e.stage)) ∧
          (eligible e → ¬ fits e → aged e
            (if cause = .evaluation then min 65535 (e.passedOver + 1) else e.passedOver)) ∧
          (eligible e → ¬ fits e → blocks e →
            t.arbiter.marker = some { stage := e.stage, load := (s.stage e.stage).working.load } ∧
              t.arbiter.lastPass.grants = 0 ∧ ∀ y ∈ post, aged y y.passedOver) ∧
          (¬ eligible e → aged e e.passedOver)) ∧
        (∀ pre e post token seconds, s.calls.entries = pre ++ e :: post → 20 ≤ t.link.queue.length →
          t.link.queue.getLast? = some (.permit e.stage token seconds) →
          t.arbiter.marker = none ∧ ∀ y ∈ post, aged y y.passedOver) ∧
        (∀ e ∈ s.calls.entries, ∀ x ∈ t.calls.entries, x.stage = e.stage →
          x = { e with passedOver := x.passedOver, stamp := x.stamp } ∧
            (x.passedOver = e.passedOver ∨
              (cause = .evaluation ∧ eligible e ∧ x.passedOver = min 65535 (e.passedOver + 1))))) ∧
      t.arbiter.tokenCounter =
        Nat.repeat (fun k => if 255 ≤ k then 1 else k + 1) t.arbiter.lastPass.grants s.arbiter.tokenCounter ∧
      (∀ a b, (s.stage a).state = .queued → (s.stage b).state = .queued → (t.stage a).state ≠ .queued →
        (t.stage b).state ≠ .queued → (s.stage a).working.surge = true → (s.stage b).working.surge = true → a = b) ∧
      (∃ permits, t.link.queue = s.link.queue ++ permits ∧ permits.length = t.arbiter.lastPass.grants ∧
        ∀ n ∈ permits, ∃ st token, n = .permit st token (s.setting .confirmTimeout)) ∧
      t.link.queue.length ≤ 20 ∧
      (∃ y : State,
        let granted := s.calls.entries.filter fun e => (t.stage e.stage).state == .granted
        let surges := granted.countP fun e => (s.stage e.stage).working.surge
        let raised := fun (c : Counter) (n : Nat) =>
          y.counter c = if n = 0 then s.counter c else min 65535 (s.counter c + n)
        let onset := ∃ m ∈ y.arbiter.marker, ∀ old ∈ s.arbiter.marker, old.stage ≠ m.stage
        let replays := if s.mode = .replay then granted.length else 0
        t = (if granted.any CallEntry.replay then y.feed else y) ∧
        y.modes = { s.modes with
          roster := s.modes.roster.map fun e =>
            if s.mode = .replay ∧ e.stage ∈ granted.map CallEntry.stage ∧ e.outcome = .fed then
              { e with outcome := .restored } else e
          fedCount := s.modes.fedCount - replays } ∧
        granted.length = y.arbiter.lastPass.grants ∧ raised .permitsIssued granted.length ∧
        raised .surgePermits surges ∧ (onset → raised .blockingHeadOnsets 1) ∧ (¬ onset → raised .blockingHeadOnsets 0) ∧
        raised .rosterRestored replays ∧
        (∀ c : Counter, c ∉ [.permitsIssued, .surgePermits, .blockingHeadOnsets, .rosterRestored, .congestionOnsets] →
          y.counter c = s.counter c) ∧
        y = { s with stages := y.stages, calls := y.calls, arbiter := y.arbiter, modes := y.modes, link := y.link,
                     counters := y.counters }) ∧
      t.arbiter.lastPass =
        { cause := some cause, headroomAtStart := h, guardBand := guardBand, grants := t.arbiter.lastPass.grants,
          headroomAtEnd := t.account.allowance - ((t.account.uncontrolled + t.stages.cRun + t.stages.cPend : Nat) : Int),
          blockingHead := t.arbiter.marker.map Marker.stage } ∧
      (0 < t.arbiter.lastPass.grants → (guardBand : Int) ≤ t.arbiter.lastPass.headroomAtEnd) ∧
      ∀ m ∈ t.arbiter.marker, ∃ e ∈ s.calls.entries, e.stage = m.stage ∧ e.cls ≤ 1 ∧
        s.setting .holdBackTime ≤ e.passedOver + (if cause = .evaluation then 1 else 0) ∧
        m.load = (s.stage m.stage).working.load ∧ t.arbiter.lastPass.headroomAtEnd - guardBand < m.load)

/-- A shed check: order stops, then the demand shed (permit first, then the worst class, earliest), then the displacement.
The model's choices and readings: log entries 14, 38. (R20, R21, R107, R108, R109, R110, R111, R112, R113, R114, R150,
R153) -/
def Obligations.ShedsAreMade : Prop :=
  ∀ s : State,
    let t := s.checkCause
    let run := s.stages.runOrder
    let delay := s.setting .shedDelay
    let h := s.account.allowance - ((s.account.uncontrolled + s.stages.cRun + s.stages.cPend : Nat) : Int)
    let ordered := fun st : StageId => s.shed.orders.any fun o => o.action == .stop &&
      (s.unit st.unit).group &&& o.groupMask == o.groupValue &&& o.groupMask && (s.stage st).working.kind != .none &&
        o.kindSet.getLsbD ((s.stage st).working.kind.code - 1)
    let revocable := fun st : StageId => (s.stage st).state = .granted ∧ (s.stage st).rosterFlag = false
    let stoppable := fun st : StageId => (s.stage st).state = .running ∧ (s.stage st).run = 0
    let cls := fun st : StageId => (s.stage st).working.shedClass
    let sent := fun (st : StageId) (reason : StopReason) (t : State) =>
      t.placeStop { stage := st, reason := reason, token := (s.stage st).token.getD 0 }
    let spent := fun t : State => { t with account := { s.account with persistence := 0 } }
    let stopping := fun (st : StageId) (reason : StopReason) (c : Counter) =>
      { s with stages := s.stages.put st
                 { s.stage st with state := .stopping, handshake := 1000 * s.setting .stopTimeout,
                                   stopReason := some reason },
               counters := (s.bump c).counters, causes := s.causes ++ [.pass .stageChange] }
    let full := s.link.stopSlot ≠ none ∧ 24 ≤ s.link.queue.length
    let permitted := fun st : StageId => ordered st && (s.stage st).state == .granted
    let running := fun st : StageId => ordered st && (s.stage st).state == .running && (s.stage st).run == 0
    let frame := fun st : StageId =>
      ({ stage := st, reason := .order, token := (s.stage st).token.getD 0 } : StopFrame)
    let revoked := fun st : StageId =>
      { s.stage st with
        state := .idle, run := 0, handshake := 0, withdrawn := (s.stage st).token, token := none,
        window := 1000 * s.setting .confirmTimeout, withdrawnByReplay := (s.stage st).rosterFlag, rosterFlag := false,
        working := if (s.stage st).pendingProfile then s.store.profile st else (s.stage st).working,
        pendingProfile := false }
    let stopped := fun st : StageId =>
      { s.stage st with state := .stopping, handshake := 1000 * s.setting .stopTimeout, stopReason := some .order }
    (s.mode.admits = false ∨ s.onBus = false → t = s) ∧
    (s.stages.runOrderExact →
      let y := s.shedOrders
      let due := run.filter fun st => permitted st || running st
      let room := (if s.link.stopSlot = none then 1 else 0) + (24 - s.link.queue.length)
      let reached := due.take room
      let late := due.drop room
      let counted := fun (x : State) (c : Counter) (n : Nat) =>
        x.counter c = if n = 0 then s.counter c else min 65535 (s.counter c + n)
      (∀ st, st ∉ reached → s.leftOrFed y st (s.stage st)) ∧
      (∀ st ∈ reached, permitted st → s.leftOrFed y st (revoked st)) ∧
      (∀ st ∈ reached, running st → y.stage st = stopped st) ∧
      y.link = ((reached.map frame).foldl (fun (x : State) f => x.placeStop f) s).link ∧
      y.stages.runOrder = run.filter (fun st => !(reached.contains st && permitted st)) ∧
      (s.stages.sumsExact → y.stages.cRun = s.stages.cRun) ∧
      y.stages.cPend = s.stages.cPend -
        ((reached.filter permitted).map fun st => (s.stage st).working.load).sum ∧
      counted y .orderRevokes (reached.countP permitted) ∧ counted y .orderStops (reached.countP running) ∧
      counted y .shedsWaiting late.length ∧
      (s.mode = .replay → y.mode = .replay →
        counted y .replayDeclines (reached.countP fun st => permitted st && (s.stage st).rosterFlag)) ∧
      (s.mode = .replay → s.rosterExact → ∀ st ∈ reached, permitted st → (s.stage st).rosterFlag = true →
        ({ stage := st, outcome := .restored } : RosterEntry) ∈ s.modes.roster →
          ({ stage := st, outcome := .dropped } : RosterEntry) ∈ y.modes.roster ∨
            (y.mode = .coordinating ∧ y.modes.roster = [])) ∧
      (∃ given, y.causes = s.causes ++ given ∧ given.filter (fun c => c == .pass .stageChange) =
        List.replicate reached.length (.pass .stageChange)) ∧
      (∀ c : Counter, c ∉ [.orderRevokes, .orderStops, .shedsWaiting, .replayDeclines, .rosterDropped,
        .congestionOnsets] → y.counter c = s.counter c) ∧
      y = { s with stages := y.stages, calls := y.calls, link := y.link, modes := y.modes, counters := y.counters,
                   causes := y.causes } ∧
      (s.mode ≠ .replay → y.calls = s.calls ∧ y.modes = s.modes ∧
        y.causes = s.causes ++ List.replicate reached.length (.pass .stageChange) ∧
        ∀ c ∈ [Counter.replayDeclines, .rosterDropped, .congestionOnsets], y.counter c = s.counter c) ∧
      (s.mode.admits = true → s.onBus = true → late = [] → t = y.checkCause) ∧
      (s.mode.admits = true → s.onBus = true → late ≠ [] ∨ full →
        let listed := y.stages.runOrder
        let settled := fun st : StageId => (y.stage st).state == .running && (y.stage st).run == 0
        let demand := decide (delay ≤ y.account.persistence)
        let victim := listed.any fun st => settled st || ((y.stage st).state == .granted && !(y.stage st).rosterFlag)
        let left := y.account.allowance - ((y.account.uncontrolled + y.stages.cRun + y.stages.cPend : Nat) : Int)
        let displaces := (y.arbiter.marker.any fun m => decide (left - s.setting .guardBand < m.load)) &&
          y.shed.holdOff == 0 && listed.any fun st => settled st && (s.stage st).working.shedClass == 3
        t = { y with counters := t.counters, account := { y.account with
          persistence := if demand && !victim then 0 else y.account.persistence } } ∧
        counted t .shedsWaiting (late.length + (demand && victim).toNat + displaces.toNat) ∧
        counted t .shedUnavailable (demand && !victim).toNat ∧
        ∀ c : Counter, c ≠ .shedsWaiting → c ≠ .shedUnavailable → t.counter c = y.counter c)) ∧
    (s.mode.admits = true → s.onBus = true → s.stages.runOrderExact → s.link.queue.length + run.length ≤ 24 →
      (∀ st, permitted st →
        let r := s.stage st
        (t.stage st = revoked st ∨
          (s.mode = .replay ∧ t.stage st = { revoked st with state := .queued } ∧
            ({ stage := st, outcome := .fed } : RosterEntry) ∈ t.modes.roster)) ∧
        (s.mode = .replay → s.rosterExact → r.rosterFlag = true →
          ({ stage := st, outcome := .restored } : RosterEntry) ∈ s.modes.roster →
          ({ stage := st, outcome := .dropped } : RosterEntry) ∈ t.modes.roster ∨
            (t.mode = .coordinating ∧ t.modes.roster = []))) ∧
      (∀ st, running st → t.stage st = stopped st) ∧
      (∃ more : List StopFrame, more.length ≤ 1 ∧ (∀ f ∈ more, f.reason ≠ .order) ∧
        t.link = (((run.filter fun st => permitted st || running st).map frame ++ more).foldl
          (fun (x : State) f => x.placeStop f) s).link) ∧
      (s.mode = .replay → t.mode = .replay →
        let declined := run.countP fun st => permitted st && (s.stage st).rosterFlag
        t.counter .replayDeclines =
          if declined = 0 then s.counter .replayDeclines else min 65535 (s.counter .replayDeclines + declined)) ∧
      (0 < run.countP permitted →
        t.counter .orderRevokes = min 65535 (s.counter .orderRevokes + run.countP permitted)) ∧
      (0 < run.countP running → t.counter .orderStops = min 65535 (s.counter .orderStops + run.countP running))) ∧
    (s.mode.admits = true → s.onBus = true → (∀ st ∈ run, permitted st = false ∧ running st = false) →
      (delay ≤ s.account.persistence → ∀ pre st post, run = pre ++ st :: post → revocable st →
        (∀ x ∈ post, ¬ revocable x) →
        (¬ full → t = spent (sent st .demand
          { s with stages := s.stages.put st
                     { s.stage st with state := .idle, run := 0, handshake := 0, withdrawn := (s.stage st).token,
                                       token := none, window := 1000 * s.setting .confirmTimeout,
                                       withdrawnByReplay := false, rosterFlag := false, pendingProfile := false,
                                       working := if (s.stage st).pendingProfile then s.store.profile st
                                         else (s.stage st).working },
                   counters := (s.bump .demandRevokes).counters, causes := s.causes ++ [.pass .stageChange] })) ∧
        (full → s.arbiter.marker = none → t = s.bump .shedsWaiting)) ∧
      (delay ≤ s.account.persistence → (∀ x ∈ run, ¬ revocable x) → ∀ pre st post, run = pre ++ st :: post →
        stoppable st → (∀ x ∈ pre, stoppable x → cls x < cls st) → (∀ x ∈ post, stoppable x → cls x ≤ cls st) →
        (¬ full → t = spent (sent st .demand (stopping st .demand .demandStops))) ∧
        (full → s.arbiter.marker = none → t = s.bump .shedsWaiting)) ∧
      (delay ≤ s.account.persistence → (∀ x ∈ run, ¬ revocable x ∧ ¬ stoppable x) →
        t = spent (s.bump .shedUnavailable)) ∧
      (s.account.persistence < delay →
        (∀ m ∈ s.arbiter.marker, (m.load : Int) ≤ h - s.setting .guardBand ∨ s.shed.holdOff ≠ 0) → t = s) ∧
      (s.account.persistence < delay → (∀ x ∈ run, ¬ (stoppable x ∧ cls x = 3)) → t = s) ∧
      (s.account.persistence < delay → s.shed.holdOff = 0 → ∀ m, s.arbiter.marker = some m →
        h - s.setting .guardBand < m.load → ∀ pre st post, run = pre ++ st :: post → stoppable st → cls st = 3 →
        (∀ x ∈ pre, ¬ (stoppable x ∧ cls x = 3)) →
        (¬ full → t = sent st .displace
          { stopping st .displace .displacementStops with shed := { s.shed with holdOff := 1000 * delay } }) ∧
        (full → t = s.bump .shedsWaiting)))

/-- The digest: 65536 less the sum modulo 65536 of the profiles in use, the group codes and the settings; completions and
resets form it. (R173) -/
def Obligations.DigestIsFormed : Prop :=
  (∀ store : Store,
    let stageSum := (allStages.map fun st =>
      let p := store.profile st
      if p.kind = .none then 0
      else (match p.kind with | .none => 0 | .fan => 1 | .cool => 2 | .heatGas => 3 | .heatElec => 4) + p.load +
        (if p.surge then 1 else 0) + p.minOn + p.minOff + p.shedClass +
        (match p.lead with | none => 0 | some k => k.val + 1)).sum
    let sum := stageSum + (units.map fun u => (store.group u).toNat).sum + (Setting.all.map store.setting).sum
    store.contentsDigest = (65536 - sum % 65536) % 65536 ∧ (sum + store.contentsDigest) % 65536 = 0) ∧
  (Setting.all.map Setting.default).sum = 4284 ∧ erasedStore.contentsDigest = 61252 ∧ erasedStore.digest = 61252 ∧
  ∀ (s : State) (f : Flight), s.powered →
    (∃ t : State, exec .powerOnReset s = .next t ∧ t.store.recomputed = s.store.contentsDigest) ∧
    (∀ inside : Bool, ∃ t : State, exec (.resetLine inside) s = .next t ∧ t.store.recomputed = s.store.contentsDigest) ∧
    (s.store.flight = some f →
      (f.operation = .erase → ∃ t : State, exec .eraseCompletion s = .next t ∧ t.store.digest = t.store.contentsDigest) ∧
      (f.operation ≠ .erase → ∃ t : State, exec .writeCompletion s = .next t ∧ t.store.digest = t.store.contentsDigest))

end ObligationStatements
end

