-- ==== Sys2Proof/Laws/State.lean ====
section
/-! SUPPORT. Laws/State.lean: what each update of the state leaves in each of its fields, true by definition and for simp, so that
no later proof unfolds a record update. -/

namespace Sys2Proof.Machine

variable (s : State)

@[simp] theorem State.onStages_supplied (f : StageTable → StageTable) : (s.onStages f).supplied = s.supplied := rfl
@[simp] theorem State.onStages_pins (f : StageTable → StageTable) : (s.onStages f).pins = s.pins := rfl
@[simp] theorem State.onStages_stages (f : StageTable → StageTable) : (s.onStages f).stages = f s.stages := rfl
@[simp] theorem State.onStages_calls (f : StageTable → StageTable) : (s.onStages f).calls = s.calls := rfl
@[simp] theorem State.onStages_arbiter (f : StageTable → StageTable) : (s.onStages f).arbiter = s.arbiter := rfl
@[simp] theorem State.onStages_account (f : StageTable → StageTable) : (s.onStages f).account = s.account := rfl
@[simp] theorem State.onStages_shed (f : StageTable → StageTable) : (s.onStages f).shed = s.shed := rfl
@[simp] theorem State.onStages_supervisor (f : StageTable → StageTable) : (s.onStages f).supervisor = s.supervisor := rfl
@[simp] theorem State.onStages_lines (f : StageTable → StageTable) : (s.onStages f).lines = s.lines := rfl
@[simp] theorem State.onStages_modes (f : StageTable → StageTable) : (s.onStages f).modes = s.modes := rfl
@[simp] theorem State.onStages_link (f : StageTable → StageTable) : (s.onStages f).link = s.link := rfl
@[simp] theorem State.onStages_store (f : StageTable → StageTable) : (s.onStages f).store = s.store := rfl
@[simp] theorem State.onStages_counters (f : StageTable → StageTable) : (s.onStages f).counters = s.counters := rfl
@[simp] theorem State.onStages_causes (f : StageTable → StageTable) : (s.onStages f).causes = s.causes := rfl
@[simp] theorem State.onStages_drawn (f : StageTable → StageTable) : (s.onStages f).drawn = s.drawn := rfl
@[simp] theorem State.onStages_pending (f : StageTable → StageTable) : (s.onStages f).pending = s.pending := rfl
@[simp] theorem State.onStages_unit (f : StageTable → StageTable) (u : UnitId) : (s.onStages f).unit u = s.unit u := rfl
@[simp] theorem State.onStages_mode (f : StageTable → StageTable) : (s.onStages f).mode = s.mode := rfl
@[simp] theorem State.onStages_onBus (f : StageTable → StageTable) : (s.onStages f).onBus = s.onBus := rfl
@[simp] theorem State.onStages_setting (f : StageTable → StageTable) (x : Setting) : (s.onStages f).setting x = s.setting x := rfl
@[simp] theorem State.onStages_noticeRoom (f : StageTable → StageTable) : (s.onStages f).noticeRoom = s.noticeRoom := rfl
@[simp] theorem State.onStages_stopRoom (f : StageTable → StageTable) : (s.onStages f).stopRoom = s.stopRoom := rfl
@[simp] theorem State.onStages_callOf (f : StageTable → StageTable) (st : StageId) : (s.onStages f).callOf st = s.callOf st := rfl

@[simp] theorem State.onCalls_supplied (f : CallQueue → CallQueue) : (s.onCalls f).supplied = s.supplied := rfl
@[simp] theorem State.onCalls_pins (f : CallQueue → CallQueue) : (s.onCalls f).pins = s.pins := rfl
@[simp] theorem State.onCalls_stages (f : CallQueue → CallQueue) : (s.onCalls f).stages = s.stages := rfl
@[simp] theorem State.onCalls_calls (f : CallQueue → CallQueue) : (s.onCalls f).calls = f s.calls := rfl
@[simp] theorem State.onCalls_arbiter (f : CallQueue → CallQueue) : (s.onCalls f).arbiter = s.arbiter := rfl
@[simp] theorem State.onCalls_account (f : CallQueue → CallQueue) : (s.onCalls f).account = s.account := rfl
@[simp] theorem State.onCalls_shed (f : CallQueue → CallQueue) : (s.onCalls f).shed = s.shed := rfl
@[simp] theorem State.onCalls_supervisor (f : CallQueue → CallQueue) : (s.onCalls f).supervisor = s.supervisor := rfl
@[simp] theorem State.onCalls_lines (f : CallQueue → CallQueue) : (s.onCalls f).lines = s.lines := rfl
@[simp] theorem State.onCalls_modes (f : CallQueue → CallQueue) : (s.onCalls f).modes = s.modes := rfl
@[simp] theorem State.onCalls_link (f : CallQueue → CallQueue) : (s.onCalls f).link = s.link := rfl
@[simp] theorem State.onCalls_store (f : CallQueue → CallQueue) : (s.onCalls f).store = s.store := rfl
@[simp] theorem State.onCalls_counters (f : CallQueue → CallQueue) : (s.onCalls f).counters = s.counters := rfl
@[simp] theorem State.onCalls_causes (f : CallQueue → CallQueue) : (s.onCalls f).causes = s.causes := rfl
@[simp] theorem State.onCalls_drawn (f : CallQueue → CallQueue) : (s.onCalls f).drawn = s.drawn := rfl
@[simp] theorem State.onCalls_pending (f : CallQueue → CallQueue) : (s.onCalls f).pending = s.pending := rfl
@[simp] theorem State.onCalls_stage (f : CallQueue → CallQueue) (st : StageId) : (s.onCalls f).stage st = s.stage st := rfl
@[simp] theorem State.onCalls_unit (f : CallQueue → CallQueue) (u : UnitId) : (s.onCalls f).unit u = s.unit u := rfl
@[simp] theorem State.onCalls_mode (f : CallQueue → CallQueue) : (s.onCalls f).mode = s.mode := rfl
@[simp] theorem State.onCalls_onBus (f : CallQueue → CallQueue) : (s.onCalls f).onBus = s.onBus := rfl
@[simp] theorem State.onCalls_setting (f : CallQueue → CallQueue) (x : Setting) : (s.onCalls f).setting x = s.setting x := rfl
@[simp] theorem State.onCalls_noticeRoom (f : CallQueue → CallQueue) : (s.onCalls f).noticeRoom = s.noticeRoom := rfl
@[simp] theorem State.onCalls_stopRoom (f : CallQueue → CallQueue) : (s.onCalls f).stopRoom = s.stopRoom := rfl

@[simp] theorem State.onArbiter_supplied (f : Arbiter → Arbiter) : (s.onArbiter f).supplied = s.supplied := rfl
@[simp] theorem State.onArbiter_pins (f : Arbiter → Arbiter) : (s.onArbiter f).pins = s.pins := rfl
@[simp] theorem State.onArbiter_stages (f : Arbiter → Arbiter) : (s.onArbiter f).stages = s.stages := rfl
@[simp] theorem State.onArbiter_calls (f : Arbiter → Arbiter) : (s.onArbiter f).calls = s.calls := rfl
@[simp] theorem State.onArbiter_arbiter (f : Arbiter → Arbiter) : (s.onArbiter f).arbiter = f s.arbiter := rfl
@[simp] theorem State.onArbiter_account (f : Arbiter → Arbiter) : (s.onArbiter f).account = s.account := rfl
@[simp] theorem State.onArbiter_shed (f : Arbiter → Arbiter) : (s.onArbiter f).shed = s.shed := rfl
@[simp] theorem State.onArbiter_supervisor (f : Arbiter → Arbiter) : (s.onArbiter f).supervisor = s.supervisor := rfl
@[simp] theorem State.onArbiter_lines (f : Arbiter → Arbiter) : (s.onArbiter f).lines = s.lines := rfl
@[simp] theorem State.onArbiter_modes (f : Arbiter → Arbiter) : (s.onArbiter f).modes = s.modes := rfl
@[simp] theorem State.onArbiter_link (f : Arbiter → Arbiter) : (s.onArbiter f).link = s.link := rfl
@[simp] theorem State.onArbiter_store (f : Arbiter → Arbiter) : (s.onArbiter f).store = s.store := rfl
@[simp] theorem State.onArbiter_counters (f : Arbiter → Arbiter) : (s.onArbiter f).counters = s.counters := rfl
@[simp] theorem State.onArbiter_causes (f : Arbiter → Arbiter) : (s.onArbiter f).causes = s.causes := rfl
@[simp] theorem State.onArbiter_drawn (f : Arbiter → Arbiter) : (s.onArbiter f).drawn = s.drawn := rfl
@[simp] theorem State.onArbiter_pending (f : Arbiter → Arbiter) : (s.onArbiter f).pending = s.pending := rfl
@[simp] theorem State.onArbiter_stage (f : Arbiter → Arbiter) (st : StageId) : (s.onArbiter f).stage st = s.stage st := rfl
@[simp] theorem State.onArbiter_unit (f : Arbiter → Arbiter) (u : UnitId) : (s.onArbiter f).unit u = s.unit u := rfl
@[simp] theorem State.onArbiter_mode (f : Arbiter → Arbiter) : (s.onArbiter f).mode = s.mode := rfl
@[simp] theorem State.onArbiter_onBus (f : Arbiter → Arbiter) : (s.onArbiter f).onBus = s.onBus := rfl
@[simp] theorem State.onArbiter_setting (f : Arbiter → Arbiter) (x : Setting) : (s.onArbiter f).setting x = s.setting x := rfl
@[simp] theorem State.onArbiter_noticeRoom (f : Arbiter → Arbiter) : (s.onArbiter f).noticeRoom = s.noticeRoom := rfl
@[simp] theorem State.onArbiter_stopRoom (f : Arbiter → Arbiter) : (s.onArbiter f).stopRoom = s.stopRoom := rfl
@[simp] theorem State.onArbiter_callOf (f : Arbiter → Arbiter) (st : StageId) : (s.onArbiter f).callOf st = s.callOf st := rfl

@[simp] theorem State.onAccount_supplied (f : Account → Account) : (s.onAccount f).supplied = s.supplied := rfl
@[simp] theorem State.onAccount_pins (f : Account → Account) : (s.onAccount f).pins = s.pins := rfl
@[simp] theorem State.onAccount_stages (f : Account → Account) : (s.onAccount f).stages = s.stages := rfl
@[simp] theorem State.onAccount_calls (f : Account → Account) : (s.onAccount f).calls = s.calls := rfl
@[simp] theorem State.onAccount_arbiter (f : Account → Account) : (s.onAccount f).arbiter = s.arbiter := rfl
@[simp] theorem State.onAccount_account (f : Account → Account) : (s.onAccount f).account = f s.account := rfl
@[simp] theorem State.onAccount_shed (f : Account → Account) : (s.onAccount f).shed = s.shed := rfl
@[simp] theorem State.onAccount_supervisor (f : Account → Account) : (s.onAccount f).supervisor = s.supervisor := rfl
@[simp] theorem State.onAccount_lines (f : Account → Account) : (s.onAccount f).lines = s.lines := rfl
@[simp] theorem State.onAccount_modes (f : Account → Account) : (s.onAccount f).modes = s.modes := rfl
@[simp] theorem State.onAccount_link (f : Account → Account) : (s.onAccount f).link = s.link := rfl
@[simp] theorem State.onAccount_store (f : Account → Account) : (s.onAccount f).store = s.store := rfl
@[simp] theorem State.onAccount_counters (f : Account → Account) : (s.onAccount f).counters = s.counters := rfl
@[simp] theorem State.onAccount_causes (f : Account → Account) : (s.onAccount f).causes = s.causes := rfl
@[simp] theorem State.onAccount_drawn (f : Account → Account) : (s.onAccount f).drawn = s.drawn := rfl
@[simp] theorem State.onAccount_pending (f : Account → Account) : (s.onAccount f).pending = s.pending := rfl
@[simp] theorem State.onAccount_stage (f : Account → Account) (st : StageId) : (s.onAccount f).stage st = s.stage st := rfl
@[simp] theorem State.onAccount_unit (f : Account → Account) (u : UnitId) : (s.onAccount f).unit u = s.unit u := rfl
@[simp] theorem State.onAccount_mode (f : Account → Account) : (s.onAccount f).mode = s.mode := rfl
@[simp] theorem State.onAccount_onBus (f : Account → Account) : (s.onAccount f).onBus = s.onBus := rfl
@[simp] theorem State.onAccount_setting (f : Account → Account) (x : Setting) : (s.onAccount f).setting x = s.setting x := rfl
@[simp] theorem State.onAccount_noticeRoom (f : Account → Account) : (s.onAccount f).noticeRoom = s.noticeRoom := rfl
@[simp] theorem State.onAccount_stopRoom (f : Account → Account) : (s.onAccount f).stopRoom = s.stopRoom := rfl
@[simp] theorem State.onAccount_callOf (f : Account → Account) (st : StageId) : (s.onAccount f).callOf st = s.callOf st := rfl

@[simp] theorem State.onShed_supplied (f : Shed → Shed) : (s.onShed f).supplied = s.supplied := rfl
@[simp] theorem State.onShed_pins (f : Shed → Shed) : (s.onShed f).pins = s.pins := rfl
@[simp] theorem State.onShed_stages (f : Shed → Shed) : (s.onShed f).stages = s.stages := rfl
@[simp] theorem State.onShed_calls (f : Shed → Shed) : (s.onShed f).calls = s.calls := rfl
@[simp] theorem State.onShed_arbiter (f : Shed → Shed) : (s.onShed f).arbiter = s.arbiter := rfl
@[simp] theorem State.onShed_account (f : Shed → Shed) : (s.onShed f).account = s.account := rfl
@[simp] theorem State.onShed_shed (f : Shed → Shed) : (s.onShed f).shed = f s.shed := rfl
@[simp] theorem State.onShed_supervisor (f : Shed → Shed) : (s.onShed f).supervisor = s.supervisor := rfl
@[simp] theorem State.onShed_lines (f : Shed → Shed) : (s.onShed f).lines = s.lines := rfl
@[simp] theorem State.onShed_modes (f : Shed → Shed) : (s.onShed f).modes = s.modes := rfl
@[simp] theorem State.onShed_link (f : Shed → Shed) : (s.onShed f).link = s.link := rfl
@[simp] theorem State.onShed_store (f : Shed → Shed) : (s.onShed f).store = s.store := rfl
@[simp] theorem State.onShed_counters (f : Shed → Shed) : (s.onShed f).counters = s.counters := rfl
@[simp] theorem State.onShed_causes (f : Shed → Shed) : (s.onShed f).causes = s.causes := rfl
@[simp] theorem State.onShed_drawn (f : Shed → Shed) : (s.onShed f).drawn = s.drawn := rfl
@[simp] theorem State.onShed_pending (f : Shed → Shed) : (s.onShed f).pending = s.pending := rfl
@[simp] theorem State.onShed_stage (f : Shed → Shed) (st : StageId) : (s.onShed f).stage st = s.stage st := rfl
@[simp] theorem State.onShed_unit (f : Shed → Shed) (u : UnitId) : (s.onShed f).unit u = s.unit u := rfl
@[simp] theorem State.onShed_mode (f : Shed → Shed) : (s.onShed f).mode = s.mode := rfl
@[simp] theorem State.onShed_onBus (f : Shed → Shed) : (s.onShed f).onBus = s.onBus := rfl
@[simp] theorem State.onShed_setting (f : Shed → Shed) (x : Setting) : (s.onShed f).setting x = s.setting x := rfl
@[simp] theorem State.onShed_noticeRoom (f : Shed → Shed) : (s.onShed f).noticeRoom = s.noticeRoom := rfl
@[simp] theorem State.onShed_stopRoom (f : Shed → Shed) : (s.onShed f).stopRoom = s.stopRoom := rfl
@[simp] theorem State.onShed_callOf (f : Shed → Shed) (st : StageId) : (s.onShed f).callOf st = s.callOf st := rfl

@[simp] theorem State.onSupervisor_supplied (f : Supervisor → Supervisor) : (s.onSupervisor f).supplied = s.supplied := rfl
@[simp] theorem State.onSupervisor_pins (f : Supervisor → Supervisor) : (s.onSupervisor f).pins = s.pins := rfl
@[simp] theorem State.onSupervisor_stages (f : Supervisor → Supervisor) : (s.onSupervisor f).stages = s.stages := rfl
@[simp] theorem State.onSupervisor_calls (f : Supervisor → Supervisor) : (s.onSupervisor f).calls = s.calls := rfl
@[simp] theorem State.onSupervisor_arbiter (f : Supervisor → Supervisor) : (s.onSupervisor f).arbiter = s.arbiter := rfl
@[simp] theorem State.onSupervisor_account (f : Supervisor → Supervisor) : (s.onSupervisor f).account = s.account := rfl
@[simp] theorem State.onSupervisor_shed (f : Supervisor → Supervisor) : (s.onSupervisor f).shed = s.shed := rfl
@[simp] theorem State.onSupervisor_supervisor (f : Supervisor → Supervisor) : (s.onSupervisor f).supervisor = f s.supervisor := rfl
@[simp] theorem State.onSupervisor_lines (f : Supervisor → Supervisor) : (s.onSupervisor f).lines = s.lines := rfl
@[simp] theorem State.onSupervisor_modes (f : Supervisor → Supervisor) : (s.onSupervisor f).modes = s.modes := rfl
@[simp] theorem State.onSupervisor_link (f : Supervisor → Supervisor) : (s.onSupervisor f).link = s.link := rfl
@[simp] theorem State.onSupervisor_store (f : Supervisor → Supervisor) : (s.onSupervisor f).store = s.store := rfl
@[simp] theorem State.onSupervisor_counters (f : Supervisor → Supervisor) : (s.onSupervisor f).counters = s.counters := rfl
@[simp] theorem State.onSupervisor_causes (f : Supervisor → Supervisor) : (s.onSupervisor f).causes = s.causes := rfl
@[simp] theorem State.onSupervisor_drawn (f : Supervisor → Supervisor) : (s.onSupervisor f).drawn = s.drawn := rfl
@[simp] theorem State.onSupervisor_pending (f : Supervisor → Supervisor) : (s.onSupervisor f).pending = s.pending := rfl
@[simp] theorem State.onSupervisor_stage (f : Supervisor → Supervisor) (st : StageId) : (s.onSupervisor f).stage st = s.stage st := rfl
@[simp] theorem State.onSupervisor_mode (f : Supervisor → Supervisor) : (s.onSupervisor f).mode = s.mode := rfl
@[simp] theorem State.onSupervisor_onBus (f : Supervisor → Supervisor) : (s.onSupervisor f).onBus = s.onBus := rfl
@[simp] theorem State.onSupervisor_setting (f : Supervisor → Supervisor) (x : Setting) : (s.onSupervisor f).setting x = s.setting x := rfl
@[simp] theorem State.onSupervisor_noticeRoom (f : Supervisor → Supervisor) : (s.onSupervisor f).noticeRoom = s.noticeRoom := rfl
@[simp] theorem State.onSupervisor_stopRoom (f : Supervisor → Supervisor) : (s.onSupervisor f).stopRoom = s.stopRoom := rfl
@[simp] theorem State.onSupervisor_callOf (f : Supervisor → Supervisor) (st : StageId) : (s.onSupervisor f).callOf st = s.callOf st := rfl

@[simp] theorem State.onLines_supplied (f : Lines → Lines) : (s.onLines f).supplied = s.supplied := rfl
@[simp] theorem State.onLines_pins (f : Lines → Lines) : (s.onLines f).pins = s.pins := rfl
@[simp] theorem State.onLines_stages (f : Lines → Lines) : (s.onLines f).stages = s.stages := rfl
@[simp] theorem State.onLines_calls (f : Lines → Lines) : (s.onLines f).calls = s.calls := rfl
@[simp] theorem State.onLines_arbiter (f : Lines → Lines) : (s.onLines f).arbiter = s.arbiter := rfl
@[simp] theorem State.onLines_account (f : Lines → Lines) : (s.onLines f).account = s.account := rfl
@[simp] theorem State.onLines_shed (f : Lines → Lines) : (s.onLines f).shed = s.shed := rfl
@[simp] theorem State.onLines_supervisor (f : Lines → Lines) : (s.onLines f).supervisor = s.supervisor := rfl
@[simp] theorem State.onLines_lines (f : Lines → Lines) : (s.onLines f).lines = f s.lines := rfl
@[simp] theorem State.onLines_modes (f : Lines → Lines) : (s.onLines f).modes = s.modes := rfl
@[simp] theorem State.onLines_link (f : Lines → Lines) : (s.onLines f).link = s.link := rfl
@[simp] theorem State.onLines_store (f : Lines → Lines) : (s.onLines f).store = s.store := rfl
@[simp] theorem State.onLines_counters (f : Lines → Lines) : (s.onLines f).counters = s.counters := rfl
@[simp] theorem State.onLines_causes (f : Lines → Lines) : (s.onLines f).causes = s.causes := rfl
@[simp] theorem State.onLines_drawn (f : Lines → Lines) : (s.onLines f).drawn = s.drawn := rfl
@[simp] theorem State.onLines_pending (f : Lines → Lines) : (s.onLines f).pending = s.pending := rfl
@[simp] theorem State.onLines_stage (f : Lines → Lines) (st : StageId) : (s.onLines f).stage st = s.stage st := rfl
@[simp] theorem State.onLines_unit (f : Lines → Lines) (u : UnitId) : (s.onLines f).unit u = s.unit u := rfl
@[simp] theorem State.onLines_mode (f : Lines → Lines) : (s.onLines f).mode = s.mode := rfl
@[simp] theorem State.onLines_onBus (f : Lines → Lines) : (s.onLines f).onBus = s.onBus := rfl
@[simp] theorem State.onLines_setting (f : Lines → Lines) (x : Setting) : (s.onLines f).setting x = s.setting x := rfl
@[simp] theorem State.onLines_noticeRoom (f : Lines → Lines) : (s.onLines f).noticeRoom = s.noticeRoom := rfl
@[simp] theorem State.onLines_stopRoom (f : Lines → Lines) : (s.onLines f).stopRoom = s.stopRoom := rfl
@[simp] theorem State.onLines_callOf (f : Lines → Lines) (st : StageId) : (s.onLines f).callOf st = s.callOf st := rfl

@[simp] theorem State.onModes_supplied (f : Modes → Modes) : (s.onModes f).supplied = s.supplied := rfl
@[simp] theorem State.onModes_pins (f : Modes → Modes) : (s.onModes f).pins = s.pins := rfl
@[simp] theorem State.onModes_stages (f : Modes → Modes) : (s.onModes f).stages = s.stages := rfl
@[simp] theorem State.onModes_calls (f : Modes → Modes) : (s.onModes f).calls = s.calls := rfl
@[simp] theorem State.onModes_arbiter (f : Modes → Modes) : (s.onModes f).arbiter = s.arbiter := rfl
@[simp] theorem State.onModes_account (f : Modes → Modes) : (s.onModes f).account = s.account := rfl
@[simp] theorem State.onModes_shed (f : Modes → Modes) : (s.onModes f).shed = s.shed := rfl
@[simp] theorem State.onModes_supervisor (f : Modes → Modes) : (s.onModes f).supervisor = s.supervisor := rfl
@[simp] theorem State.onModes_lines (f : Modes → Modes) : (s.onModes f).lines = s.lines := rfl
@[simp] theorem State.onModes_modes (f : Modes → Modes) : (s.onModes f).modes = f s.modes := rfl
@[simp] theorem State.onModes_link (f : Modes → Modes) : (s.onModes f).link = s.link := rfl
@[simp] theorem State.onModes_store (f : Modes → Modes) : (s.onModes f).store = s.store := rfl
@[simp] theorem State.onModes_counters (f : Modes → Modes) : (s.onModes f).counters = s.counters := rfl
@[simp] theorem State.onModes_causes (f : Modes → Modes) : (s.onModes f).causes = s.causes := rfl
@[simp] theorem State.onModes_drawn (f : Modes → Modes) : (s.onModes f).drawn = s.drawn := rfl
@[simp] theorem State.onModes_pending (f : Modes → Modes) : (s.onModes f).pending = s.pending := rfl
@[simp] theorem State.onModes_stage (f : Modes → Modes) (st : StageId) : (s.onModes f).stage st = s.stage st := rfl
@[simp] theorem State.onModes_unit (f : Modes → Modes) (u : UnitId) : (s.onModes f).unit u = s.unit u := rfl
@[simp] theorem State.onModes_onBus (f : Modes → Modes) : (s.onModes f).onBus = s.onBus := rfl
@[simp] theorem State.onModes_setting (f : Modes → Modes) (x : Setting) : (s.onModes f).setting x = s.setting x := rfl
@[simp] theorem State.onModes_noticeRoom (f : Modes → Modes) : (s.onModes f).noticeRoom = s.noticeRoom := rfl
@[simp] theorem State.onModes_stopRoom (f : Modes → Modes) : (s.onModes f).stopRoom = s.stopRoom := rfl
@[simp] theorem State.onModes_callOf (f : Modes → Modes) (st : StageId) : (s.onModes f).callOf st = s.callOf st := rfl

@[simp] theorem State.onLink_supplied (f : Link → Link) : (s.onLink f).supplied = s.supplied := rfl
@[simp] theorem State.onLink_pins (f : Link → Link) : (s.onLink f).pins = s.pins := rfl
@[simp] theorem State.onLink_stages (f : Link → Link) : (s.onLink f).stages = s.stages := rfl
@[simp] theorem State.onLink_calls (f : Link → Link) : (s.onLink f).calls = s.calls := rfl
@[simp] theorem State.onLink_arbiter (f : Link → Link) : (s.onLink f).arbiter = s.arbiter := rfl
@[simp] theorem State.onLink_account (f : Link → Link) : (s.onLink f).account = s.account := rfl
@[simp] theorem State.onLink_shed (f : Link → Link) : (s.onLink f).shed = s.shed := rfl
@[simp] theorem State.onLink_supervisor (f : Link → Link) : (s.onLink f).supervisor = s.supervisor := rfl
@[simp] theorem State.onLink_lines (f : Link → Link) : (s.onLink f).lines = s.lines := rfl
@[simp] theorem State.onLink_modes (f : Link → Link) : (s.onLink f).modes = s.modes := rfl
@[simp] theorem State.onLink_link (f : Link → Link) : (s.onLink f).link = f s.link := rfl
@[simp] theorem State.onLink_store (f : Link → Link) : (s.onLink f).store = s.store := rfl
@[simp] theorem State.onLink_counters (f : Link → Link) : (s.onLink f).counters = s.counters := rfl
@[simp] theorem State.onLink_causes (f : Link → Link) : (s.onLink f).causes = s.causes := rfl
@[simp] theorem State.onLink_drawn (f : Link → Link) : (s.onLink f).drawn = s.drawn := rfl
@[simp] theorem State.onLink_pending (f : Link → Link) : (s.onLink f).pending = s.pending := rfl
@[simp] theorem State.onLink_stage (f : Link → Link) (st : StageId) : (s.onLink f).stage st = s.stage st := rfl
@[simp] theorem State.onLink_unit (f : Link → Link) (u : UnitId) : (s.onLink f).unit u = s.unit u := rfl
@[simp] theorem State.onLink_mode (f : Link → Link) : (s.onLink f).mode = s.mode := rfl
@[simp] theorem State.onLink_setting (f : Link → Link) (x : Setting) : (s.onLink f).setting x = s.setting x := rfl
@[simp] theorem State.onLink_callOf (f : Link → Link) (st : StageId) : (s.onLink f).callOf st = s.callOf st := rfl

@[simp] theorem State.onStore_supplied (f : Store → Store) : (s.onStore f).supplied = s.supplied := rfl
@[simp] theorem State.onStore_pins (f : Store → Store) : (s.onStore f).pins = s.pins := rfl
@[simp] theorem State.onStore_stages (f : Store → Store) : (s.onStore f).stages = s.stages := rfl
@[simp] theorem State.onStore_calls (f : Store → Store) : (s.onStore f).calls = s.calls := rfl
@[simp] theorem State.onStore_arbiter (f : Store → Store) : (s.onStore f).arbiter = s.arbiter := rfl
@[simp] theorem State.onStore_account (f : Store → Store) : (s.onStore f).account = s.account := rfl
@[simp] theorem State.onStore_shed (f : Store → Store) : (s.onStore f).shed = s.shed := rfl
@[simp] theorem State.onStore_supervisor (f : Store → Store) : (s.onStore f).supervisor = s.supervisor := rfl
@[simp] theorem State.onStore_lines (f : Store → Store) : (s.onStore f).lines = s.lines := rfl
@[simp] theorem State.onStore_modes (f : Store → Store) : (s.onStore f).modes = s.modes := rfl
@[simp] theorem State.onStore_link (f : Store → Store) : (s.onStore f).link = s.link := rfl
@[simp] theorem State.onStore_store (f : Store → Store) : (s.onStore f).store = f s.store := rfl
@[simp] theorem State.onStore_counters (f : Store → Store) : (s.onStore f).counters = s.counters := rfl
@[simp] theorem State.onStore_causes (f : Store → Store) : (s.onStore f).causes = s.causes := rfl
@[simp] theorem State.onStore_drawn (f : Store → Store) : (s.onStore f).drawn = s.drawn := rfl
@[simp] theorem State.onStore_pending (f : Store → Store) : (s.onStore f).pending = s.pending := rfl
@[simp] theorem State.onStore_stage (f : Store → Store) (st : StageId) : (s.onStore f).stage st = s.stage st := rfl
@[simp] theorem State.onStore_unit (f : Store → Store) (u : UnitId) : (s.onStore f).unit u = s.unit u := rfl
@[simp] theorem State.onStore_mode (f : Store → Store) : (s.onStore f).mode = s.mode := rfl
@[simp] theorem State.onStore_onBus (f : Store → Store) : (s.onStore f).onBus = s.onBus := rfl
@[simp] theorem State.onStore_noticeRoom (f : Store → Store) : (s.onStore f).noticeRoom = s.noticeRoom := rfl
@[simp] theorem State.onStore_stopRoom (f : Store → Store) : (s.onStore f).stopRoom = s.stopRoom := rfl
@[simp] theorem State.onStore_callOf (f : Store → Store) (st : StageId) : (s.onStore f).callOf st = s.callOf st := rfl

@[simp] theorem State.onPins_supplied (f : Pins → Pins) : (s.onPins f).supplied = s.supplied := rfl
@[simp] theorem State.onPins_pins (f : Pins → Pins) : (s.onPins f).pins = f s.pins := rfl
@[simp] theorem State.onPins_stages (f : Pins → Pins) : (s.onPins f).stages = s.stages := rfl
@[simp] theorem State.onPins_calls (f : Pins → Pins) : (s.onPins f).calls = s.calls := rfl
@[simp] theorem State.onPins_arbiter (f : Pins → Pins) : (s.onPins f).arbiter = s.arbiter := rfl
@[simp] theorem State.onPins_account (f : Pins → Pins) : (s.onPins f).account = s.account := rfl
@[simp] theorem State.onPins_shed (f : Pins → Pins) : (s.onPins f).shed = s.shed := rfl
@[simp] theorem State.onPins_supervisor (f : Pins → Pins) : (s.onPins f).supervisor = s.supervisor := rfl
@[simp] theorem State.onPins_lines (f : Pins → Pins) : (s.onPins f).lines = s.lines := rfl
@[simp] theorem State.onPins_modes (f : Pins → Pins) : (s.onPins f).modes = s.modes := rfl
@[simp] theorem State.onPins_link (f : Pins → Pins) : (s.onPins f).link = s.link := rfl
@[simp] theorem State.onPins_store (f : Pins → Pins) : (s.onPins f).store = s.store := rfl
@[simp] theorem State.onPins_counters (f : Pins → Pins) : (s.onPins f).counters = s.counters := rfl
@[simp] theorem State.onPins_causes (f : Pins → Pins) : (s.onPins f).causes = s.causes := rfl
@[simp] theorem State.onPins_drawn (f : Pins → Pins) : (s.onPins f).drawn = s.drawn := rfl
@[simp] theorem State.onPins_pending (f : Pins → Pins) : (s.onPins f).pending = s.pending := rfl
@[simp] theorem State.onPins_stage (f : Pins → Pins) (st : StageId) : (s.onPins f).stage st = s.stage st := rfl
@[simp] theorem State.onPins_unit (f : Pins → Pins) (u : UnitId) : (s.onPins f).unit u = s.unit u := rfl
@[simp] theorem State.onPins_mode (f : Pins → Pins) : (s.onPins f).mode = s.mode := rfl
@[simp] theorem State.onPins_onBus (f : Pins → Pins) : (s.onPins f).onBus = s.onBus := rfl
@[simp] theorem State.onPins_setting (f : Pins → Pins) (x : Setting) : (s.onPins f).setting x = s.setting x := rfl
@[simp] theorem State.onPins_noticeRoom (f : Pins → Pins) : (s.onPins f).noticeRoom = s.noticeRoom := rfl
@[simp] theorem State.onPins_stopRoom (f : Pins → Pins) : (s.onPins f).stopRoom = s.stopRoom := rfl
@[simp] theorem State.onPins_callOf (f : Pins → Pins) (st : StageId) : (s.onPins f).callOf st = s.callOf st := rfl

@[simp] theorem State.bump_supplied (c : Counter) : (s.bump c).supplied = s.supplied := rfl
@[simp] theorem State.bump_pins (c : Counter) : (s.bump c).pins = s.pins := rfl
@[simp] theorem State.bump_stages (c : Counter) : (s.bump c).stages = s.stages := rfl
@[simp] theorem State.bump_calls (c : Counter) : (s.bump c).calls = s.calls := rfl
@[simp] theorem State.bump_arbiter (c : Counter) : (s.bump c).arbiter = s.arbiter := rfl
@[simp] theorem State.bump_account (c : Counter) : (s.bump c).account = s.account := rfl
@[simp] theorem State.bump_shed (c : Counter) : (s.bump c).shed = s.shed := rfl
@[simp] theorem State.bump_supervisor (c : Counter) : (s.bump c).supervisor = s.supervisor := rfl
@[simp] theorem State.bump_lines (c : Counter) : (s.bump c).lines = s.lines := rfl
@[simp] theorem State.bump_modes (c : Counter) : (s.bump c).modes = s.modes := rfl
@[simp] theorem State.bump_link (c : Counter) : (s.bump c).link = s.link := rfl
@[simp] theorem State.bump_store (c : Counter) : (s.bump c).store = s.store := rfl
@[simp] theorem State.bump_causes (c : Counter) : (s.bump c).causes = s.causes := rfl
@[simp] theorem State.bump_drawn (c : Counter) : (s.bump c).drawn = s.drawn := rfl
@[simp] theorem State.bump_pending (c : Counter) : (s.bump c).pending = s.pending := rfl
@[simp] theorem State.bump_stage (c : Counter) (st : StageId) : (s.bump c).stage st = s.stage st := rfl
@[simp] theorem State.bump_unit (c : Counter) (u : UnitId) : (s.bump c).unit u = s.unit u := rfl
@[simp] theorem State.bump_mode (c : Counter) : (s.bump c).mode = s.mode := rfl
@[simp] theorem State.bump_onBus (c : Counter) : (s.bump c).onBus = s.onBus := rfl
@[simp] theorem State.bump_setting (c : Counter) (x : Setting) : (s.bump c).setting x = s.setting x := rfl
@[simp] theorem State.bump_noticeRoom (c : Counter) : (s.bump c).noticeRoom = s.noticeRoom := rfl
@[simp] theorem State.bump_stopRoom (c : Counter) : (s.bump c).stopRoom = s.stopRoom := rfl
@[simp] theorem State.bump_callOf (c : Counter) (st : StageId) : (s.bump c).callOf st = s.callOf st := rfl

@[simp] theorem State.give_supplied (c : Cause) : (s.give c).supplied = s.supplied := rfl
@[simp] theorem State.give_pins (c : Cause) : (s.give c).pins = s.pins := rfl
@[simp] theorem State.give_stages (c : Cause) : (s.give c).stages = s.stages := rfl
@[simp] theorem State.give_calls (c : Cause) : (s.give c).calls = s.calls := rfl
@[simp] theorem State.give_arbiter (c : Cause) : (s.give c).arbiter = s.arbiter := rfl
@[simp] theorem State.give_account (c : Cause) : (s.give c).account = s.account := rfl
@[simp] theorem State.give_shed (c : Cause) : (s.give c).shed = s.shed := rfl
@[simp] theorem State.give_supervisor (c : Cause) : (s.give c).supervisor = s.supervisor := rfl
@[simp] theorem State.give_lines (c : Cause) : (s.give c).lines = s.lines := rfl
@[simp] theorem State.give_modes (c : Cause) : (s.give c).modes = s.modes := rfl
@[simp] theorem State.give_link (c : Cause) : (s.give c).link = s.link := rfl
@[simp] theorem State.give_store (c : Cause) : (s.give c).store = s.store := rfl
@[simp] theorem State.give_counters (c : Cause) : (s.give c).counters = s.counters := rfl
@[simp] theorem State.give_causes (c : Cause) : (s.give c).causes = s.causes ++ [c] := rfl
@[simp] theorem State.give_drawn (c : Cause) : (s.give c).drawn = s.drawn := rfl
@[simp] theorem State.give_pending (c : Cause) : (s.give c).pending = s.pending := rfl
@[simp] theorem State.give_stage (c : Cause) (st : StageId) : (s.give c).stage st = s.stage st := rfl
@[simp] theorem State.give_unit (c : Cause) (u : UnitId) : (s.give c).unit u = s.unit u := rfl
@[simp] theorem State.give_mode (c : Cause) : (s.give c).mode = s.mode := rfl
@[simp] theorem State.give_onBus (c : Cause) : (s.give c).onBus = s.onBus := rfl
@[simp] theorem State.give_setting (c : Cause) (x : Setting) : (s.give c).setting x = s.setting x := rfl
@[simp] theorem State.give_noticeRoom (c : Cause) : (s.give c).noticeRoom = s.noticeRoom := rfl
@[simp] theorem State.give_stopRoom (c : Cause) : (s.give c).stopRoom = s.stopRoom := rfl
@[simp] theorem State.give_callOf (c : Cause) (st : StageId) : (s.give c).callOf st = s.callOf st := rfl

@[simp] theorem State.onStage_supplied (st : StageId) (f : Stage → Stage) : (s.onStage st f).supplied = s.supplied := rfl
@[simp] theorem State.onStage_pins (st : StageId) (f : Stage → Stage) : (s.onStage st f).pins = s.pins := rfl
@[simp] theorem State.onStage_calls (st : StageId) (f : Stage → Stage) : (s.onStage st f).calls = s.calls := rfl
@[simp] theorem State.onStage_arbiter (st : StageId) (f : Stage → Stage) : (s.onStage st f).arbiter = s.arbiter := rfl
@[simp] theorem State.onStage_account (st : StageId) (f : Stage → Stage) : (s.onStage st f).account = s.account := rfl
@[simp] theorem State.onStage_shed (st : StageId) (f : Stage → Stage) : (s.onStage st f).shed = s.shed := rfl
@[simp] theorem State.onStage_supervisor (st : StageId) (f : Stage → Stage) : (s.onStage st f).supervisor = s.supervisor := rfl
@[simp] theorem State.onStage_lines (st : StageId) (f : Stage → Stage) : (s.onStage st f).lines = s.lines := rfl
@[simp] theorem State.onStage_modes (st : StageId) (f : Stage → Stage) : (s.onStage st f).modes = s.modes := rfl
@[simp] theorem State.onStage_link (st : StageId) (f : Stage → Stage) : (s.onStage st f).link = s.link := rfl
@[simp] theorem State.onStage_store (st : StageId) (f : Stage → Stage) : (s.onStage st f).store = s.store := rfl
@[simp] theorem State.onStage_counters (st : StageId) (f : Stage → Stage) : (s.onStage st f).counters = s.counters := rfl
@[simp] theorem State.onStage_causes (st : StageId) (f : Stage → Stage) : (s.onStage st f).causes = s.causes := rfl
@[simp] theorem State.onStage_drawn (st : StageId) (f : Stage → Stage) : (s.onStage st f).drawn = s.drawn := rfl
@[simp] theorem State.onStage_pending (st : StageId) (f : Stage → Stage) : (s.onStage st f).pending = s.pending := rfl
@[simp] theorem State.onStage_unit (st : StageId) (f : Stage → Stage) (u2 : UnitId) : (s.onStage st f).unit u2 = s.unit u2 := rfl
@[simp] theorem State.onStage_mode (st : StageId) (f : Stage → Stage) : (s.onStage st f).mode = s.mode := rfl
@[simp] theorem State.onStage_onBus (st : StageId) (f : Stage → Stage) : (s.onStage st f).onBus = s.onBus := rfl
@[simp] theorem State.onStage_setting (st : StageId) (f : Stage → Stage) (x : Setting) : (s.onStage st f).setting x = s.setting x := rfl
@[simp] theorem State.onStage_noticeRoom (st : StageId) (f : Stage → Stage) : (s.onStage st f).noticeRoom = s.noticeRoom := rfl
@[simp] theorem State.onStage_stopRoom (st : StageId) (f : Stage → Stage) : (s.onStage st f).stopRoom = s.stopRoom := rfl
@[simp] theorem State.onStage_callOf (st : StageId) (f : Stage → Stage) (st2 : StageId) : (s.onStage st f).callOf st2 = s.callOf st2 := rfl

@[simp] theorem State.onUnit_supplied (u : UnitId) (f : UnitRec → UnitRec) : (s.onUnit u f).supplied = s.supplied := rfl
@[simp] theorem State.onUnit_pins (u : UnitId) (f : UnitRec → UnitRec) : (s.onUnit u f).pins = s.pins := rfl
@[simp] theorem State.onUnit_stages (u : UnitId) (f : UnitRec → UnitRec) : (s.onUnit u f).stages = s.stages := rfl
@[simp] theorem State.onUnit_calls (u : UnitId) (f : UnitRec → UnitRec) : (s.onUnit u f).calls = s.calls := rfl
@[simp] theorem State.onUnit_arbiter (u : UnitId) (f : UnitRec → UnitRec) : (s.onUnit u f).arbiter = s.arbiter := rfl
@[simp] theorem State.onUnit_account (u : UnitId) (f : UnitRec → UnitRec) : (s.onUnit u f).account = s.account := rfl
@[simp] theorem State.onUnit_shed (u : UnitId) (f : UnitRec → UnitRec) : (s.onUnit u f).shed = s.shed := rfl
@[simp] theorem State.onUnit_lines (u : UnitId) (f : UnitRec → UnitRec) : (s.onUnit u f).lines = s.lines := rfl
@[simp] theorem State.onUnit_modes (u : UnitId) (f : UnitRec → UnitRec) : (s.onUnit u f).modes = s.modes := rfl
@[simp] theorem State.onUnit_link (u : UnitId) (f : UnitRec → UnitRec) : (s.onUnit u f).link = s.link := rfl
@[simp] theorem State.onUnit_store (u : UnitId) (f : UnitRec → UnitRec) : (s.onUnit u f).store = s.store := rfl
@[simp] theorem State.onUnit_counters (u : UnitId) (f : UnitRec → UnitRec) : (s.onUnit u f).counters = s.counters := rfl
@[simp] theorem State.onUnit_causes (u : UnitId) (f : UnitRec → UnitRec) : (s.onUnit u f).causes = s.causes := rfl
@[simp] theorem State.onUnit_drawn (u : UnitId) (f : UnitRec → UnitRec) : (s.onUnit u f).drawn = s.drawn := rfl
@[simp] theorem State.onUnit_pending (u : UnitId) (f : UnitRec → UnitRec) : (s.onUnit u f).pending = s.pending := rfl
@[simp] theorem State.onUnit_stage (u : UnitId) (f : UnitRec → UnitRec) (st2 : StageId) : (s.onUnit u f).stage st2 = s.stage st2 := rfl
@[simp] theorem State.onUnit_mode (u : UnitId) (f : UnitRec → UnitRec) : (s.onUnit u f).mode = s.mode := rfl
@[simp] theorem State.onUnit_onBus (u : UnitId) (f : UnitRec → UnitRec) : (s.onUnit u f).onBus = s.onBus := rfl
@[simp] theorem State.onUnit_setting (u : UnitId) (f : UnitRec → UnitRec) (x : Setting) : (s.onUnit u f).setting x = s.setting x := rfl
@[simp] theorem State.onUnit_noticeRoom (u : UnitId) (f : UnitRec → UnitRec) : (s.onUnit u f).noticeRoom = s.noticeRoom := rfl
@[simp] theorem State.onUnit_stopRoom (u : UnitId) (f : UnitRec → UnitRec) : (s.onUnit u f).stopRoom = s.stopRoom := rfl
@[simp] theorem State.onUnit_callOf (u : UnitId) (f : UnitRec → UnitRec) (st2 : StageId) : (s.onUnit u f).callOf st2 = s.callOf st2 := rfl

/-- A raised counter goes up by one, up to 65535. -/
theorem State.bump_counter_self (c : Counter) : (s.bump c).counter c = min max16 (s.counter c + 1) := by
  simp [State.bump, State.counter, satAdd]

/-- Two counters with one index are one counter. -/
theorem Counter.index_inj {c d : Counter} (h : c.index = d.index) : c = d := by
  have e : c.ctorIdx = d.ctorIdx := congrArg Fin.val h
  rw [← Counter.ofNat_ctorIdx c, ← Counter.ofNat_ctorIdx d, e]

/-- Two settings with one place in the store are one setting. -/
theorem Setting.index_inj {x y : Setting} (h : x.index = y.index) : x = y := by
  have e : x.ctorIdx = y.ctorIdx := congrArg Fin.val h
  rw [← Setting.ofNat_ctorIdx x, ← Setting.ofNat_ctorIdx y, e]

/-- Raising one counter leaves every other as it was. -/
theorem State.bump_counter_other (c d : Counter) (h : c ≠ d) : (s.bump c).counter d = s.counter d := by
  have : c.index ≠ d.index := fun e => h (Counter.index_inj e)
  simp only [State.bump, State.counter, Fin.getElem_fin]
  rw [Vector.getElem_set_ne]
  simpa [Fin.ext_iff] using this

/-! ### One millisecond of the clock -/

@[simp] theorem State.advance_supplied : s.advance.supplied = s.supplied := rfl
@[simp] theorem State.advance_pins : s.advance.pins = s.pins := rfl
@[simp] theorem State.advance_calls : s.advance.calls = s.calls := rfl
@[simp] theorem State.advance_counters : s.advance.counters = s.counters := rfl
@[simp] theorem State.advance_causes : s.advance.causes = s.causes := rfl
@[simp] theorem State.advance_drawn : s.advance.drawn = s.drawn := rfl
@[simp] theorem State.advance_pending : s.advance.pending = s.pending := rfl
@[simp] theorem State.advance_arbiter : s.advance.arbiter = s.arbiter.tick := rfl
@[simp] theorem State.advance_account : s.advance.account = s.account.tick := rfl
@[simp] theorem State.advance_shed : s.advance.shed = s.shed.tick := rfl
@[simp] theorem State.advance_lines : s.advance.lines = s.lines.tick := rfl
@[simp] theorem State.advance_link : s.advance.link = s.link.tick := rfl
@[simp] theorem State.advance_flight : s.advance.store.flight = s.store.flight.map Flight.tick := rfl
@[simp] theorem State.advance_mode : s.advance.mode = s.mode := rfl
@[simp] theorem State.advance_onBus : s.advance.onBus = s.onBus := rfl
@[simp] theorem State.advance_setting (x : Setting) : s.advance.setting x = s.setting x := rfl
@[simp] theorem State.advance_callOf (st : StageId) : s.advance.callOf st = s.callOf st := rfl
@[simp] theorem State.advance_stopRoom : s.advance.stopRoom = s.stopRoom := rfl
@[simp] theorem State.advance_noticeRoom : s.advance.noticeRoom = s.noticeRoom := rfl

/-- A stage's record after a millisecond. -/
@[simp] theorem State.advance_stage (st : StageId) : s.advance.stage st = (s.stage st).tick := by
  simp [State.advance, State.stage, StageTable.get, mapTable]

/-- A unit's record after a millisecond. -/
@[simp] theorem State.advance_unit (u : UnitId) : s.advance.unit u = (s.unit u).tick := by
  simp [State.advance, State.unit, mapTable]

end Sys2Proof.Machine
end

