-- ==== Sys2Proof/Laws/Frames.lean ====
section
/-! SUPPORT. Laws/Frames.lean: which blocks each shared operation leaves as they were: one lemma for each operation, for simp. A
block that an operation's lemma does not name is one the operation may change. -/

namespace Sys2Proof.Machine

/-- A fold keeps what each of its steps keeps. -/
theorem foldl_keeps {α β γ : Type} (get : α → γ) (f : α → β → α) (keeps : ∀ a b, get (f a b) = get a) (l : List β) (a : α) :
    get (l.foldl f a) = get a := by
  induction l generalizing a with
  | nil => rfl
  | cons b rest ih => rw [List.foldl_cons, ih, keeps]

@[simp] theorem State.formCongestion_frame (s : State) :
    s.formCongestion.supplied = s.supplied ∧ s.formCongestion.pins = s.pins ∧
      s.formCongestion.stages = s.stages ∧ s.formCongestion.arbiter = s.arbiter ∧
      s.formCongestion.account = s.account ∧ s.formCongestion.shed = s.shed ∧
      s.formCongestion.supervisor = s.supervisor ∧ s.formCongestion.lines = s.lines ∧
      s.formCongestion.modes = s.modes ∧ s.formCongestion.link = s.link ∧ s.formCongestion.store = s.store ∧
      s.formCongestion.causes = s.causes ∧ s.formCongestion.drawn = s.drawn ∧
      s.formCongestion.pending = s.pending := by
  simp only [State.formCongestion]
  split <;> simp

@[simp] theorem State.setEntries_frame (entries : List CallEntry) (s : State) :
    (s.setEntries entries).supplied = s.supplied ∧ (s.setEntries entries).pins = s.pins ∧
      (s.setEntries entries).stages = s.stages ∧ (s.setEntries entries).arbiter = s.arbiter ∧
      (s.setEntries entries).account = s.account ∧ (s.setEntries entries).shed = s.shed ∧
      (s.setEntries entries).supervisor = s.supervisor ∧ (s.setEntries entries).lines = s.lines ∧
      (s.setEntries entries).modes = s.modes ∧ (s.setEntries entries).link = s.link ∧
      (s.setEntries entries).store = s.store ∧ (s.setEntries entries).causes = s.causes ∧
      (s.setEntries entries).drawn = s.drawn ∧ (s.setEntries entries).pending = s.pending := by
  simp [State.setEntries]

@[simp] theorem State.formAttention_frame (s : State) :
    s.formAttention.supplied = s.supplied ∧ s.formAttention.pins = s.pins ∧ s.formAttention.stages = s.stages ∧
      s.formAttention.calls = s.calls ∧ s.formAttention.arbiter = s.arbiter ∧
      s.formAttention.account = s.account ∧ s.formAttention.shed = s.shed ∧ s.formAttention.lines = s.lines ∧
      s.formAttention.modes = s.modes ∧ s.formAttention.link = s.link ∧ s.formAttention.store = s.store ∧
      s.formAttention.counters = s.counters ∧ s.formAttention.causes = s.causes ∧
      s.formAttention.drawn = s.drawn ∧ s.formAttention.pending = s.pending := by
  and_intros <;> rfl

@[simp] theorem State.formFallback_frame (s : State) :
    s.formFallback.supplied = s.supplied ∧ s.formFallback.pins = s.pins ∧ s.formFallback.stages = s.stages ∧
      s.formFallback.calls = s.calls ∧ s.formFallback.arbiter = s.arbiter ∧ s.formFallback.account = s.account ∧
      s.formFallback.shed = s.shed ∧ s.formFallback.supervisor = s.supervisor ∧ s.formFallback.lines = s.lines ∧
      s.formFallback.link = s.link ∧ s.formFallback.store = s.store ∧ s.formFallback.counters = s.counters ∧
      s.formFallback.causes = s.causes ∧ s.formFallback.drawn = s.drawn ∧ s.formFallback.pending = s.pending := by
  and_intros <;> rfl

@[simp] theorem State.formLambda_frame (s : State) :
    s.formLambda.supplied = s.supplied ∧ s.formLambda.pins = s.pins ∧ s.formLambda.stages = s.stages ∧
      s.formLambda.calls = s.calls ∧ s.formLambda.arbiter = s.arbiter ∧ s.formLambda.account = s.account ∧
      s.formLambda.supervisor = s.supervisor ∧ s.formLambda.lines = s.lines ∧ s.formLambda.modes = s.modes ∧
      s.formLambda.link = s.link ∧ s.formLambda.store = s.store ∧ s.formLambda.causes = s.causes ∧
      s.formLambda.drawn = s.drawn ∧ s.formLambda.pending = s.pending := by
  simp only [State.formLambda]
  split <;> simp

@[simp] theorem State.recomputeAllowance_frame (s : State) :
    s.recomputeAllowance.supplied = s.supplied ∧ s.recomputeAllowance.pins = s.pins ∧
      s.recomputeAllowance.stages = s.stages ∧ s.recomputeAllowance.calls = s.calls ∧
      s.recomputeAllowance.arbiter = s.arbiter ∧ s.recomputeAllowance.shed = s.shed ∧
      s.recomputeAllowance.supervisor = s.supervisor ∧ s.recomputeAllowance.lines = s.lines ∧
      s.recomputeAllowance.modes = s.modes ∧ s.recomputeAllowance.link = s.link ∧
      s.recomputeAllowance.store = s.store ∧ s.recomputeAllowance.counters = s.counters ∧
      s.recomputeAllowance.causes = s.causes ∧ s.recomputeAllowance.drawn = s.drawn ∧
      s.recomputeAllowance.pending = s.pending := by
  and_intros <;> rfl

@[simp] theorem State.enqueue_frame (n : Notice) (s : State) :
    (s.enqueue n).supplied = s.supplied ∧ (s.enqueue n).pins = s.pins ∧ (s.enqueue n).stages = s.stages ∧
      (s.enqueue n).calls = s.calls ∧ (s.enqueue n).arbiter = s.arbiter ∧ (s.enqueue n).account = s.account ∧
      (s.enqueue n).shed = s.shed ∧ (s.enqueue n).supervisor = s.supervisor ∧ (s.enqueue n).lines = s.lines ∧
      (s.enqueue n).modes = s.modes ∧ (s.enqueue n).store = s.store ∧ (s.enqueue n).counters = s.counters ∧
      (s.enqueue n).causes = s.causes ∧ (s.enqueue n).drawn = s.drawn ∧ (s.enqueue n).pending = s.pending := by
  and_intros <;> rfl

@[simp] theorem State.place_frame (n : Notice) (s : State) :
    (s.place n).supplied = s.supplied ∧ (s.place n).pins = s.pins ∧ (s.place n).stages = s.stages ∧
      (s.place n).calls = s.calls ∧ (s.place n).arbiter = s.arbiter ∧ (s.place n).account = s.account ∧
      (s.place n).shed = s.shed ∧ (s.place n).supervisor = s.supervisor ∧ (s.place n).lines = s.lines ∧
      (s.place n).modes = s.modes ∧ (s.place n).store = s.store ∧ (s.place n).causes = s.causes ∧
      (s.place n).drawn = s.drawn ∧ (s.place n).pending = s.pending := by
  simp only [State.place]
  split <;> simp

@[simp] theorem State.sendDefer_frame (st : StageId) (reason : DeferReason) (s : State) :
    (s.sendDefer st reason).supplied = s.supplied ∧ (s.sendDefer st reason).pins = s.pins ∧
      (s.sendDefer st reason).stages = s.stages ∧ (s.sendDefer st reason).calls = s.calls ∧
      (s.sendDefer st reason).arbiter = s.arbiter ∧ (s.sendDefer st reason).account = s.account ∧
      (s.sendDefer st reason).shed = s.shed ∧ (s.sendDefer st reason).supervisor = s.supervisor ∧
      (s.sendDefer st reason).lines = s.lines ∧ (s.sendDefer st reason).modes = s.modes ∧
      (s.sendDefer st reason).store = s.store ∧ (s.sendDefer st reason).causes = s.causes ∧
      (s.sendDefer st reason).drawn = s.drawn ∧ (s.sendDefer st reason).pending = s.pending := by
  simp [State.sendDefer]

@[simp] theorem State.answer_frame (kind : Nat) (status : Status) (data : List Byte) (s : State) :
    (s.answer kind status data).supplied = s.supplied ∧ (s.answer kind status data).pins = s.pins ∧
      (s.answer kind status data).stages = s.stages ∧ (s.answer kind status data).calls = s.calls ∧
      (s.answer kind status data).arbiter = s.arbiter ∧ (s.answer kind status data).account = s.account ∧
      (s.answer kind status data).shed = s.shed ∧ (s.answer kind status data).supervisor = s.supervisor ∧
      (s.answer kind status data).lines = s.lines ∧ (s.answer kind status data).modes = s.modes ∧
      (s.answer kind status data).store = s.store ∧ (s.answer kind status data).causes = s.causes ∧
      (s.answer kind status data).drawn = s.drawn ∧ (s.answer kind status data).pending = s.pending := by
  simp [State.answer]

@[simp] theorem State.placeStop_frame (f : StopFrame) (s : State) :
    (s.placeStop f).supplied = s.supplied ∧ (s.placeStop f).pins = s.pins ∧ (s.placeStop f).stages = s.stages ∧
      (s.placeStop f).calls = s.calls ∧ (s.placeStop f).arbiter = s.arbiter ∧ (s.placeStop f).account = s.account ∧
      (s.placeStop f).shed = s.shed ∧ (s.placeStop f).supervisor = s.supervisor ∧ (s.placeStop f).lines = s.lines ∧
      (s.placeStop f).modes = s.modes ∧ (s.placeStop f).store = s.store ∧ (s.placeStop f).counters = s.counters ∧
      (s.placeStop f).causes = s.causes ∧ (s.placeStop f).drawn = s.drawn ∧ (s.placeStop f).pending = s.pending := by
  simp only [State.placeStop]
  split <;> simp

@[simp] theorem State.clearMarkerOf_frame (st : StageId) (s : State) :
    (s.clearMarkerOf st).supplied = s.supplied ∧ (s.clearMarkerOf st).pins = s.pins ∧
      (s.clearMarkerOf st).stages = s.stages ∧ (s.clearMarkerOf st).calls = s.calls ∧
      (s.clearMarkerOf st).account = s.account ∧ (s.clearMarkerOf st).shed = s.shed ∧
      (s.clearMarkerOf st).supervisor = s.supervisor ∧ (s.clearMarkerOf st).lines = s.lines ∧
      (s.clearMarkerOf st).modes = s.modes ∧ (s.clearMarkerOf st).link = s.link ∧
      (s.clearMarkerOf st).store = s.store ∧ (s.clearMarkerOf st).counters = s.counters ∧
      (s.clearMarkerOf st).causes = s.causes ∧ (s.clearMarkerOf st).drawn = s.drawn ∧
      (s.clearMarkerOf st).pending = s.pending := by
  and_intros <;> rfl

@[simp] theorem State.enterCall_frame (st : StageId) (cls : Nat) (replay : Bool) (s : State) :
    (s.enterCall st cls replay).supplied = s.supplied ∧ (s.enterCall st cls replay).pins = s.pins ∧
      (s.enterCall st cls replay).stages = s.stages ∧ (s.enterCall st cls replay).arbiter = s.arbiter ∧
      (s.enterCall st cls replay).account = s.account ∧ (s.enterCall st cls replay).shed = s.shed ∧
      (s.enterCall st cls replay).supervisor = s.supervisor ∧ (s.enterCall st cls replay).lines = s.lines ∧
      (s.enterCall st cls replay).modes = s.modes ∧ (s.enterCall st cls replay).link = s.link ∧
      (s.enterCall st cls replay).store = s.store ∧ (s.enterCall st cls replay).causes = s.causes ∧
      (s.enterCall st cls replay).drawn = s.drawn ∧ (s.enterCall st cls replay).pending = s.pending := by
  simp only [State.enterCall]
  split <;> simp

@[simp] theorem State.removeCall_frame (st : StageId) (s : State) :
    (s.removeCall st).supplied = s.supplied ∧ (s.removeCall st).pins = s.pins ∧ (s.removeCall st).stages = s.stages ∧
      (s.removeCall st).account = s.account ∧ (s.removeCall st).shed = s.shed ∧
      (s.removeCall st).supervisor = s.supervisor ∧ (s.removeCall st).lines = s.lines ∧
      (s.removeCall st).modes = s.modes ∧ (s.removeCall st).link = s.link ∧ (s.removeCall st).store = s.store ∧
      (s.removeCall st).causes = s.causes ∧ (s.removeCall st).drawn = s.drawn ∧ (s.removeCall st).pending = s.pending := by
  simp [State.removeCall]

@[simp] theorem State.setMode_frame (m : Mode) (s : State) :
    (s.setMode m).supplied = s.supplied ∧ (s.setMode m).pins = s.pins ∧ (s.setMode m).stages = s.stages ∧
      (s.setMode m).calls = s.calls ∧ (s.setMode m).arbiter = s.arbiter ∧ (s.setMode m).account = s.account ∧
      (s.setMode m).shed = s.shed ∧ (s.setMode m).supervisor = s.supervisor ∧ (s.setMode m).lines = s.lines ∧
      (s.setMode m).link = s.link ∧ (s.setMode m).store = s.store ∧ (s.setMode m).counters = s.counters ∧
      (s.setMode m).drawn = s.drawn ∧ (s.setMode m).pending = s.pending := by
  simp only [State.setMode]
  split <;> simp

@[simp] theorem State.markRemoved_frame (st : StageId) (granted : Bool) (s : State) :
    (s.markRemoved st granted).supplied = s.supplied ∧ (s.markRemoved st granted).pins = s.pins ∧
      (s.markRemoved st granted).stages = s.stages ∧ (s.markRemoved st granted).calls = s.calls ∧
      (s.markRemoved st granted).arbiter = s.arbiter ∧ (s.markRemoved st granted).account = s.account ∧
      (s.markRemoved st granted).shed = s.shed ∧ (s.markRemoved st granted).supervisor = s.supervisor ∧
      (s.markRemoved st granted).lines = s.lines ∧ (s.markRemoved st granted).link = s.link ∧
      (s.markRemoved st granted).store = s.store ∧ (s.markRemoved st granted).causes = s.causes ∧
      (s.markRemoved st granted).drawn = s.drawn ∧ (s.markRemoved st granted).pending = s.pending := by
  simp only [State.markRemoved]
  split <;> simp

@[simp] theorem State.enterReplay_frame (st : StageId) (s : State) :
    (s.enterReplay st).supplied = s.supplied ∧ (s.enterReplay st).pins = s.pins ∧
      (s.enterReplay st).arbiter = s.arbiter ∧ (s.enterReplay st).account = s.account ∧
      (s.enterReplay st).shed = s.shed ∧ (s.enterReplay st).supervisor = s.supervisor ∧
      (s.enterReplay st).lines = s.lines ∧ (s.enterReplay st).modes = s.modes ∧ (s.enterReplay st).link = s.link ∧
      (s.enterReplay st).store = s.store ∧ (s.enterReplay st).drawn = s.drawn ∧ (s.enterReplay st).pending = s.pending := by
  simp [State.enterReplay]

@[simp] theorem feedEntries_frame (position : Nat) (roster : List RosterEntry) (s : State) :
    (feedEntries position roster s).2.supplied = s.supplied ∧ (feedEntries position roster s).2.pins = s.pins ∧
      (feedEntries position roster s).2.arbiter = s.arbiter ∧ (feedEntries position roster s).2.account = s.account ∧
      (feedEntries position roster s).2.shed = s.shed ∧ (feedEntries position roster s).2.supervisor = s.supervisor ∧
      (feedEntries position roster s).2.lines = s.lines ∧ (feedEntries position roster s).2.link = s.link ∧
      (feedEntries position roster s).2.store = s.store ∧ (feedEntries position roster s).2.drawn = s.drawn ∧
      (feedEntries position roster s).2.pending = s.pending := by
  induction roster generalizing position s with
  | nil => simp [feedEntries]
  | cons e rest ih =>
    simp only [feedEntries]
    repeat' split
    all_goals simp [ih]

@[simp] theorem State.emptyRoster_frame (s : State) :
    s.emptyRoster.supplied = s.supplied ∧ s.emptyRoster.pins = s.pins ∧ s.emptyRoster.stages = s.stages ∧
      s.emptyRoster.calls = s.calls ∧ s.emptyRoster.arbiter = s.arbiter ∧ s.emptyRoster.account = s.account ∧
      s.emptyRoster.shed = s.shed ∧ s.emptyRoster.supervisor = s.supervisor ∧ s.emptyRoster.lines = s.lines ∧
      s.emptyRoster.link = s.link ∧ s.emptyRoster.store = s.store ∧ s.emptyRoster.counters = s.counters ∧
      s.emptyRoster.causes = s.causes ∧ s.emptyRoster.drawn = s.drawn ∧ s.emptyRoster.pending = s.pending := by
  and_intros <;> rfl

@[simp] theorem State.advanceRead_frame (s : State) :
    s.advanceRead.supplied = s.supplied ∧ s.advanceRead.pins = s.pins ∧ s.advanceRead.stages = s.stages ∧
      s.advanceRead.calls = s.calls ∧ s.advanceRead.arbiter = s.arbiter ∧ s.advanceRead.account = s.account ∧
      s.advanceRead.shed = s.shed ∧ s.advanceRead.supervisor = s.supervisor ∧ s.advanceRead.lines = s.lines ∧
      s.advanceRead.link = s.link ∧ s.advanceRead.store = s.store ∧ s.advanceRead.counters = s.counters ∧
      s.advanceRead.drawn = s.drawn ∧ s.advanceRead.pending = s.pending := by
  simp only [State.advanceRead]
  split <;> simp

@[simp] theorem State.feed_frame (s : State) :
    s.feed.supplied = s.supplied ∧ s.feed.pins = s.pins ∧ s.feed.arbiter = s.arbiter ∧
      s.feed.account = s.account ∧ s.feed.shed = s.shed ∧ s.feed.supervisor = s.supervisor ∧
      s.feed.lines = s.lines ∧ s.feed.link = s.link ∧ s.feed.store = s.store ∧ s.feed.drawn = s.drawn ∧
      s.feed.pending = s.pending := by
  simp only [State.feed]
  split <;> simp

@[simp] theorem State.replayDeclined_frame (st : StageId) (s : State) :
    (s.replayDeclined st).supplied = s.supplied ∧ (s.replayDeclined st).pins = s.pins ∧
      (s.replayDeclined st).arbiter = s.arbiter ∧ (s.replayDeclined st).account = s.account ∧
      (s.replayDeclined st).shed = s.shed ∧ (s.replayDeclined st).supervisor = s.supervisor ∧
      (s.replayDeclined st).lines = s.lines ∧ (s.replayDeclined st).link = s.link ∧
      (s.replayDeclined st).store = s.store ∧ (s.replayDeclined st).drawn = s.drawn ∧
      (s.replayDeclined st).pending = s.pending := by
  simp only [State.replayDeclined]
  split <;> simp

@[simp] theorem State.dropCall_frame (st : StageId) (s : State) :
    (s.dropCall st).supplied = s.supplied ∧ (s.dropCall st).pins = s.pins ∧ (s.dropCall st).account = s.account ∧
      (s.dropCall st).shed = s.shed ∧ (s.dropCall st).supervisor = s.supervisor ∧ (s.dropCall st).lines = s.lines ∧
      (s.dropCall st).link = s.link ∧ (s.dropCall st).store = s.store ∧ (s.dropCall st).drawn = s.drawn ∧
      (s.dropCall st).pending = s.pending := by
  simp only [State.dropCall]
  split
  · simp
  · split <;> simp

@[simp] theorem State.restLoaded_frame (n : Nat) (s : State) :
    (s.restLoaded n).supplied = s.supplied ∧ (s.restLoaded n).pins = s.pins ∧ (s.restLoaded n).stages = s.stages ∧
      (s.restLoaded n).calls = s.calls ∧ (s.restLoaded n).arbiter = s.arbiter ∧ (s.restLoaded n).account = s.account ∧
      (s.restLoaded n).shed = s.shed ∧ (s.restLoaded n).supervisor = s.supervisor ∧ (s.restLoaded n).lines = s.lines ∧
      (s.restLoaded n).modes = s.modes ∧ (s.restLoaded n).link = s.link ∧ (s.restLoaded n).store = s.store ∧
      (s.restLoaded n).counters = s.counters ∧ (s.restLoaded n).drawn = s.drawn ∧ (s.restLoaded n).pending = s.pending := by
  simp only [State.restLoaded]
  split <;> simp

@[simp] theorem State.runLoaded_frame (n : Nat) (s : State) :
    (s.runLoaded n).supplied = s.supplied ∧ (s.runLoaded n).pins = s.pins ∧ (s.runLoaded n).stages = s.stages ∧
      (s.runLoaded n).calls = s.calls ∧ (s.runLoaded n).arbiter = s.arbiter ∧ (s.runLoaded n).account = s.account ∧
      (s.runLoaded n).shed = s.shed ∧ (s.runLoaded n).supervisor = s.supervisor ∧ (s.runLoaded n).lines = s.lines ∧
      (s.runLoaded n).modes = s.modes ∧ (s.runLoaded n).link = s.link ∧ (s.runLoaded n).store = s.store ∧
      (s.runLoaded n).counters = s.counters ∧ (s.runLoaded n).drawn = s.drawn ∧ (s.runLoaded n).pending = s.pending := by
  simp only [State.runLoaded]
  split <;> simp

@[simp] theorem State.withdrawPermit_frame (st : StageId) (s : State) :
    (s.withdrawPermit st).supplied = s.supplied ∧ (s.withdrawPermit st).pins = s.pins ∧
      (s.withdrawPermit st).arbiter = s.arbiter ∧ (s.withdrawPermit st).account = s.account ∧
      (s.withdrawPermit st).shed = s.shed ∧ (s.withdrawPermit st).supervisor = s.supervisor ∧
      (s.withdrawPermit st).lines = s.lines ∧ (s.withdrawPermit st).link = s.link ∧
      (s.withdrawPermit st).store = s.store ∧ (s.withdrawPermit st).drawn = s.drawn ∧
      (s.withdrawPermit st).pending = s.pending := by
  simp only [State.withdrawPermit]
  split <;> simp

@[simp] theorem State.decline_frame (st : StageId) (s : State) :
    (s.decline st).supplied = s.supplied ∧ (s.decline st).pins = s.pins ∧ (s.decline st).arbiter = s.arbiter ∧
      (s.decline st).account = s.account ∧ (s.decline st).shed = s.shed ∧ (s.decline st).supervisor = s.supervisor ∧
      (s.decline st).lines = s.lines ∧ (s.decline st).link = s.link ∧ (s.decline st).store = s.store ∧
      (s.decline st).drawn = s.drawn ∧ (s.decline st).pending = s.pending := by
  simp [State.decline]

@[simp] theorem State.grantStage_frame (st : StageId) (token : Nat) (replay : Bool) (s : State) :
    (s.grantStage st token replay).supplied = s.supplied ∧ (s.grantStage st token replay).pins = s.pins ∧
      (s.grantStage st token replay).calls = s.calls ∧ (s.grantStage st token replay).arbiter = s.arbiter ∧
      (s.grantStage st token replay).account = s.account ∧ (s.grantStage st token replay).shed = s.shed ∧
      (s.grantStage st token replay).supervisor = s.supervisor ∧ (s.grantStage st token replay).lines = s.lines ∧
      (s.grantStage st token replay).modes = s.modes ∧ (s.grantStage st token replay).link = s.link ∧
      (s.grantStage st token replay).store = s.store ∧ (s.grantStage st token replay).counters = s.counters ∧
      (s.grantStage st token replay).causes = s.causes ∧ (s.grantStage st token replay).drawn = s.drawn ∧
      (s.grantStage st token replay).pending = s.pending := by
  and_intros <;> rfl

@[simp] theorem State.confirmStage_frame (st : StageId) (s : State) :
    (s.confirmStage st).supplied = s.supplied ∧ (s.confirmStage st).pins = s.pins ∧
      (s.confirmStage st).calls = s.calls ∧ (s.confirmStage st).arbiter = s.arbiter ∧
      (s.confirmStage st).account = s.account ∧ (s.confirmStage st).shed = s.shed ∧
      (s.confirmStage st).supervisor = s.supervisor ∧ (s.confirmStage st).lines = s.lines ∧
      (s.confirmStage st).modes = s.modes ∧ (s.confirmStage st).link = s.link ∧ (s.confirmStage st).store = s.store ∧
      (s.confirmStage st).counters = s.counters ∧ (s.confirmStage st).drawn = s.drawn ∧
      (s.confirmStage st).pending = s.pending := by
  simp [State.confirmStage]

@[simp] theorem State.adoptStage_frame (st : StageId) (token : Option Nat) (s : State) :
    (s.adoptStage st token).supplied = s.supplied ∧ (s.adoptStage st token).pins = s.pins ∧
      (s.adoptStage st token).account = s.account ∧ (s.adoptStage st token).shed = s.shed ∧
      (s.adoptStage st token).supervisor = s.supervisor ∧ (s.adoptStage st token).lines = s.lines ∧
      (s.adoptStage st token).link = s.link ∧ (s.adoptStage st token).store = s.store ∧
      (s.adoptStage st token).drawn = s.drawn ∧ (s.adoptStage st token).pending = s.pending := by
  simp [State.adoptStage]

@[simp] theorem State.releaseStage_frame (st : StageId) (s : State) :
    (s.releaseStage st).supplied = s.supplied ∧ (s.releaseStage st).pins = s.pins ∧
      (s.releaseStage st).calls = s.calls ∧ (s.releaseStage st).arbiter = s.arbiter ∧
      (s.releaseStage st).account = s.account ∧ (s.releaseStage st).shed = s.shed ∧
      (s.releaseStage st).supervisor = s.supervisor ∧ (s.releaseStage st).lines = s.lines ∧
      (s.releaseStage st).modes = s.modes ∧ (s.releaseStage st).link = s.link ∧ (s.releaseStage st).store = s.store ∧
      (s.releaseStage st).counters = s.counters ∧ (s.releaseStage st).drawn = s.drawn ∧
      (s.releaseStage st).pending = s.pending := by
  simp [State.releaseStage]

@[simp] theorem State.resumeStage_frame (st : StageId) (s : State) :
    (s.resumeStage st).supplied = s.supplied ∧ (s.resumeStage st).pins = s.pins ∧ (s.resumeStage st).calls = s.calls ∧
      (s.resumeStage st).arbiter = s.arbiter ∧ (s.resumeStage st).account = s.account ∧
      (s.resumeStage st).shed = s.shed ∧ (s.resumeStage st).supervisor = s.supervisor ∧
      (s.resumeStage st).lines = s.lines ∧ (s.resumeStage st).modes = s.modes ∧ (s.resumeStage st).link = s.link ∧
      (s.resumeStage st).store = s.store ∧ (s.resumeStage st).counters = s.counters ∧
      (s.resumeStage st).drawn = s.drawn ∧ (s.resumeStage st).pending = s.pending := by
  and_intros <;> rfl

@[simp] theorem State.holdStage_frame (st : StageId) (s : State) :
    (s.holdStage st).supplied = s.supplied ∧ (s.holdStage st).pins = s.pins ∧ (s.holdStage st).account = s.account ∧
      (s.holdStage st).shed = s.shed ∧ (s.holdStage st).supervisor = s.supervisor ∧ (s.holdStage st).lines = s.lines ∧
      (s.holdStage st).link = s.link ∧ (s.holdStage st).store = s.store ∧ (s.holdStage st).drawn = s.drawn ∧
      (s.holdStage st).pending = s.pending := by
  simp only [State.holdStage]
  split <;> simp

@[simp] theorem State.tripStage_frame (cause : Nat) (st : StageId) (s : State) :
    (s.tripStage cause st).supplied = s.supplied ∧ (s.tripStage cause st).pins = s.pins ∧
      (s.tripStage cause st).account = s.account ∧ (s.tripStage cause st).shed = s.shed ∧
      (s.tripStage cause st).supervisor = s.supervisor ∧ (s.tripStage cause st).lines = s.lines ∧
      (s.tripStage cause st).link = s.link ∧ (s.tripStage cause st).store = s.store ∧
      (s.tripStage cause st).drawn = s.drawn ∧ (s.tripStage cause st).pending = s.pending := by
  simp only [State.tripStage]
  split <;> simp

@[simp] theorem State.clearStage_frame (st : StageId) (s : State) :
    (s.clearStage st).supplied = s.supplied ∧ (s.clearStage st).pins = s.pins ∧ (s.clearStage st).calls = s.calls ∧
      (s.clearStage st).arbiter = s.arbiter ∧ (s.clearStage st).account = s.account ∧
      (s.clearStage st).shed = s.shed ∧ (s.clearStage st).supervisor = s.supervisor ∧
      (s.clearStage st).lines = s.lines ∧ (s.clearStage st).modes = s.modes ∧ (s.clearStage st).link = s.link ∧
      (s.clearStage st).store = s.store ∧ (s.clearStage st).counters = s.counters ∧
      (s.clearStage st).causes = s.causes ∧ (s.clearStage st).drawn = s.drawn ∧ (s.clearStage st).pending = s.pending := by
  simp only [State.clearStage]
  split <;> simp

@[simp] theorem State.mainsOffReset_frame (s : State) :
    s.mainsOffReset.supplied = s.supplied ∧ s.mainsOffReset.pins = s.pins ∧ s.mainsOffReset.calls = s.calls ∧
      s.mainsOffReset.arbiter = s.arbiter ∧ s.mainsOffReset.account = s.account ∧
      s.mainsOffReset.shed = s.shed ∧ s.mainsOffReset.supervisor = s.supervisor ∧
      s.mainsOffReset.lines = s.lines ∧ s.mainsOffReset.modes = s.modes ∧ s.mainsOffReset.link = s.link ∧
      s.mainsOffReset.store = s.store ∧ s.mainsOffReset.counters = s.counters ∧
      s.mainsOffReset.causes = s.causes ∧ s.mainsOffReset.drawn = s.drawn ∧ s.mainsOffReset.pending = s.pending := by
  and_intros <;> rfl

@[simp] theorem State.profileChange_frame (st : StageId) (s : State) :
    (s.profileChange st).supplied = s.supplied ∧ (s.profileChange st).pins = s.pins ∧
      (s.profileChange st).account = s.account ∧ (s.profileChange st).shed = s.shed ∧
      (s.profileChange st).supervisor = s.supervisor ∧ (s.profileChange st).lines = s.lines ∧
      (s.profileChange st).store = s.store ∧ (s.profileChange st).drawn = s.drawn ∧
      (s.profileChange st).pending = s.pending := by
  simp only [State.profileChange]
  repeat' split
  all_goals simp

@[simp] theorem State.declareAbsent_frame (u : UnitId) (s : State) :
    (s.declareAbsent u).supplied = s.supplied ∧ (s.declareAbsent u).pins = s.pins ∧
      (s.declareAbsent u).account = s.account ∧ (s.declareAbsent u).shed = s.shed ∧
      (s.declareAbsent u).lines = s.lines ∧ (s.declareAbsent u).link = s.link ∧ (s.declareAbsent u).store = s.store ∧
      (s.declareAbsent u).drawn = s.drawn ∧ (s.declareAbsent u).pending = s.pending := by
  simp only [State.declareAbsent]
  refine ⟨(foldl_keeps State.supplied _ (by simp) _ _).trans (by simp),
    (foldl_keeps State.pins _ (by simp) _ _).trans (by simp),
    (foldl_keeps State.account _ (by simp) _ _).trans (by simp),
    (foldl_keeps State.shed _ (by simp) _ _).trans (by simp),
    (foldl_keeps State.lines _ (by simp) _ _).trans (by simp),
    (foldl_keeps State.link _ (by simp) _ _).trans (by simp),
    (foldl_keeps State.store _ (by simp) _ _).trans (by simp),
    (foldl_keeps State.drawn _ (by simp) _ _).trans (by simp),
    (foldl_keeps State.pending _ (by simp) _ _).trans (by simp)⟩

@[simp] theorem State.unitError_frame (u : UnitId) (s : State) :
    (s.unitError u).supplied = s.supplied ∧ (s.unitError u).pins = s.pins ∧ (s.unitError u).account = s.account ∧
      (s.unitError u).shed = s.shed ∧ (s.unitError u).lines = s.lines ∧ (s.unitError u).link = s.link ∧
      (s.unitError u).store = s.store ∧ (s.unitError u).drawn = s.drawn ∧ (s.unitError u).pending = s.pending := by
  simp only [State.unitError]
  split
  · split <;> simp
  · simp

@[simp] theorem State.makePresent_frame (u : UnitId) (s : State) :
    (s.makePresent u).supplied = s.supplied ∧ (s.makePresent u).pins = s.pins ∧ (s.makePresent u).stages = s.stages ∧
      (s.makePresent u).calls = s.calls ∧ (s.makePresent u).arbiter = s.arbiter ∧
      (s.makePresent u).account = s.account ∧ (s.makePresent u).shed = s.shed ∧ (s.makePresent u).lines = s.lines ∧
      (s.makePresent u).modes = s.modes ∧ (s.makePresent u).link = s.link ∧ (s.makePresent u).store = s.store ∧
      (s.makePresent u).counters = s.counters ∧ (s.makePresent u).causes = s.causes ∧
      (s.makePresent u).drawn = s.drawn ∧ (s.makePresent u).pending = s.pending := by
  and_intros <;> rfl

@[simp] theorem State.anomaly_frame (u : UnitId) (s : State) :
    (s.anomaly u).supplied = s.supplied ∧ (s.anomaly u).pins = s.pins ∧ (s.anomaly u).stages = s.stages ∧
      (s.anomaly u).calls = s.calls ∧ (s.anomaly u).arbiter = s.arbiter ∧ (s.anomaly u).account = s.account ∧
      (s.anomaly u).shed = s.shed ∧ (s.anomaly u).lines = s.lines ∧ (s.anomaly u).modes = s.modes ∧
      (s.anomaly u).link = s.link ∧ (s.anomaly u).store = s.store ∧ (s.anomaly u).causes = s.causes ∧
      (s.anomaly u).drawn = s.drawn ∧ (s.anomaly u).pending = s.pending := by
  and_intros <;> rfl

@[simp] theorem State.reconcileSlot_frame (bitmap : Byte) (st : StageId) (s : State) :
    (s.reconcileSlot bitmap st).supplied = s.supplied ∧ (s.reconcileSlot bitmap st).pins = s.pins ∧
      (s.reconcileSlot bitmap st).account = s.account ∧ (s.reconcileSlot bitmap st).shed = s.shed ∧
      (s.reconcileSlot bitmap st).lines = s.lines ∧ (s.reconcileSlot bitmap st).link = s.link ∧
      (s.reconcileSlot bitmap st).store = s.store ∧ (s.reconcileSlot bitmap st).drawn = s.drawn ∧
      (s.reconcileSlot bitmap st).pending = s.pending := by
  simp only [State.reconcileSlot]
  repeat' split
  all_goals simp

@[simp] theorem State.reconcile_frame (u : UnitId) (bitmap : Byte) (s : State) :
    (s.reconcile u bitmap).supplied = s.supplied ∧ (s.reconcile u bitmap).pins = s.pins ∧
      (s.reconcile u bitmap).account = s.account ∧ (s.reconcile u bitmap).shed = s.shed ∧
      (s.reconcile u bitmap).lines = s.lines ∧ (s.reconcile u bitmap).link = s.link ∧
      (s.reconcile u bitmap).store = s.store ∧ (s.reconcile u bitmap).drawn = s.drawn ∧
      (s.reconcile u bitmap).pending = s.pending := by
  simp only [State.reconcile]
  exact ⟨foldl_keeps State.supplied _ (by simp) _ _,
    foldl_keeps State.pins _ (by simp) _ _,
    foldl_keeps State.account _ (by simp) _ _,
    foldl_keeps State.shed _ (by simp) _ _,
    foldl_keeps State.lines _ (by simp) _ _,
    foldl_keeps State.link _ (by simp) _ _,
    foldl_keeps State.store _ (by simp) _ _,
    foldl_keeps State.drawn _ (by simp) _ _,
    foldl_keeps State.pending _ (by simp) _ _⟩

@[simp] theorem State.boundary_frame (cause : BoundaryCause) (s : State) :
    (s.boundary cause).supplied = s.supplied ∧ (s.boundary cause).pins = s.pins ∧
      (s.boundary cause).stages = s.stages ∧ (s.boundary cause).calls = s.calls ∧
      (s.boundary cause).arbiter = s.arbiter ∧ (s.boundary cause).shed = s.shed ∧
      (s.boundary cause).supervisor = s.supervisor ∧ (s.boundary cause).lines = s.lines ∧
      (s.boundary cause).modes = s.modes ∧ (s.boundary cause).link = s.link ∧ (s.boundary cause).store = s.store ∧
      (s.boundary cause).counters = s.counters ∧ (s.boundary cause).causes = s.causes ∧
      (s.boundary cause).drawn = s.drawn ∧ (s.boundary cause).pending = s.pending := by
  and_intros <;> rfl

@[simp] theorem State.validPulse_frame (s : State) :
    s.validPulse.supplied = s.supplied ∧ s.validPulse.pins = s.pins ∧ s.validPulse.stages = s.stages ∧
      s.validPulse.calls = s.calls ∧ s.validPulse.arbiter = s.arbiter ∧ s.validPulse.shed = s.shed ∧
      s.validPulse.supervisor = s.supervisor ∧ s.validPulse.lines = s.lines ∧ s.validPulse.modes = s.modes ∧
      s.validPulse.link = s.link ∧ s.validPulse.store = s.store ∧ s.validPulse.causes = s.causes ∧
      s.validPulse.drawn = s.drawn ∧ s.validPulse.pending = s.pending := by
  and_intros <;> rfl

@[simp] theorem State.estimate_frame (cause : EstimateCause) (s : State) :
    (s.estimate cause).supplied = s.supplied ∧ (s.estimate cause).pins = s.pins ∧
      (s.estimate cause).stages = s.stages ∧ (s.estimate cause).calls = s.calls ∧
      (s.estimate cause).arbiter = s.arbiter ∧ (s.estimate cause).shed = s.shed ∧
      (s.estimate cause).supervisor = s.supervisor ∧ (s.estimate cause).lines = s.lines ∧
      (s.estimate cause).modes = s.modes ∧ (s.estimate cause).link = s.link ∧ (s.estimate cause).store = s.store ∧
      (s.estimate cause).causes = s.causes ∧ (s.estimate cause).drawn = s.drawn ∧
      (s.estimate cause).pending = s.pending := by
  and_intros <;> rfl

@[simp] theorem State.stuckReport_frame (s : State) :
    s.stuckReport.supplied = s.supplied ∧ s.stuckReport.pins = s.pins ∧ s.stuckReport.stages = s.stages ∧
      s.stuckReport.calls = s.calls ∧ s.stuckReport.arbiter = s.arbiter ∧ s.stuckReport.shed = s.shed ∧
      s.stuckReport.supervisor = s.supervisor ∧ s.stuckReport.lines = s.lines ∧ s.stuckReport.modes = s.modes ∧
      s.stuckReport.link = s.link ∧ s.stuckReport.store = s.store ∧ s.stuckReport.causes = s.causes ∧
      s.stuckReport.drawn = s.drawn ∧ s.stuckReport.pending = s.pending := by
  and_intros <;> rfl

@[simp] theorem State.releaseReport_frame (s : State) :
    s.releaseReport.supplied = s.supplied ∧ s.releaseReport.pins = s.pins ∧ s.releaseReport.stages = s.stages ∧
      s.releaseReport.calls = s.calls ∧ s.releaseReport.arbiter = s.arbiter ∧ s.releaseReport.shed = s.shed ∧
      s.releaseReport.supervisor = s.supervisor ∧ s.releaseReport.lines = s.lines ∧
      s.releaseReport.modes = s.modes ∧ s.releaseReport.link = s.link ∧ s.releaseReport.store = s.store ∧
      s.releaseReport.counters = s.counters ∧ s.releaseReport.causes = s.causes ∧
      s.releaseReport.drawn = s.drawn ∧ s.releaseReport.pending = s.pending := by
  and_intros <;> rfl

@[simp] theorem State.intervalMark_frame (s : State) :
    s.intervalMark.supplied = s.supplied ∧ s.intervalMark.pins = s.pins ∧ s.intervalMark.stages = s.stages ∧
      s.intervalMark.calls = s.calls ∧ s.intervalMark.arbiter = s.arbiter ∧ s.intervalMark.shed = s.shed ∧
      s.intervalMark.supervisor = s.supervisor ∧ s.intervalMark.lines = s.lines ∧
      s.intervalMark.modes = s.modes ∧ s.intervalMark.link = s.link ∧ s.intervalMark.store = s.store ∧
      s.intervalMark.causes = s.causes ∧ s.intervalMark.drawn = s.drawn ∧ s.intervalMark.pending = s.pending := by
  simp only [State.intervalMark]
  split
  · simp
  · split <;> simp

@[simp] theorem State.pulseStuck_frame (s : State) :
    s.pulseStuck.supplied = s.supplied ∧ s.pulseStuck.pins = s.pins ∧ s.pulseStuck.stages = s.stages ∧
      s.pulseStuck.calls = s.calls ∧ s.pulseStuck.arbiter = s.arbiter ∧ s.pulseStuck.shed = s.shed ∧
      s.pulseStuck.supervisor = s.supervisor ∧ s.pulseStuck.modes = s.modes ∧ s.pulseStuck.link = s.link ∧
      s.pulseStuck.store = s.store ∧ s.pulseStuck.causes = s.causes ∧ s.pulseStuck.drawn = s.drawn ∧
      s.pulseStuck.pending = s.pending := by
  simp [State.pulseStuck]

@[simp] theorem State.deliverCurtail_frame (s : State) :
    s.deliverCurtail.supplied = s.supplied ∧ s.deliverCurtail.pins = s.pins ∧
      s.deliverCurtail.stages = s.stages ∧ s.deliverCurtail.calls = s.calls ∧
      s.deliverCurtail.arbiter = s.arbiter ∧ s.deliverCurtail.account = s.account ∧
      s.deliverCurtail.supervisor = s.supervisor ∧ s.deliverCurtail.modes = s.modes ∧
      s.deliverCurtail.link = s.link ∧ s.deliverCurtail.store = s.store ∧ s.deliverCurtail.causes = s.causes ∧
      s.deliverCurtail.drawn = s.drawn ∧ s.deliverCurtail.pending = s.pending := by
  simp only [State.deliverCurtail]
  split <;> simp

@[simp] theorem State.mainsOffTail_frame (s : State) :
    s.mainsOffTail.supplied = s.supplied ∧ s.mainsOffTail.pins = s.pins ∧ s.mainsOffTail.account = s.account ∧
      s.mainsOffTail.shed = s.shed ∧ s.mainsOffTail.lines = s.lines ∧ s.mainsOffTail.link = s.link ∧
      s.mainsOffTail.store = s.store ∧ s.mainsOffTail.drawn = s.drawn ∧ s.mainsOffTail.pending = s.pending := by
  simp [State.mainsOffTail]

@[simp] theorem State.mainsOffFresh_frame (s : State) :
    s.mainsOffFresh.supplied = s.supplied ∧ s.mainsOffFresh.pins = s.pins ∧
      s.mainsOffFresh.account = s.account ∧ s.mainsOffFresh.shed = s.shed ∧ s.mainsOffFresh.lines = s.lines ∧
      s.mainsOffFresh.link = s.link ∧ s.mainsOffFresh.store = s.store ∧ s.mainsOffFresh.drawn = s.drawn ∧
      s.mainsOffFresh.pending = s.pending := by
  simp [State.mainsOffFresh]

@[simp] theorem State.mainsOffReplay_frame (s : State) :
    s.mainsOffReplay.supplied = s.supplied ∧ s.mainsOffReplay.pins = s.pins ∧
      s.mainsOffReplay.account = s.account ∧ s.mainsOffReplay.shed = s.shed ∧ s.mainsOffReplay.lines = s.lines ∧
      s.mainsOffReplay.link = s.link ∧ s.mainsOffReplay.store = s.store ∧ s.mainsOffReplay.drawn = s.drawn ∧
      s.mainsOffReplay.pending = s.pending := by
  simp [State.mainsOffReplay]

@[simp] theorem State.powerFailAsserted_frame (s : State) :
    s.powerFailAsserted.supplied = s.supplied ∧ s.powerFailAsserted.pins = s.pins ∧
      s.powerFailAsserted.account = s.account ∧ s.powerFailAsserted.shed = s.shed ∧
      s.powerFailAsserted.lines = s.lines ∧ s.powerFailAsserted.link = s.link ∧
      s.powerFailAsserted.store = s.store ∧ s.powerFailAsserted.drawn = s.drawn ∧
      s.powerFailAsserted.pending = s.pending := by
  simp only [State.powerFailAsserted]
  split <;> simp

@[simp] theorem State.powerFailDeasserted_frame (s : State) :
    s.powerFailDeasserted.supplied = s.supplied ∧ s.powerFailDeasserted.pins = s.pins ∧
      s.powerFailDeasserted.stages = s.stages ∧ s.powerFailDeasserted.calls = s.calls ∧
      s.powerFailDeasserted.arbiter = s.arbiter ∧ s.powerFailDeasserted.account = s.account ∧
      s.powerFailDeasserted.shed = s.shed ∧ s.powerFailDeasserted.supervisor = s.supervisor ∧
      s.powerFailDeasserted.lines = s.lines ∧ s.powerFailDeasserted.link = s.link ∧
      s.powerFailDeasserted.store = s.store ∧ s.powerFailDeasserted.counters = s.counters ∧
      s.powerFailDeasserted.causes = s.causes ∧ s.powerFailDeasserted.drawn = s.drawn ∧
      s.powerFailDeasserted.pending = s.pending := by
  simp only [State.powerFailDeasserted]
  split <;> simp [State.setMode, Mode.admits]

@[simp] theorem State.settingChanged_frame (x : Setting) (s : State) :
    (s.settingChanged x).supplied = s.supplied ∧ (s.settingChanged x).pins = s.pins ∧
      (s.settingChanged x).stages = s.stages ∧ (s.settingChanged x).arbiter = s.arbiter ∧
      (s.settingChanged x).modes = s.modes ∧ (s.settingChanged x).link = s.link ∧
      (s.settingChanged x).store = s.store ∧ (s.settingChanged x).causes = s.causes ∧
      (s.settingChanged x).drawn = s.drawn ∧ (s.settingChanged x).pending = s.pending := by
  simp only [State.settingChanged]
  repeat' split
  all_goals simp

@[simp] theorem State.groupChanged_frame (u : UnitId) (s : State) :
    (s.groupChanged u).supplied = s.supplied ∧ (s.groupChanged u).pins = s.pins ∧
      (s.groupChanged u).stages = s.stages ∧ (s.groupChanged u).calls = s.calls ∧
      (s.groupChanged u).arbiter = s.arbiter ∧ (s.groupChanged u).account = s.account ∧
      (s.groupChanged u).shed = s.shed ∧ (s.groupChanged u).lines = s.lines ∧ (s.groupChanged u).modes = s.modes ∧
      (s.groupChanged u).link = s.link ∧ (s.groupChanged u).store = s.store ∧
      (s.groupChanged u).counters = s.counters ∧ (s.groupChanged u).causes = s.causes ∧
      (s.groupChanged u).drawn = s.drawn ∧ (s.groupChanged u).pending = s.pending := by
  and_intros <;> rfl

@[simp] theorem State.bumpTimes_frame (c : Counter) (n : Nat) (s : State) :
    (s.bumpTimes c n).supplied = s.supplied ∧ (s.bumpTimes c n).pins = s.pins ∧ (s.bumpTimes c n).stages = s.stages ∧
      (s.bumpTimes c n).calls = s.calls ∧ (s.bumpTimes c n).arbiter = s.arbiter ∧
      (s.bumpTimes c n).account = s.account ∧ (s.bumpTimes c n).shed = s.shed ∧
      (s.bumpTimes c n).supervisor = s.supervisor ∧ (s.bumpTimes c n).lines = s.lines ∧
      (s.bumpTimes c n).modes = s.modes ∧ (s.bumpTimes c n).link = s.link ∧ (s.bumpTimes c n).store = s.store ∧
      (s.bumpTimes c n).causes = s.causes ∧ (s.bumpTimes c n).drawn = s.drawn ∧ (s.bumpTimes c n).pending = s.pending := by
  induction n generalizing s with
  | zero => simp [State.bumpTimes]
  | succ n ih => simp [State.bumpTimes, ih]

@[simp] theorem State.ageCalls_frame (s : State) :
    s.ageCalls.supplied = s.supplied ∧ s.ageCalls.pins = s.pins ∧ s.ageCalls.stages = s.stages ∧
      s.ageCalls.arbiter = s.arbiter ∧ s.ageCalls.account = s.account ∧ s.ageCalls.shed = s.shed ∧
      s.ageCalls.supervisor = s.supervisor ∧ s.ageCalls.lines = s.lines ∧ s.ageCalls.modes = s.modes ∧
      s.ageCalls.link = s.link ∧ s.ageCalls.store = s.store ∧ s.ageCalls.causes = s.causes ∧
      s.ageCalls.drawn = s.drawn ∧ s.ageCalls.pending = s.pending := by
  simp [State.ageCalls]

@[simp] theorem State.setMarker_frame (m : Option Marker) (s : State) :
    (s.setMarker m).supplied = s.supplied ∧ (s.setMarker m).pins = s.pins ∧ (s.setMarker m).stages = s.stages ∧
      (s.setMarker m).calls = s.calls ∧ (s.setMarker m).account = s.account ∧ (s.setMarker m).shed = s.shed ∧
      (s.setMarker m).supervisor = s.supervisor ∧ (s.setMarker m).lines = s.lines ∧ (s.setMarker m).modes = s.modes ∧
      (s.setMarker m).link = s.link ∧ (s.setMarker m).store = s.store ∧ (s.setMarker m).causes = s.causes ∧
      (s.setMarker m).drawn = s.drawn ∧ (s.setMarker m).pending = s.pending := by
  simp only [State.setMarker]
  repeat' split
  all_goals simp

@[simp] theorem State.grantEntry_frame (e : CallEntry) (s : State) :
    (s.grantEntry e).supplied = s.supplied ∧ (s.grantEntry e).pins = s.pins ∧ (s.grantEntry e).account = s.account ∧
      (s.grantEntry e).shed = s.shed ∧ (s.grantEntry e).supervisor = s.supervisor ∧ (s.grantEntry e).lines = s.lines ∧
      (s.grantEntry e).store = s.store ∧ (s.grantEntry e).causes = s.causes ∧ (s.grantEntry e).drawn = s.drawn ∧
      (s.grantEntry e).pending = s.pending := by
  simp only [State.grantEntry]
  repeat' split
  all_goals simp

@[simp] theorem walkEntries_frame (onEvaluation : Bool) (guardBand holdBack : Nat) (entries : List CallEntry) (w : Walk) :
    (walkEntries onEvaluation guardBand holdBack entries w).state.supplied = w.state.supplied ∧
      (walkEntries onEvaluation guardBand holdBack entries w).state.pins = w.state.pins ∧
      (walkEntries onEvaluation guardBand holdBack entries w).state.account = w.state.account ∧
      (walkEntries onEvaluation guardBand holdBack entries w).state.shed = w.state.shed ∧
      (walkEntries onEvaluation guardBand holdBack entries w).state.supervisor = w.state.supervisor ∧
      (walkEntries onEvaluation guardBand holdBack entries w).state.lines = w.state.lines ∧
      (walkEntries onEvaluation guardBand holdBack entries w).state.store = w.state.store ∧
      (walkEntries onEvaluation guardBand holdBack entries w).state.causes = w.state.causes ∧
      (walkEntries onEvaluation guardBand holdBack entries w).state.drawn = w.state.drawn ∧
      (walkEntries onEvaluation guardBand holdBack entries w).state.pending = w.state.pending := by
  induction entries generalizing w with
  | nil => simp [walkEntries]
  | cons e rest ih =>
    simp only [walkEntries]
    repeat' split
    all_goals simp [ih]

@[simp] theorem State.makePass_frame (cause : PassCause) (s : State) :
    (s.makePass cause).supplied = s.supplied ∧ (s.makePass cause).pins = s.pins ∧
      (s.makePass cause).account = s.account ∧ (s.makePass cause).shed = s.shed ∧
      (s.makePass cause).supervisor = s.supervisor ∧ (s.makePass cause).lines = s.lines ∧
      (s.makePass cause).store = s.store ∧ (s.makePass cause).drawn = s.drawn ∧ (s.makePass cause).pending = s.pending := by
  simp only [State.makePass]
  split <;> simp

@[simp] theorem State.passCause_frame (cause : PassCause) (s : State) :
    (s.passCause cause).supplied = s.supplied ∧ (s.passCause cause).pins = s.pins ∧
      (s.passCause cause).account = s.account ∧ (s.passCause cause).shed = s.shed ∧
      (s.passCause cause).supervisor = s.supervisor ∧ (s.passCause cause).lines = s.lines ∧
      (s.passCause cause).store = s.store ∧ (s.passCause cause).drawn = s.drawn ∧
      (s.passCause cause).pending = s.pending := by
  simp only [State.passCause]
  split
  · simp
  · split <;> simp

@[simp] theorem State.clearPersistence_frame (s : State) :
    s.clearPersistence.supplied = s.supplied ∧ s.clearPersistence.pins = s.pins ∧
      s.clearPersistence.stages = s.stages ∧ s.clearPersistence.calls = s.calls ∧
      s.clearPersistence.arbiter = s.arbiter ∧ s.clearPersistence.shed = s.shed ∧
      s.clearPersistence.supervisor = s.supervisor ∧ s.clearPersistence.lines = s.lines ∧
      s.clearPersistence.modes = s.modes ∧ s.clearPersistence.link = s.link ∧
      s.clearPersistence.store = s.store ∧ s.clearPersistence.counters = s.counters ∧
      s.clearPersistence.causes = s.causes ∧ s.clearPersistence.drawn = s.drawn ∧
      s.clearPersistence.pending = s.pending := by
  and_intros <;> rfl

@[simp] theorem State.shedRevoke_frame (st : StageId) (reason : StopReason) (counter : Counter) (s : State) :
    (s.shedRevoke st reason counter).1.supplied = s.supplied ∧ (s.shedRevoke st reason counter).1.pins = s.pins ∧
      (s.shedRevoke st reason counter).1.arbiter = s.arbiter ∧
      (s.shedRevoke st reason counter).1.account = s.account ∧ (s.shedRevoke st reason counter).1.shed = s.shed ∧
      (s.shedRevoke st reason counter).1.supervisor = s.supervisor ∧
      (s.shedRevoke st reason counter).1.lines = s.lines ∧ (s.shedRevoke st reason counter).1.store = s.store ∧
      (s.shedRevoke st reason counter).1.drawn = s.drawn ∧ (s.shedRevoke st reason counter).1.pending = s.pending := by
  simp only [State.shedRevoke, State.revoke]
  repeat' split
  all_goals simp_all
  all_goals (rename_i h; rw [← h.2.1]; simp)

@[simp] theorem State.shedStop_frame (st : StageId) (reason : StopReason) (counter : Counter) (s : State) :
    (s.shedStop st reason counter).1.supplied = s.supplied ∧ (s.shedStop st reason counter).1.pins = s.pins ∧
      (s.shedStop st reason counter).1.calls = s.calls ∧ (s.shedStop st reason counter).1.arbiter = s.arbiter ∧
      (s.shedStop st reason counter).1.account = s.account ∧ (s.shedStop st reason counter).1.shed = s.shed ∧
      (s.shedStop st reason counter).1.supervisor = s.supervisor ∧ (s.shedStop st reason counter).1.lines = s.lines ∧
      (s.shedStop st reason counter).1.modes = s.modes ∧ (s.shedStop st reason counter).1.store = s.store ∧
      (s.shedStop st reason counter).1.drawn = s.drawn ∧ (s.shedStop st reason counter).1.pending = s.pending := by
  simp only [State.shedStop, State.stopStage]
  repeat' split
  all_goals simp_all
  all_goals (rename_i h; rw [← h.2.1]; simp)

@[simp] theorem State.orderStop_frame (st : StageId) (s : State) :
    (s.orderStop st).supplied = s.supplied ∧ (s.orderStop st).pins = s.pins ∧ (s.orderStop st).arbiter = s.arbiter ∧
      (s.orderStop st).account = s.account ∧ (s.orderStop st).shed = s.shed ∧
      (s.orderStop st).supervisor = s.supervisor ∧ (s.orderStop st).lines = s.lines ∧
      (s.orderStop st).store = s.store ∧ (s.orderStop st).drawn = s.drawn ∧ (s.orderStop st).pending = s.pending := by
  simp only [State.orderStop]
  repeat' split
  all_goals simp

@[simp] theorem State.shedOrders_frame (s : State) :
    s.shedOrders.supplied = s.supplied ∧ s.shedOrders.pins = s.pins ∧ s.shedOrders.arbiter = s.arbiter ∧
      s.shedOrders.account = s.account ∧ s.shedOrders.shed = s.shed ∧ s.shedOrders.supervisor = s.supervisor ∧
      s.shedOrders.lines = s.lines ∧ s.shedOrders.store = s.store ∧ s.shedOrders.drawn = s.drawn ∧
      s.shedOrders.pending = s.pending := by
  simp only [State.shedOrders]
  exact ⟨foldl_keeps State.supplied _ (by simp) _ _,
    foldl_keeps State.pins _ (by simp) _ _,
    foldl_keeps State.arbiter _ (by simp) _ _,
    foldl_keeps State.account _ (by simp) _ _,
    foldl_keeps State.shed _ (by simp) _ _,
    foldl_keeps State.supervisor _ (by simp) _ _,
    foldl_keeps State.lines _ (by simp) _ _,
    foldl_keeps State.store _ (by simp) _ _,
    foldl_keeps State.drawn _ (by simp) _ _,
    foldl_keeps State.pending _ (by simp) _ _⟩

@[simp] theorem State.demandShed_frame (s : State) :
    s.demandShed.1.supplied = s.supplied ∧ s.demandShed.1.pins = s.pins ∧ s.demandShed.1.arbiter = s.arbiter ∧
      s.demandShed.1.shed = s.shed ∧ s.demandShed.1.supervisor = s.supervisor ∧ s.demandShed.1.lines = s.lines ∧
      s.demandShed.1.store = s.store ∧ s.demandShed.1.drawn = s.drawn ∧ s.demandShed.1.pending = s.pending := by
  simp only [State.demandShed]
  repeat' split
  all_goals simp_all

@[simp] theorem State.displacementShed_frame (s : State) :
    s.displacementShed.supplied = s.supplied ∧ s.displacementShed.pins = s.pins ∧
      s.displacementShed.calls = s.calls ∧ s.displacementShed.arbiter = s.arbiter ∧
      s.displacementShed.account = s.account ∧ s.displacementShed.supervisor = s.supervisor ∧
      s.displacementShed.lines = s.lines ∧ s.displacementShed.modes = s.modes ∧
      s.displacementShed.store = s.store ∧ s.displacementShed.drawn = s.drawn ∧
      s.displacementShed.pending = s.pending := by
  simp only [State.displacementShed]
  repeat' split
  all_goals simp

@[simp] theorem State.checkCause_frame (s : State) :
    s.checkCause.supplied = s.supplied ∧ s.checkCause.pins = s.pins ∧ s.checkCause.arbiter = s.arbiter ∧
      s.checkCause.supervisor = s.supervisor ∧ s.checkCause.lines = s.lines ∧ s.checkCause.store = s.store ∧
      s.checkCause.drawn = s.drawn ∧ s.checkCause.pending = s.pending := by
  simp only [State.checkCause]
  split
  · split <;> simp
  · simp

@[simp] theorem State.act_frame (c : Cause) (s : State) :
    (s.act c).supplied = s.supplied ∧ (s.act c).pins = s.pins ∧ (s.act c).supervisor = s.supervisor ∧
      (s.act c).lines = s.lines ∧ (s.act c).store = s.store ∧ (s.act c).drawn = s.drawn ∧
      (s.act c).pending = s.pending := by
  simp only [State.act]
  split <;> simp

@[simp] theorem State.drainWith_frame (choose : Nat → Nat) (fuel : Nat) (s : State) :
    (State.drainWith choose fuel s).supplied = s.supplied ∧ (State.drainWith choose fuel s).pins = s.pins ∧
      (State.drainWith choose fuel s).supervisor = s.supervisor ∧ (State.drainWith choose fuel s).lines = s.lines ∧
      (State.drainWith choose fuel s).store = s.store ∧ (State.drainWith choose fuel s).pending = s.pending := by
  induction fuel generalizing s with
  | zero => simp [State.drainWith]
  | succ n ih =>
    simp only [State.drainWith]
    split
    · simp
    · simp [ih]

@[simp] theorem State.drain_frame (s : State) :
    s.drain.supplied = s.supplied ∧ s.drain.pins = s.pins ∧ s.drain.supervisor = s.supervisor ∧
      s.drain.lines = s.lines ∧ s.drain.store = s.store ∧ s.drain.pending = s.pending := by
  simp [State.drain]

end Sys2Proof.Machine
end

