-- ==== Sys2Proof/Laws/Calls.lean ====
section
/-! SUPPORT. Laws/Calls.lean: what the call queue's operations do: the place of an entry (R65), its acceptance (R66, R67) and its
removal (R73). -/

namespace Sys2Proof.Machine

/-- An inserted entry is in the queue, and the others stay. -/
@[simp] theorem mem_insertEntry (e x : CallEntry) (l : List CallEntry) : x ∈ insertEntry e l ↔ x = e ∨ x ∈ l := by
  induction l with
  | nil => simp [insertEntry]
  | cons a rest ih =>
    simp only [insertEntry]
    split
    · simp
    · simp only [List.mem_cons, ih]; tauto

/-- An insertion lengthens the queue by one. -/
@[simp] theorem length_insertEntry (e : CallEntry) (l : List CallEntry) : (insertEntry e l).length = l.length + 1 := by
  induction l with
  | nil => rfl
  | cons a rest ih =>
    simp only [insertEntry]
    split <;> simp [ih]

/-- An insertion permutes the entries with the new one in front. -/
theorem insertEntry_perm (e : CallEntry) (l : List CallEntry) : (insertEntry e l).Perm (e :: l) := by
  induction l with
  | nil => exact .refl _
  | cons a rest ih =>
    simp only [insertEntry]
    split
    · exact .refl _
    · exact (ih.cons a).trans (.swap e a rest)

/-- The order of R65 is transitive. -/
theorem CallEntry.before_trans {a b c : CallEntry} (h : a.before b = true) (h' : b.before c = true) : a.before c = true := by
  simp only [CallEntry.before, Bool.or_eq_true, Bool.and_eq_true, decide_eq_true_eq, beq_iff_eq] at *
  omega

/-- Of two entries with distinct stamps one stands before the other. -/
theorem CallEntry.before_total {a b : CallEntry} (h : a.stamp ≠ b.stamp) : a.before b = true ∨ b.before a = true := by
  simp only [CallEntry.before, Bool.or_eq_true, Bool.and_eq_true, decide_eq_true_eq, beq_iff_eq]
  omega

/-- Insertion keeps the queue in R65's order when the new stamp is no entry's. -/
theorem insertEntry_ordered (e : CallEntry) (l : List CallEntry) (fresh : ∀ x ∈ l, x.stamp ≠ e.stamp)
    (ordered : l.Pairwise fun a b => a.before b = true) : (insertEntry e l).Pairwise fun a b => a.before b = true := by
  induction l with
  | nil => simp [insertEntry]
  | cons a rest ih =>
    rw [List.pairwise_cons] at ordered
    simp only [insertEntry]
    split
    · rename_i first
      refine List.pairwise_cons.mpr ⟨?_, List.pairwise_cons.mpr ordered⟩
      intro x hx
      rcases List.mem_cons.mp hx with rfl | hx
      · exact first
      · exact CallEntry.before_trans first (ordered.1 x hx)
    · rename_i notFirst
      refine List.pairwise_cons.mpr ⟨?_, ih (fun x hx => fresh x (List.mem_cons_of_mem _ hx)) ordered.2⟩
      intro x hx
      rcases (mem_insertEntry e x rest).mp hx with rfl | hx
      · exact ((CallEntry.before_total (fresh a (by simp)).symm).resolve_left notFirst)
      · exact ordered.1 x hx

/-- Sorting keeps the number of entries. -/
@[simp] theorem length_sortEntries (l : List CallEntry) : (sortEntries l).length = l.length := by
  induction l with
  | nil => rfl
  | cons a rest ih => simpa [sortEntries] using ih

/-- Sorting permutes the entries. -/
theorem sortEntries_perm (l : List CallEntry) : (sortEntries l).Perm l := by
  induction l with
  | nil => exact .refl _
  | cons a rest ih => exact (insertEntry_perm a _).trans (ih.cons a)

/-- Entries with distinct stamps are sorted into R65's order. -/
theorem sortEntries_ordered (l : List CallEntry) (distinct : (l.map CallEntry.stamp).Nodup) :
    (sortEntries l).Pairwise fun a b => a.before b = true := by
  induction l with
  | nil => simp [sortEntries]
  | cons a rest ih =>
    simp only [List.map_cons, List.nodup_cons] at distinct
    refine insertEntry_ordered a _ ?_ (ih distinct.2)
    intro x hx same
    have : x ∈ rest := (sortEntries_perm rest).mem_iff.mp hx
    exact distinct.1 (same ▸ List.mem_map_of_mem this)

/-- Renumbering keeps the number of entries. -/
@[simp] theorem length_renumber (l : List CallEntry) : (renumber l).length = l.length := by simp [renumber]

/-- Setting the entries sets them, forms the congestion flag and leaves the arrival counter (R73, R76). -/
theorem State.setEntries_calls (entries : List CallEntry) (s : State) :
    (s.setEntries entries).calls =
      { s.calls with entries := entries, congested := decide (s.setting .congestionThreshold ≤ entries.length) } := by
  simp only [State.setEntries, State.formCongestion]
  split <;> rfl

/-- A removal leaves the entries of every other stage, in their order (R73). -/
theorem State.removeCall_entries (st : StageId) (s : State) :
    (s.removeCall st).calls.entries = s.calls.entries.filter fun e => e.stage != st := by
  simp [State.removeCall, State.setEntries_calls]

/-- A removal clears the marker where it names the stage, and leaves it otherwise (R92). -/
theorem State.removeCall_marker (st : StageId) (s : State) :
    (s.removeCall st).arbiter.marker = s.arbiter.marker.filter fun m => m.stage != st := by
  simp [State.removeCall, State.clearMarkerOf]

/-- An accepted entry takes the arrival counter's value as its stamp and is placed by R65; at the largest stamp the queue is
renumbered (R66, R67). -/
theorem State.enterCall_calls (st : StageId) (cls : Nat) (replay : Bool) (s : State) :
    ((s.enterCall st cls replay).calls.entries =
      if s.calls.arrival = max32 then
        renumber (insertEntry
          { stage := st, cls := cls, stamp := s.calls.arrival, waitAge := 0, passedOver := 0, replay := replay }
          s.calls.entries)
      else
        insertEntry { stage := st, cls := cls, stamp := s.calls.arrival, waitAge := 0, passedOver := 0, replay := replay }
          s.calls.entries) ∧
    (s.enterCall st cls replay).calls.arrival =
      if s.calls.arrival = max32 then s.calls.entries.length + 1 else s.calls.arrival + 1 := by
  simp only [State.enterCall]
  split <;> simp [State.setEntries_calls]

end Sys2Proof.Machine
end

