-- ==== Sys2Proof/Laws/Drain.lean ====
section
/-! SUPPORT. Laws/Drain.lean: what acting on the notices of a command does, and the frame of every command that gives none. -/

namespace Sys2Proof.Machine

/-- With no notice given there is nothing to act on. -/
theorem State.drainWith_none (choose : Nat → Nat) (fuel : Nat) (s : State) (h : s.causes = []) :
    State.drainWith choose fuel s = s := by
  cases fuel with
  | zero => simp only [State.drainWith]; rw [← h]
  | succ n => simp [State.drainWith, h]

/-- With no notice given there is nothing to act on. -/
theorem State.drain_none (s : State) (h : s.causes = []) : s.drain = s := State.drainWith_none _ _ s h

/-- When a command is over no notice is left. -/
@[simp] theorem State.drainWith_causes (choose : Nat → Nat) (fuel : Nat) (s : State) :
    (State.drainWith choose fuel s).causes = [] := by
  induction fuel generalizing s with
  | zero => rfl
  | succ n ih =>
    simp only [State.drainWith]
    split
    · assumption
    · rw [ih]

/-- When a command is over no notice is left. -/
@[simp] theorem State.drain_causes (s : State) : s.drain.causes = [] := State.drainWith_causes _ _ s

/-- A single notice is acted on, and then the notices it gave. -/
theorem State.drainWith_single (choose : Nat → Nat) (fuel : Nat) (s : State) (c : Cause) (h : s.causes = [c]) :
    State.drainWith choose (fuel + 1) s = State.drainWith choose fuel (State.act c { s with causes := [] }) := by
  simp [State.drainWith, h, State.orderSeen]

/-- A command with supply: its effect, and then the notices it gave. -/
theorem State.take_supplied (effect : State → State) (s : State) (h : s.supplied = true) :
    s.take effect = .next (effect s).drain := by simp [State.take, h]

/-- Without supply a command changes nothing (R63). -/
theorem State.take_unsupplied (effect : State → State) (s : State) (h : s.supplied = false) : s.take effect = .next s := by
  simp [State.take, h]

/-- A frame received with supply and the link ON_BUS. -/
theorem State.receive_onBus (effect : State → State) (s : State) (h : s.supplied = true) (on : s.onBus = true) :
    s.receive effect = .next (effect s).drain := by simp [State.receive, State.take, h, on]

/-- A frame sent while the link is OFF_BUS is lost (R163). -/
theorem State.receive_offBus (effect : State → State) (s : State) (h : s.onBus = false) (c : s.causes = []) :
    s.receive effect = .next s := by
  simp [State.receive, State.take, h, State.drain_none s c]

/-- A command whose effect gives no notice is its effect. -/
theorem State.take_quiet (effect : State → State) (s : State) (h : s.supplied = true) (c : (effect s).causes = []) :
    s.take effect = .next (effect s) := by rw [State.take_supplied effect s h, State.drain_none _ c]

/-- A frame whose effect gives no notice is its effect. -/
theorem State.receive_quiet (effect : State → State) (s : State) (h : s.supplied = true) (on : s.onBus = true)
    (c : (effect s).causes = []) : s.receive effect = .next (effect s) := by
  rw [State.receive_onBus effect s h on, State.drain_none _ c]

/-- A pin's change with supply. -/
theorem State.pinChange_quiet (pins : Pins → Pins) (effect : State → State) (s : State) (h : s.supplied = true)
    (c : (effect (s.onPins pins)).causes = []) : s.pinChange pins effect = .next (effect (s.onPins pins)) := by
  simp [State.pinChange, h, State.drain_none _ c]

end Sys2Proof.Machine
end

