-- ==== Sys2Proof/Laws/Stages.lean ====
section
/-! SUPPORT. Laws/Stages.lean: what a change of one stage's record or one unit's record does: the record, the other records, the
committed sums and the run order list. -/

namespace Sys2Proof

/-- Two stages with one place in the stage table are one stage. -/
theorem StageId.index_inj {a b : StageId} (h : a.index = b.index) : a = b := by
  obtain ⟨⟨u, hu⟩, ⟨k, hk⟩⟩ := a
  obtain ⟨⟨v, hv⟩, ⟨l, hl⟩⟩ := b
  simp only [StageId.index, Fin.mk.injEq] at h
  obtain rfl : u = v := by omega
  obtain rfl : k = l := by omega
  rfl

/-- Every place of the stage table is some stage's. -/
theorem StageId.index_surj (i : Fin 96) : ∃ st : StageId, st.index = i :=
  ⟨{ unit := ⟨i.val / 4, by omega⟩, slot := ⟨i.val % 4, by omega⟩ }, by ext; simp only [StageId.index]; omega⟩

namespace Machine

/-- The record put is the record read. -/
@[simp] theorem StageTable.get_put_self (t : StageTable) (st : StageId) (r : Stage) : (t.put st r).get st = r := by
  simp [StageTable.put, StageTable.get]

/-- Every other record is as it was. -/
theorem StageTable.get_put_other (t : StageTable) {st st' : StageId} (r : Stage) (h : st' ≠ st) :
    (t.put st r).get st' = t.get st' := by
  have : st.index ≠ st'.index := fun e => h (StageId.index_inj e).symm
  simp only [StageTable.put, StageTable.get, Fin.getElem_fin]
  exact Vector.getElem_set_ne _ _ (by simpa [Fin.ext_iff] using this)

/-- Changing a stage's record changes what the state reads for it. -/
@[simp] theorem State.stage_onStage_self (s : State) (st : StageId) (f : Stage → Stage) :
    (s.onStage st f).stage st = f (s.stage st) := by
  simp [State.onStage, State.stage]

/-- Changing a stage's record leaves every other stage's. -/
theorem State.stage_onStage_other (s : State) {st st' : StageId} (f : Stage → Stage) (h : st' ≠ st) :
    (s.onStage st f).stage st' = s.stage st' := by
  simp [State.onStage, State.stage, StageTable.get_put_other _ _ h]

/-- Changing a unit's record changes what the state reads for it. -/
@[simp] theorem State.unit_onUnit_self (s : State) (u : UnitId) (f : UnitRec → UnitRec) :
    (s.onUnit u f).unit u = f (s.unit u) := by
  simp [State.onUnit, State.unit]

/-- Changing a unit's record leaves every other unit's. -/
theorem State.unit_onUnit_other (s : State) {u v : UnitId} (f : UnitRec → UnitRec) (h : v ≠ u) :
    (s.onUnit u f).unit v = s.unit v := by
  simp only [State.onUnit, State.unit, State.onSupervisor_supervisor, Fin.getElem_fin]
  exact Vector.getElem_set_ne _ _ (by simpa [Fin.ext_iff] using h.symm)

/-- Replacing one entry of a list of numbers moves their sum by the difference. -/
theorem sum_set (l : List Nat) (i : Nat) (h : i < l.length) (x : Nat) : (l.set i x).sum + l[i] = l.sum + x := by
  induction l generalizing i with
  | nil => simp at h
  | cons a rest ih =>
    cases i with
    | zero => simp; omega
    | succ i =>
      have := ih i (by simpa using h)
      simp only [List.set_cons_succ, List.sum_cons, List.getElem_cons_succ]
      omega

/-- The sum of a quantity over the records after one record is put. -/
theorem StageTable.sum_put (t : StageTable) (st : StageId) (r : Stage) (f : Stage → Nat) :
    ((t.put st r).records.toList.map f).sum + f (t.get st) = (t.records.toList.map f).sum + f r := by
  have h := sum_set (t.records.toList.map f) st.index.val (by simp) (f r)
  simp only [List.getElem_map, Vector.getElem_toList] at h
  simp only [StageTable.put, Vector.toList_set, List.map_set, StageTable.get, Fin.getElem_fin]
  exact h

/-- No record's share is above the sum of all. -/
theorem StageTable.share_le_sum (t : StageTable) (st : StageId) (f : Stage → Nat) :
    f (t.get st) ≤ (t.records.toList.map f).sum := by
  have member : f (t.get st) ∈ t.records.toList.map f :=
    List.mem_map_of_mem (by simp [StageTable.get])
  exact List.single_le_sum (fun _ _ => Nat.zero_le _) _ member

/-- Putting a record keeps the committed sums exact (R10). -/
theorem StageTable.put_sumsExact {t : StageTable} (h : t.sumsExact) (st : StageId) (r : Stage) : (t.put st r).sumsExact := by
  obtain ⟨hr, hp⟩ := h
  have sr := t.sum_put st r Stage.runLoad
  have sp := t.sum_put st r Stage.pendLoad
  have lr := t.share_le_sum st Stage.runLoad
  have lp := t.share_le_sum st Stage.pendLoad
  simp only [StageTable.put] at sr sp ⊢
  constructor <;> simp only [hr, hp] <;> omega

/-- Putting a record keeps the run order list exact (R11). -/
theorem StageTable.put_runOrderExact {t : StageTable} (h : t.runOrderExact) (st : StageId) (r : Stage) :
    (t.put st r).runOrderExact := by
  obtain ⟨nodup, exact⟩ := h
  have inList : ∀ x : StageId, x ∈ t.runOrder ↔ (t.get x).state.listed = true := fun x => exact x.unit x.slot
  have order : (t.put st r).runOrder = if r.state.listed then
      (if (t.get st).state.listed then t.runOrder else t.runOrder ++ [st])
      else if (t.get st).state.listed then t.runOrder.filter (fun x => x != st) else t.runOrder := rfl
  constructor
  · rw [order]
    split
    · split
      · exact nodup
      · rename_i notListed
        refine List.nodup_append.mpr ⟨nodup, by simp, ?_⟩
        rintro a ha b hb rfl
        rw [List.mem_singleton] at hb
        subst hb
        exact notListed ((inList a).mp ha)
    · split
      · exact nodup.filter _
      · exact nodup
  · intro u k
    rw [order]
    by_cases same : ({ unit := u, slot := k } : StageId) = st
    · subst same
      rw [StageTable.get_put_self]
      have := inList { unit := u, slot := k }
      split <;> split <;> simp_all
    · rw [StageTable.get_put_other _ _ same]
      have := inList { unit := u, slot := k }
      split <;> split <;> simp_all

end Machine
end Sys2Proof
end

