-- ==== Sys2Proof/Laws/Budget.lean ====
section
/-! SUPPORT. Laws/Budget.lean: acting on a notice never raises State.budget, so a drain from that budget cuts nothing off. -/

namespace Sys2Proof.Machine

/-! ### What one change does to the budget -/

@[simp] theorem State.budget_bump (c : Counter) (s : State) : (s.bump c).budget = s.budget := rfl
@[simp] theorem State.budget_onArbiter (f : Arbiter → Arbiter) (s : State) : (s.onArbiter f).budget = s.budget := rfl
@[simp] theorem State.budget_onAccount (f : Account → Account) (s : State) : (s.onAccount f).budget = s.budget := rfl
@[simp] theorem State.budget_onShed (f : Shed → Shed) (s : State) : (s.onShed f).budget = s.budget := rfl
@[simp] theorem State.budget_onLink (f : Link → Link) (s : State) : (s.onLink f).budget = s.budget := rfl

/-- A notice given is one more to be acted on. -/
@[simp] theorem State.budget_give (c : Cause) (s : State) : (s.give c).budget = s.budget + 1 := by
  simp only [State.budget, State.give, State.mode, List.length_append, List.length_singleton]; omega

/-- Changing a stage's record moves the budget by what the record adds to it. -/
theorem State.budget_onStage (st : StageId) (f : Stage → Stage) (s : State) :
    (s.onStage st f).budget + (s.stage st).stoppable = s.budget + (f (s.stage st)).stoppable := by
  have h := s.stages.sum_put st (f (s.stage st)) Stage.stoppable
  have e : (s.onStage st f).stages = s.stages.put st (f (s.stage st)) := rfl
  have g : s.stages.get st = s.stage st := rfl
  have c : (s.onStage st f).causes = s.causes ∧ (s.onStage st f).calls = s.calls ∧ (s.onStage st f).modes = s.modes :=
    ⟨rfl, rfl, rfl⟩
  simp only [State.budget, State.mode, c.1, c.2.1, c.2.2, e]
  rw [g] at h
  omega

/-- A record adds at most one. -/
theorem Stage.stoppable_le (r : Stage) : r.stoppable ≤ 1 := by unfold Stage.stoppable; split <;> omega

/-- Setting the call entries moves the budget by their number. -/
theorem State.budget_setEntries (entries : List CallEntry) (s : State) :
    (s.setEntries entries).budget + s.calls.entries.length = s.budget + entries.length := by
  have c : (s.setEntries entries).calls.entries = entries := by rw [State.setEntries_calls]
  have st : (s.setEntries entries).stages = s.stages ∧ (s.setEntries entries).modes = s.modes ∧
      (s.setEntries entries).causes = s.causes := by
    simp only [State.setEntries, State.formCongestion]; split <;> exact ⟨rfl, rfl, rfl⟩
  simp only [State.budget, State.mode, c, st.1, st.2.1, st.2.2]
  omega

/-- Raising a counter several times leaves the budget. -/
@[simp] theorem State.budget_bumpTimes (c : Counter) (n : Nat) (s : State) : (s.bumpTimes c n).budget = s.budget := by
  induction n generalizing s with
  | zero => rfl
  | succ n ih => rw [State.bumpTimes, ih, State.budget_bump]

/-- A notice put in the queue leaves the budget. -/
@[simp] theorem State.budget_enqueue (n : Notice) (s : State) : (s.enqueue n).budget = s.budget := rfl

/-- Placing a STOP leaves the budget. -/
@[simp] theorem State.budget_placeStop (f : StopFrame) (s : State) : (s.placeStop f).budget = s.budget := by
  unfold State.placeStop; split <;> rfl

/-- Setting the marker leaves the budget. -/
@[simp] theorem State.budget_setMarker (m : Option Marker) (s : State) : (s.setMarker m).budget = s.budget := by
  have out : ∀ b : Bool, (if b then (s.onArbiter fun a => { a with marker := m }).bump .blockingHeadOnsets
      else s.onArbiter fun a => { a with marker := m }).budget = s.budget := by
    intro b; split <;> rfl
  exact out _

/-- A removal leaves the other entries. -/
theorem State.budget_removeCall (st : StageId) (s : State) :
    (s.removeCall st).budget + s.calls.entries.length =
      s.budget + (s.calls.entries.filter fun e => e.stage != st).length := by
  have h := State.budget_setEntries (s.calls.entries.filter fun e => e.stage != st) s
  exact h

/-- A removal of a stage that has an entry lowers the budget. -/
theorem State.budget_removeCall_lt {st : StageId} {s : State} (h : ∃ e ∈ s.calls.entries, e.stage = st) :
    (s.removeCall st).budget + 1 ≤ s.budget := by
  have r := State.budget_removeCall st s
  have : (s.calls.entries.filter fun e => e.stage != st).length < s.calls.entries.length := by
    rw [List.length_filter_lt_length_iff_exists]
    obtain ⟨e, mem, rfl⟩ := h
    exact ⟨e, mem, by simp⟩
  omega

/-- A removal never raises the budget. -/
theorem State.budget_removeCall_le (st : StageId) (s : State) : (s.removeCall st).budget ≤ s.budget := by
  have r := State.budget_removeCall st s
  have := List.length_filter_le (fun e : CallEntry => e.stage != st) s.calls.entries
  omega

/-! ### The feeder -/

/-- Changing the mode controller's record, with no more WAITING entries and the mode kept, never raises the budget. -/
theorem State.budget_onModes (f : Modes → Modes) (s : State) (mode : (f s.modes).mode = s.modes.mode)
    (waiting : ((f s.modes).roster.countP fun e => e.outcome == .waiting) ≤
      s.modes.roster.countP fun e => e.outcome == .waiting) : (s.onModes f).budget ≤ s.budget := by
  have e : (s.onModes f).modes = f s.modes := rfl
  have c : (s.onModes f).causes = s.causes ∧ (s.onModes f).calls = s.calls ∧ (s.onModes f).stages = s.stages :=
    ⟨rfl, rfl, rfl⟩
  simp only [State.budget, State.mode, e, c.1, c.2.1, c.2.2, mode]
  omega

/-- Marking a roster entry that was not WAITING leaves the WAITING ones. -/
theorem markRoster_waiting (st : StageId) {now next : RosterOutcome} (h : now ≠ .waiting) (h' : next ≠ .waiting)
    (roster : List RosterEntry) :
    ((markRoster st now next roster).countP fun e => e.outcome == .waiting) =
      roster.countP fun e => e.outcome == .waiting := by
  rw [markRoster, List.countP_map]
  congr 1
  funext e
  simp only [Function.comp]
  split
  · rename_i c
    rw [c.2]
    cases now <;> cases next <;> simp_all
  · rfl

/-- Marking a removed replay entry never raises the budget. -/
theorem State.budget_markRemoved (st : StageId) (granted : Bool) (s : State) :
    (s.markRemoved st granted).budget ≤ s.budget := by
  unfold State.markRemoved
  split
  · rw [State.budget_bump]
    refine State.budget_onModes _ s rfl (Nat.le_of_eq ?_)
    cases granted <;> exact markRoster_waiting st (by decide) (by decide) _
  · exact Nat.le_refl _

/-- A change of a stage's record to one that neither is nor was more than the first adds nothing to the budget. -/
theorem State.budget_onStage_le {st : StageId} {f : Stage → Stage} {s : State}
    (h : (f (s.stage st)).stoppable ≤ (s.stage st).stoppable) : (s.onStage st f).budget ≤ s.budget := by
  have := State.budget_onStage st f s
  omega

/-- An accepted entry is one more in the queue. -/
theorem State.budget_enterCall (st : StageId) (cls : Nat) (replay : Bool) (s : State) :
    (s.enterCall st cls replay).budget = s.budget + 1 := by
  unfold State.enterCall
  simp only
  split <;> rename_i full
  · have h := State.budget_setEntries (renumber (insertEntry
      { stage := st, cls := cls, stamp := s.calls.arrival, waitAge := 0, passedOver := 0, replay := replay }
      s.calls.entries)) (s.onCalls fun q => { q with arrival := (insertEntry
      { stage := st, cls := cls, stamp := s.calls.arrival, waitAge := 0, passedOver := 0, replay := replay }
      s.calls.entries).length })
    simp only [length_renumber, length_insertEntry, State.onCalls_calls] at h
    have same : (s.onCalls fun q => { q with arrival := s.calls.entries.length + 1 }).budget = s.budget := rfl
    simp only [length_insertEntry]
    omega
  · have h := State.budget_setEntries (insertEntry
      { stage := st, cls := cls, stamp := s.calls.arrival, waitAge := 0, passedOver := 0, replay := replay }
      s.calls.entries) (s.onCalls fun q => { q with arrival := q.arrival + 1 })
    simp only [length_insertEntry, State.onCalls_calls] at h
    have same : (s.onCalls fun q => { q with arrival := q.arrival + 1 }).budget = s.budget := rfl
    omega

/-- A replay entry is one more in the queue, and its entry notice one more to be acted on. -/
theorem State.budget_enterReplay (st : StageId) (s : State) : (s.enterReplay st).budget ≤ s.budget + 2 := by
  unfold State.enterReplay
  rw [State.budget_give, State.budget_enterCall]
  have : (s.onStage st fun r => { r with state := .queued }).budget ≤ s.budget :=
    State.budget_onStage_le (by simp [Stage.stoppable])
  omega

/-- Feeding resolves WAITING entries, two for each raise of the budget, and keeps the mode. -/
theorem feedEntries_budget (position : Nat) (l : List RosterEntry) (s : State) :
    (feedEntries position l s).2.budget + 2 * ((feedEntries position l s).1.countP fun e => e.outcome == .waiting) ≤
        s.budget + 2 * (l.countP fun e => e.outcome == .waiting) ∧
      (feedEntries position l s).2.modes.mode = s.modes.mode ∧
      (feedEntries position l s).2.modes.roster = s.modes.roster := by
  induction l generalizing position s with
  | nil => simp [feedEntries]
  | cons e rest ih =>
    simp only [feedEntries]
    split
    · rename_i c
      have waiting : (e.outcome == RosterOutcome.waiting) = true := by simp [c.1]
      split
      · have h := ih (position + 1) ((s.onModes fun d => { d with fedCount := d.fedCount + 1 }).enterReplay e.stage)
        have r := State.budget_enterReplay e.stage (s.onModes fun d => { d with fedCount := d.fedCount + 1 })
        have same : (s.onModes fun d => { d with fedCount := d.fedCount + 1 }).budget = s.budget := rfl
        have keep : ∀ x : State, (x.enterReplay e.stage).modes = x.modes := by
          intro x
          simp only [State.enterReplay, State.enterCall]
          split <;> simp [State.give]
        rw [keep] at h
        simp only [List.countP_cons, waiting, if_true]
        simp only [show ((RosterOutcome.fed == RosterOutcome.waiting) = true) = False from by decide, if_false]
        exact ⟨by have := h.1; omega, h.2⟩
      · have h := ih (position + 1) (s.bump .rosterDropped)
        rw [State.budget_bump] at h
        simp only [List.countP_cons, waiting, if_true]
        simp only [show ((RosterOutcome.dropped == RosterOutcome.waiting) = true) = False from by decide, if_false]
        exact ⟨by have := h.1; omega, h.2⟩
    · have h := ih (position + 1) s
      simp only [List.countP_cons]
      exact ⟨by have := h.1; omega, h.2⟩

/-- Advancing the read position in REPLAY never raises the budget: the change to COORDINATING gives two notices. -/
theorem State.budget_advanceRead (s : State) (h : s.mode = .replay) : s.advanceRead.budget ≤ s.budget := by
  unfold State.advanceRead
  simp only
  split
  · simp only [State.setMode, Mode.admits, if_true, State.budget_give]
    have b : ((s.emptyRoster.onModes fun d => { d with mode := .coordinating }).formFallback).budget + 2 ≤ s.budget := by
      simp only [State.budget, State.mode] at h ⊢
      simp only [State.formFallback, State.emptyRoster, State.onModes, h, Mode.exitNotices]
      simp
    omega
  · exact State.budget_onModes _ s rfl (Nat.le_refl _)

/-- Feeding never raises the budget. -/
theorem State.budget_feed (s : State) : s.feed.budget ≤ s.budget := by
  unfold State.feed
  split
  · rename_i replay
    have h := feedEntries_budget 0 s.modes.roster s
    simp only
    refine Nat.le_trans (State.budget_advanceRead _ ?_) ?_
    · simpa [State.mode] using h.2.1.trans replay
    · have split : ∀ (x : State) (roster : List RosterEntry), x.modes.roster = s.modes.roster →
          (x.onModes fun d => { d with roster := roster }).budget +
              2 * (s.modes.roster.countP fun e => e.outcome == .waiting) =
            x.budget + 2 * (roster.countP fun e => e.outcome == .waiting) := by
        intro x roster hx
        simp only [State.budget, State.mode, State.onModes, hx]
        omega
      have := split (feedEntries 0 s.modes.roster s).2 (feedEntries 0 s.modes.roster s).1 h.2.2
      have := h.1
      omega
  · exact Nat.le_refl _

/-- A replay decline never raises the budget. -/
theorem State.budget_replayDeclined (st : StageId) (s : State) : (s.replayDeclined st).budget ≤ s.budget := by
  unfold State.replayDeclined
  split
  · refine Nat.le_trans (State.budget_feed _) ?_
    rw [State.budget_bump]
    exact State.budget_onModes _ s rfl (Nat.le_of_eq (markRoster_waiting st (by decide) (by decide) _))
  · exact Nat.le_refl _

/-! ### The pass -/

/-- A grant of a stage that is in the queue, or granted already, never raises the budget. -/
theorem State.budget_grantEntry {e : CallEntry} {s : State}
    (h : (∃ x ∈ s.calls.entries, x.stage = e.stage) ∨ (s.stage e.stage).state = .granted) :
    (s.grantEntry e).budget ≤ s.budget := by
  let a := s.onArbiter fun a => { a with tokenCounter := nextToken a.tokenCounter }
  let g := (a.removeCall e.stage).grantStage e.stage s.arbiter.tokenCounter e.replay
  have ga : g.budget ≤ s.budget := by
    have st := State.budget_onStage e.stage (fun r =>
      { r with state := .granted, token := some s.arbiter.tokenCounter,
               handshake := (a.removeCall e.stage).settingTime .confirmTimeout, rosterFlag := e.replay }) (a.removeCall e.stage)
    have le := Stage.stoppable_le ((a.removeCall e.stage).stage e.stage)
    have one : ∀ r : Stage, ({ r with
        state := .granted, token := some s.arbiter.tokenCounter,
        handshake := (a.removeCall e.stage).settingTime .confirmTimeout, rosterFlag := e.replay } : Stage).stoppable = 1 := by
      intro r; simp [Stage.stoppable]
    rw [one] at st
    have gb : g.budget + ((a.removeCall e.stage).stage e.stage).stoppable = (a.removeCall e.stage).budget + 1 := st
    have ab : a.budget = s.budget := rfl
    rcases h with h | h
    · have := State.budget_removeCall_lt (s := a) h
      omega
    · have := State.budget_removeCall_le e.stage a
      have same : ((a.removeCall e.stage).stage e.stage).stoppable = 1 := by
        have : (a.removeCall e.stage).stage e.stage = s.stage e.stage := by
          simp [State.stage, State.removeCall, State.clearMarkerOf, a]
        rw [this]; simp [Stage.stoppable, h]
      omega
  have m : (if e.replay then g.markRemoved e.stage true else g).budget ≤ s.budget := by
    split
    · exact Nat.le_trans (State.budget_markRemoved _ _ _) ga
    · exact ga
  unfold State.grantEntry
  simp only [State.budget_enqueue, State.budget_bump]
  split
  · rw [State.budget_bump, State.budget_onArbiter]; exact m
  · exact m

/-- A grant changes the stage table by the grant alone and the call queue by the removal alone. -/
theorem State.grantEntry_stages_calls (e : CallEntry) (s : State) :
    (s.grantEntry e).stages = ((s.removeCall e.stage).grantStage e.stage s.arbiter.tokenCounter e.replay).stages ∧
      (s.grantEntry e).calls = (s.removeCall e.stage).calls := by
  have m : ∀ (g : Bool) (x : State), (x.markRemoved e.stage g).stages = x.stages ∧
      (x.markRemoved e.stage g).calls = x.calls := by
    intro g x; unfold State.markRemoved; split <;> exact ⟨rfl, rfl⟩
  have r : ∀ f : Arbiter → Arbiter, ((s.onArbiter f).removeCall e.stage).calls = (s.removeCall e.stage).calls ∧
      ((s.onArbiter f).removeCall e.stage).stages = (s.removeCall e.stage).stages ∧
      ((s.onArbiter f).removeCall e.stage).store = (s.removeCall e.stage).store := by
    intro f; simp [State.removeCall, State.clearMarkerOf, State.setEntries_calls]; rfl
  simp only [State.grantEntry, State.enqueue, State.onLink_stages, State.onLink_calls, State.bump_stages, State.bump_calls]
  split <;> split <;>
    simp only [State.bump_stages, State.bump_calls, State.onArbiter_stages, State.onArbiter_calls, m, State.grantStage,
      State.onStage, State.onStages_stages, State.onStages_calls, State.settingTime, State.setting, r, and_self]

/-- The entries of the call queue after a grant. -/
theorem State.grantEntry_calls (e : CallEntry) (s : State) :
    (s.grantEntry e).calls.entries = s.calls.entries.filter fun x => x.stage != e.stage := by
  rw [(State.grantEntry_stages_calls e s).2, State.removeCall_entries]

/-- What a grant does to the states of the stages: the granted stage is GRANTED and every other is as it was. -/
theorem State.grantEntry_state (e : CallEntry) (s : State) (st : StageId) :
    ((s.grantEntry e).stage st).state = if st = e.stage then .granted else (s.stage st).state := by
  have r : (s.removeCall e.stage).stages = s.stages := by simp [State.removeCall, State.clearMarkerOf]
  rw [State.stage, (State.grantEntry_stages_calls e s).1, ← State.stage, State.grantStage]
  split
  · rename_i same; subst same
    rw [State.stage_onStage_self]
  · rename_i other
    rw [State.stage_onStage_other _ _ other, State.stage, r, ← State.stage]

/-- A walk over entries that are in the queue, or whose stages are granted already, never raises the budget. -/
theorem walkEntries_budget (onEvaluation : Bool) (guardBand holdBack : Nat) (entries : List CallEntry) (w : Walk)
    (h : ∀ e ∈ entries, (∃ x ∈ w.state.calls.entries, x.stage = e.stage) ∨ (w.state.stage e.stage).state = .granted) :
    (walkEntries onEvaluation guardBand holdBack entries w).state.budget ≤ w.state.budget := by
  induction entries generalizing w with
  | nil => exact Nat.le_refl _
  | cons e rest ih =>
    have hr : ∀ e' ∈ rest, (∃ x ∈ w.state.calls.entries, x.stage = e'.stage) ∨ (w.state.stage e'.stage).state = .granted :=
      fun e' m => h e' (List.mem_cons_of_mem _ m)
    simp only [walkEntries]
    split
    · exact Nat.le_refl _
    split
    · exact ih w hr
    · split
      · refine Nat.le_trans (ih _ ?_) (State.budget_grantEntry (h e (by simp)))
        intro e' m
        simp only [State.grantEntry_calls, State.grantEntry_state]
        by_cases same : e'.stage = e.stage
        · exact .inr (by simp [same])
        · rcases hr e' m with ⟨x, mem, hx⟩ | granted
          · exact .inl ⟨x, by simp [mem, hx, same], hx⟩
          · exact .inr (by simp [same, granted])
      · split
        · exact Nat.le_refl _
        · exact ih _ hr

/-- Naming entries leaves their number. -/
@[simp] theorem length_nameEntries (named : List StageId) (entries : List CallEntry) :
    (nameEntries named entries).length = entries.length := by simp [nameEntries]

/-- A pass cause never raises the budget. -/
theorem State.budget_passCause (cause : PassCause) (s : State) : (s.passCause cause).budget ≤ s.budget := by
  unfold State.passCause
  split
  · unfold State.makePass
    simp only
    have w := walkEntries_budget (cause == .evaluation) (s.setting .guardBand) (s.setting .holdBackTime) s.calls.entries
      { state := s, headroom := s.headroom, grants := 0, named := [], blocking := none, replayGranted := false }
      (fun e m => .inl ⟨e, m, rfl⟩)
    have named : ∀ (x : State) (l : List StageId),
        (x.onCalls fun q => { q with entries := nameEntries l q.entries }).budget = x.budget := by
      intro x l
      simp [State.budget, State.onCalls, State.mode]
    split
    · refine Nat.le_trans (State.budget_feed _) ?_
      rw [State.budget_setMarker, named, State.budget_onArbiter]; exact w
    · rw [State.budget_setMarker, named, State.budget_onArbiter]; exact w
  · simp only
    split <;> simp

/-! ### The shed check -/

/-- A withdrawal of a GRANTED stage gives its notice for the stage. -/
theorem State.budget_withdrawPermit {st : StageId} {s : State} (h : (s.stage st).state = .granted) :
    (s.withdrawPermit st).budget ≤ s.budget := by
  unfold State.withdrawPermit
  simp only [State.budget_give]
  have b := State.budget_onStage st (fun r =>
    Stage.copyPending (s.store.profile st)
      { r with state := .idle, run := 0, handshake := 0, withdrawn := r.token, token := none,
               window := s.settingTime .confirmTimeout, withdrawnByReplay := r.rosterFlag, rosterFlag := false }) s
  have zero : ∀ r : Stage, (Stage.copyPending (s.store.profile st)
      { r with state := .idle, run := 0, handshake := 0, withdrawn := r.token, token := none,
               window := s.settingTime .confirmTimeout, withdrawnByReplay := r.rosterFlag, rosterFlag := false }).stoppable = 0 := by
    intro r; simp only [Stage.copyPending]; split <;> simp [Stage.stoppable]
  have one : (s.stage st).stoppable = 1 := by simp [Stage.stoppable, h]
  rw [zero, one] at b
  split
  · refine Nat.le_trans (Nat.add_le_add_right (State.budget_replayDeclined _ _) 1) ?_
    omega
  · omega

/-- A revoke for a shed never raises the budget. -/
theorem State.budget_shedRevoke (st : StageId) (reason : StopReason) (counter : Counter) (s : State) :
    (s.shedRevoke st reason counter).1.budget ≤ s.budget := by
  unfold State.shedRevoke State.revoke
  by_cases room : s.stopRoom = true
  · by_cases granted : (s.stage st).state = .granted
    · simpa [room, granted] using State.budget_withdrawPermit granted
    · simp [room, granted]
  · simp [room]

/-- A stop for a shed never raises the budget. -/
theorem State.budget_shedStop (st : StageId) (reason : StopReason) (counter : Counter) (s : State) :
    (s.shedStop st reason counter).1.budget ≤ s.budget := by
  unfold State.shedStop State.stopStage
  by_cases room : s.stopRoom = true
  · by_cases settled : (s.stage st).settled = true
    · have b := State.budget_onStage st (fun r =>
        { r with state := .stopping, handshake := s.settingTime .stopTimeout, stopReason := some reason }) s
      have zero : ∀ r : Stage, ({ r with
          state := .stopping, handshake := s.settingTime .stopTimeout, stopReason := some reason } : Stage).stoppable = 0 := by
        intro r; simp [Stage.stoppable]
      have one : (s.stage st).stoppable = 1 := by
        simp only [Stage.settled, Bool.and_eq_true, beq_iff_eq] at settled
        simp [Stage.stoppable, settled.1]
      rw [zero, one] at b
      simp only [room, settled, if_true, State.budget_placeStop, State.budget_bump, State.budget_give]
      omega
    · simp [room, settled]
  · simp [room]

/-- The order stops never raise the budget. -/
theorem State.budget_shedOrders (s : State) : s.shedOrders.budget ≤ s.budget := by
  unfold State.shedOrders
  generalize s.stages.runOrder = l
  induction l generalizing s with
  | nil => exact Nat.le_refl _
  | cons st rest ih =>
    refine Nat.le_trans (ih _) ?_
    unfold State.orderStop
    split
    · split
      · exact State.budget_shedRevoke _ _ _ _
      · split
        · exact State.budget_shedStop _ _ _ _
        · exact Nat.le_refl _
      all_goals exact Nat.le_refl _
    · exact Nat.le_refl _

/-- The demand shed never raises the budget. -/
theorem State.budget_demandShed (s : State) : s.demandShed.1.budget ≤ s.budget := by
  unfold State.demandShed
  split
  · exact Nat.le_refl _
  · have keep : ∀ (x : State) (sent : Bool), (if sent then x.clearPersistence else x).budget = x.budget := by
      intro x sent; split <;> rfl
    simp only [keep]
    split
    · exact State.budget_shedRevoke _ _ _ _
    · split
      · exact State.budget_shedStop _ _ _ _
      · exact Nat.le_of_eq rfl

/-- The displacement shed never raises the budget. -/
theorem State.budget_displacementShed (s : State) : s.displacementShed.budget ≤ s.budget := by
  unfold State.displacementShed
  split
  · exact Nat.le_refl _
  · split
    · split
      · exact Nat.le_refl _
      · simp only
        split
        · rw [State.budget_onShed]; exact State.budget_shedStop _ _ _ _
        · exact State.budget_shedStop _ _ _ _
    · exact Nat.le_refl _

/-- A shed check cause never raises the budget. -/
theorem State.budget_checkCause (s : State) : s.checkCause.budget ≤ s.budget := by
  unfold State.checkCause
  split
  · simp only
    have d := Nat.le_trans (State.budget_demandShed _) (State.budget_shedOrders s)
    split
    · exact d
    · exact Nat.le_trans (State.budget_displacementShed _) d
  · exact Nat.le_refl _

/-- Ageing leaves the budget. -/
theorem State.budget_ageCalls (s : State) : s.ageCalls.budget = s.budget := by
  unfold State.ageCalls
  simp only [State.budget_bumpTimes]
  simp [State.budget, State.onCalls, State.mode]

/-- Acting on a notice never raises the budget, so a drain from the budget acts on every notice. -/
theorem State.budget_act (c : Cause) (s : State) : (State.act c s).budget ≤ s.budget := by
  cases c with
  | ageing => exact Nat.le_of_eq (State.budget_ageCalls s)
  | pass cause => exact State.budget_passCause cause s
  | check cause => exact State.budget_checkCause s

/-- From the budget on, the number that bounds a drain changes nothing. -/
theorem State.drainWith_enough (choose : Nat → Nat) (fuel : Nat) (s : State) (h : s.budget ≤ fuel) :
    State.drainWith choose fuel s = State.drainWith choose s.budget s := by
  suffices same : ∀ (m n : Nat) (s : State), s.budget ≤ m → s.budget ≤ n →
      State.drainWith choose m s = State.drainWith choose n s from same _ _ s h (Nat.le_refl _)
  intro m
  induction m with
  | zero =>
    intro n s hm _
    have none : s.causes = [] := List.length_eq_zero_iff.mp (by simp only [State.budget] at hm; omega)
    rw [State.drainWith_none choose 0 s none, State.drainWith_none choose n s none]
  | succ m ih =>
    intro n s hm hn
    cases given : s.causes with
    | nil => rw [State.drainWith_none choose _ s given, State.drainWith_none choose n s given]
    | cons first others =>
      cases n with
      | zero => simp only [State.budget, given, List.length_cons] at hn; omega
      | succ n =>
        simp only [State.drainWith, given]
        have lower : ∀ (i d : Nat), i < (first :: others).length →
            ({ s with causes := (first :: others).eraseIdx i, drawn := d } : State).budget + 1 = s.budget := by
          intro i d hi
          have short : ((first :: others).eraseIdx i).length + 1 = (first :: others).length := by
            rw [List.length_eraseIdx, if_pos hi]; simp
          simp only [State.budget, State.mode, given]
          omega
        have index : ∀ b : Bool, (if b then choose s.drawn % (others.length + 1) else 0) < (first :: others).length := by
          intro b
          have := Nat.mod_lt (choose s.drawn) (Nat.succ_pos others.length)
          simp only [List.length_cons]
          split <;> omega
        have drop := fun d => lower _ d (index (s.orderSeen first others))
        apply ih
        · refine Nat.le_trans (State.budget_act _ _) ?_
          have := drop (if s.orderSeen first others then s.drawn + 1 else s.drawn); omega
        · refine Nat.le_trans (State.budget_act _ _) ?_
          have := drop (if s.orderSeen first others then s.drawn + 1 else s.drawn); omega

end Sys2Proof.Machine
end

