-- ==== Sys2Proof/Laws/Link.lean ====
section
/-! SUPPORT. Laws/Link.lean: what placing a notice or a STOP does to the notice queue and the stop slot (R161, R109). -/

namespace Sys2Proof.Machine

/-- A notice put in the queue joins its end; the stop slot and the failures count stay. -/
@[simp] theorem State.enqueue_link (n : Notice) (s : State) :
    (s.enqueue n).link.queue = s.link.queue ++ [n] ∧ (s.enqueue n).link.stopSlot = s.link.stopSlot ∧
      (s.enqueue n).link.failures = s.link.failures ∧ (s.enqueue n).link.state = s.link.state ∧
      (s.enqueue n).link.offBusTimer = s.link.offBusTimer ∧ (s.enqueue n).link.beaconTimer = s.link.beaconTimer := by
  and_intros <;> rfl

/-- A notice is placed while the queue holds fewer than 24 (R161). -/
theorem State.place_room (n : Notice) (s : State) (h : s.link.queue.length < 24) : s.place n = s.enqueue n := by
  simp [State.place, State.noticeRoom, noticeCapacity, h]

/-- A notice that finds the queue full is dropped and counted (R161). -/
theorem State.place_full (n : Notice) (s : State) (h : 24 ≤ s.link.queue.length) :
    s.place n = s.bump .noticesDropped := by
  simp [State.place, State.noticeRoom, noticeCapacity, Nat.not_lt.mpr h]

/-- Placing a notice never lengthens the queue past 24 (R161). -/
theorem State.place_length (n : Notice) (s : State) (h : s.link.queue.length ≤ 24) : (s.place n).link.queue.length ≤ 24 := by
  by_cases room : s.link.queue.length < 24
  · simp [State.place_room _ _ room]; omega
  · simpa [State.place_full _ _ (Nat.not_lt.mp room)] using h

/-- A STOP goes into the stop slot when it is empty, and otherwise to the end of the queue (R109). -/
theorem State.placeStop_link (f : StopFrame) (s : State) :
    (s.placeStop f).link.stopSlot = some (s.link.stopSlot.getD f) ∧
      (s.placeStop f).link.queue = if s.link.stopSlot.isNone then s.link.queue else s.link.queue ++ [.stop f] := by
  unfold State.placeStop
  cases h : s.link.stopSlot <;> simp [h]

/-- With room for a STOP, placing it keeps the queue within 24 (R109). -/
theorem State.placeStop_length (f : StopFrame) (s : State) (room : s.stopRoom = true) (h : s.link.queue.length ≤ 24) :
    (s.placeStop f).link.queue.length ≤ 24 := by
  rw [(State.placeStop_link f s).2]
  split
  · exact h
  · rename_i full
    have : s.link.queue.length < 24 := by
      simp only [State.stopRoom, State.noticeRoom, noticeCapacity, full, Bool.false_or] at room
      exact of_decide_eq_true room
    simp; omega

end Sys2Proof.Machine
end

