-- ==== Sys2Proof/Laws/PerInstr.lean ====
section
/-! SUPPORT. Laws/PerInstr.lean: for each command, that the frame which carries it, if any, is one classic CAN can put on the
wire when the command is well formed. -/

namespace Sys2Proof.Laws

/-- A frame made of a kind code and a node fits the wire when both are in range and the data has at most eight bytes. -/
theorem dataFrame_wellFormed (kind node : Nat) (d : List Byte) (hk : kind < 31) (hn : node < 64) (hd : fitsFrame d = true) :
    (dataFrame kind node d).wellFormed = true := by
  simp only [Frame.wellFormed, dataFrame, Bool.and_eq_true, Bool.not_false, Bool.true_or, and_true]
  exact ⟨hd, by simp; omega⟩

/-- A unit's frame fits the wire. -/
theorem unitFrame_wellFormed (kind : Nat) (u : UnitId) (d : List Byte) (hk : kind < 31) (hd : fitsFrame d = true) :
    (unitFrame kind u d).wellFormed = true := dataFrame_wellFormed _ _ _ hk (by omega) hd

/-- A gateway frame fits the wire. -/
theorem gatewayFrame_wellFormed (kind : Nat) (d : List Byte) (hk : kind < 31) (hd : fitsFrame d = true) :
    (gatewayFrame kind d).wellFormed = true := dataFrame_wellFormed _ _ _ hk (by omega) hd

namespace FrameFits

/-- The frame that carries a well-formed command is one classic CAN can put on the wire. -/
def Statement (i : Instr) : Prop := i.wellFormed = true → ∀ f, i.toFrame = some f → f.wellFormed = true

theorem call (u : UnitId) (data : List Byte) : Statement (.call u data) := by
  rintro h f ⟨⟩; exact unitFrame_wellFormed _ _ _ (by decide) h

theorem withdraw (u : UnitId) (data : List Byte) : Statement (.withdraw u data) := by
  rintro h f ⟨⟩; exact unitFrame_wellFormed _ _ _ (by decide) h

theorem started (u : UnitId) (data : List Byte) : Statement (.started u data) := by
  rintro h f ⟨⟩; exact unitFrame_wellFormed _ _ _ (by decide) h

theorem stopped (u : UnitId) (data : List Byte) : Statement (.stopped u data) := by
  rintro h f ⟨⟩; exact unitFrame_wellFormed _ _ _ (by decide) h

theorem trip (u : UnitId) (data : List Byte) : Statement (.trip u data) := by
  rintro h f ⟨⟩; exact unitFrame_wellFormed _ _ _ (by decide) h

theorem tripReset (u : UnitId) (data : List Byte) : Statement (.tripReset u data) := by
  rintro h f ⟨⟩; exact unitFrame_wellFormed _ _ _ (by decide) h

theorem unitBeacon (u : UnitId) (data : List Byte) : Statement (.unitBeacon u data) := by
  rintro h f ⟨⟩; exact unitFrame_wellFormed _ _ _ (by decide) h

theorem foreignFrame (frame : Frame) : Statement (.foreignFrame frame) := by
  rintro h f ⟨⟩; exact (Bool.and_eq_true_iff.mp h).1

theorem setCeiling (data : List Byte) : Statement (.setCeiling data) := by
  rintro h f ⟨⟩; exact gatewayFrame_wellFormed _ _ (by decide) h

theorem setCurtail (data : List Byte) : Statement (.setCurtail data) := by
  rintro h f ⟨⟩; exact gatewayFrame_wellFormed _ _ (by decide) h

theorem shedOrder (data : List Byte) : Statement (.shedOrder data) := by
  rintro h f ⟨⟩; exact gatewayFrame_wellFormed _ _ (by decide) h

theorem writeStageElectrical (data : List Byte) : Statement (.writeStageElectrical data) := by
  rintro h f ⟨⟩; exact gatewayFrame_wellFormed _ _ (by decide) h

theorem writeStageTiming (data : List Byte) : Statement (.writeStageTiming data) := by
  rintro h f ⟨⟩; exact gatewayFrame_wellFormed _ _ (by decide) h

theorem writeUnitGroup (data : List Byte) : Statement (.writeUnitGroup data) := by
  rintro h f ⟨⟩; exact gatewayFrame_wellFormed _ _ (by decide) h

theorem writeSetting (data : List Byte) : Statement (.writeSetting data) := by
  rintro h f ⟨⟩; exact gatewayFrame_wellFormed _ _ (by decide) h

theorem lockProfiles (data : List Byte) : Statement (.lockProfiles data) := by
  rintro h f ⟨⟩; exact gatewayFrame_wellFormed _ _ (by decide) h

theorem eraseProfiles (data : List Byte) : Statement (.eraseProfiles data) := by
  rintro h f ⟨⟩; exact gatewayFrame_wellFormed _ _ (by decide) h

theorem clearUnit (data : List Byte) : Statement (.clearUnit data) := by
  rintro h f ⟨⟩; exact gatewayFrame_wellFormed _ _ (by decide) h

theorem flushCalls (data : List Byte) : Statement (.flushCalls data) := by
  rintro h f ⟨⟩; exact gatewayFrame_wellFormed _ _ (by decide) h

theorem querySite (data : List Byte) : Statement (.querySite data) := by
  rintro h f ⟨⟩; exact gatewayFrame_wellFormed _ _ (by decide) (Bool.and_eq_true_iff.mp h).1

theorem queryStage (data : List Byte) : Statement (.queryStage data) := by
  rintro h f ⟨⟩; exact gatewayFrame_wellFormed _ _ (by decide) (Bool.and_eq_true_iff.mp h).1

theorem queryUnit (data : List Byte) : Statement (.queryUnit data) := by
  rintro h f ⟨⟩; exact gatewayFrame_wellFormed _ _ (by decide) (Bool.and_eq_true_iff.mp h).1

theorem queryQueue (data : List Byte) : Statement (.queryQueue data) := by
  rintro h f ⟨⟩; exact gatewayFrame_wellFormed _ _ (by decide) (Bool.and_eq_true_iff.mp h).1

theorem queryOrder (data : List Byte) : Statement (.queryOrder data) := by
  rintro h f ⟨⟩; exact gatewayFrame_wellFormed _ _ (by decide) (Bool.and_eq_true_iff.mp h).1

theorem queryRoster (data : List Byte) : Statement (.queryRoster data) := by
  rintro h f ⟨⟩; exact gatewayFrame_wellFormed _ _ (by decide) (Bool.and_eq_true_iff.mp h).1

theorem queryCounter (data : List Byte) : Statement (.queryCounter data) := by
  rintro h f ⟨⟩; exact gatewayFrame_wellFormed _ _ (by decide) (Bool.and_eq_true_iff.mp h).1

theorem queryDigest (data : List Byte) : Statement (.queryDigest data) := by
  rintro h f ⟨⟩; exact gatewayFrame_wellFormed _ _ (by decide) (Bool.and_eq_true_iff.mp h).1

theorem queryIdentity (data : List Byte) : Statement (.queryIdentity data) := by
  rintro h f ⟨⟩; exact gatewayFrame_wellFormed _ _ (by decide) (Bool.and_eq_true_iff.mp h).1

theorem queryTripCollect (data : List Byte) : Statement (.queryTripCollect data) := by
  rintro h f ⟨⟩; exact gatewayFrame_wellFormed _ _ (by decide) (Bool.and_eq_true_iff.mp h).1

theorem frameTransmission (source : TxSource) (outcome : TxOutcome) : Statement (.frameTransmission source outcome) := by
  rintro _ f ⟨⟩

theorem offBusTimerExpiry : Statement (.offBusTimerExpiry) := by
  rintro _ f ⟨⟩

theorem siteBeaconTimerExpiry : Statement (.siteBeaconTimerExpiry) := by
  rintro _ f ⟨⟩

theorem evaluation : Statement (.evaluation) := by
  rintro _ f ⟨⟩

theorem rateWindowExpiry : Statement (.rateWindowExpiry) := by
  rintro _ f ⟨⟩

theorem silenceTimerExpiry : Statement (.silenceTimerExpiry) := by
  rintro _ f ⟨⟩

theorem supervisionTimerExpiry : Statement (.supervisionTimerExpiry) := by
  rintro _ f ⟨⟩

theorem restTimerExpiry (st : StageId) : Statement (.restTimerExpiry st) := by
  rintro _ f ⟨⟩

theorem runTimerExpiry (st : StageId) : Statement (.runTimerExpiry st) := by
  rintro _ f ⟨⟩

theorem confirmTimeout (st : StageId) : Statement (.confirmTimeout st) := by
  rintro _ f ⟨⟩

theorem stopTimeout (st : StageId) : Statement (.stopTimeout st) := by
  rintro _ f ⟨⟩

theorem windowTimerExpiry (st : StageId) : Statement (.windowTimerExpiry st) := by
  rintro _ f ⟨⟩

theorem windowGuardExpiry (u : UnitId) : Statement (.windowGuardExpiry u) := by
  rintro _ f ⟨⟩

theorem missedWindow (u : UnitId) : Statement (.missedWindow u) := by
  rintro _ f ⟨⟩

theorem startSlotExpiry : Statement (.startSlotExpiry) := by
  rintro _ f ⟨⟩

theorem orderTimerExpiry (number : Byte) : Statement (.orderTimerExpiry number) := by
  rintro _ f ⟨⟩

theorem displacementHoldOffExpiry : Statement (.displacementHoldOffExpiry) := by
  rintro _ f ⟨⟩

theorem joinTimerExpiry : Statement (.joinTimerExpiry) := by
  rintro _ f ⟨⟩

theorem settleTimerExpiry : Statement (.settleTimerExpiry) := by
  rintro _ f ⟨⟩

theorem debouncePinChange (line : DebouncedLine) (asserted : Bool) : Statement (.debouncePinChange line asserted) := by
  rintro _ f ⟨⟩

theorem pulseAssertionEdge : Statement (.pulseAssertionEdge) := by
  rintro _ f ⟨⟩

theorem pulseMinimumWidthReached : Statement (.pulseMinimumWidthReached) := by
  rintro _ f ⟨⟩

theorem pulseMaximumWidthReached : Statement (.pulseMaximumWidthReached) := by
  rintro _ f ⟨⟩

theorem pulseReleaseEdge : Statement (.pulseReleaseEdge) := by
  rintro _ f ⟨⟩

theorem markAssertionEdge : Statement (.markAssertionEdge) := by
  rintro _ f ⟨⟩

theorem markReleaseEdge : Statement (.markReleaseEdge) := by
  rintro _ f ⟨⟩

theorem markQualified : Statement (.markQualified) := by
  rintro _ f ⟨⟩

theorem curtailCodeChange (code : Fin 4) : Statement (.curtailCodeChange code) := by
  rintro _ f ⟨⟩

theorem curtailStabilityExpiry : Statement (.curtailStabilityExpiry) := by
  rintro _ f ⟨⟩

theorem powerFailPinChange (asserted : Bool) : Statement (.powerFailPinChange asserted) := by
  rintro _ f ⟨⟩

theorem powerFailQualificationExpiry : Statement (.powerFailQualificationExpiry) := by
  rintro _ f ⟨⟩

theorem writeCompletion : Statement (.writeCompletion) := by
  rintro _ f ⟨⟩

theorem eraseCompletion : Statement (.eraseCompletion) := by
  rintro _ f ⟨⟩

theorem powerOnReset : Statement (.powerOnReset) := by
  rintro _ f ⟨⟩

theorem resetLine (insideCompletion : Bool) : Statement (.resetLine insideCompletion) := by
  rintro _ f ⟨⟩

theorem supplyLoss (insideCompletion : Bool) : Statement (.supplyLoss insideCompletion) := by
  rintro _ f ⟨⟩

end FrameFits
end Sys2Proof.Laws
end

