-- ==== Sys2Proof/Tests/Slice0.lean ====
section
/-! SUPPORT. Tests/Slice0.lean: the checks of WellFormed, frames written out from R157 and R158, figures of the manual's worked
examples, and for each obligation with hypotheses a witness that meets them. -/

namespace Sys2Proof.Tests

set_option Elab.async false

open Sys2Proof.Machine

/-! ### A small roof -/

/-- A stage by its unit's place and its slot. -/
def sid (u : UnitId) (k : Slot) : StageId := { unit := u, slot := k }

/-- A profile in use. -/
def prof (kind : Kind) (load cls : Nat) : Profile :=
  { kind := kind, load := load, surge := false, shedClass := cls, lead := none, minOn := 180, minOff := 300 }

/-- A stage at rest with a profile, in a state. -/
def rec0 (p : Profile) (state : StageState) : Stage := { Stage.afterReset p with state := state, rest := 0 }

/-- The profiles of the small roof: four units of four stages. -/
def roofProfiles : Vector Profile 96 :=
  (((((((((((erasedStore.profiles.set 0 (prof .cool 600 3)).set 1 (prof .cool 100 1)).set 2 (prof .fan 1 2)).set 3
    (prof .heatElec 50 2)).set 4 (prof .cool 20 3)).set 5 (prof .cool 25 2)).set 6 (prof .cool 30 2)).set 7
      (prof .fan 10 2)).set 8 (prof .fan 40 2)).set 12 (prof .fan 5 1)).set 13 (prof .heatGas 60 2))

/-- A store with those profiles and its digest. -/
def roofStore : Store :=
  let store := { erasedStore with profiles := roofProfiles }
  { store with digest := store.contentsDigest, recomputed := store.contentsDigest }

/-- Unit 1 has a settled RUNNING stage, a QUEUED one, a GRANTED one and an IDLE one with a withdrawn token; unit 2 a STOPPING, a
TRIPPED, an unsettled RUNNING and a QUEUED one; unit 3 a HELD one; unit 4 an IDLE one, a QUEUED one with a withdrawn token, and
one of kind NONE with a withdrawn token. -/
def roofStages : StageTable :=
  let r := (StageTable.afterReset roofStore).records
  let r := mapTable (fun x => { x with rest := 0 }) r
  let r := r.set 0 { rec0 (prof .cool 600 3) .running with token := some 1 }
  let r := r.set 1 (rec0 (prof .cool 100 1) .queued)
  let r := r.set 2 { rec0 (prof .fan 1 2) .granted with token := some 255, handshake := 1 }
  let r := r.set 3 { rec0 (prof .heatElec 50 2) .idle with rest := 1, withdrawn := some 7, window := 1 }
  let r := r.set 4 { rec0 (prof .cool 20 3) .stopping with token := some 9, handshake := 1, stopReason := some .demand }
  let r := r.set 5 (rec0 (prof .cool 25 2) .tripped)
  let r := r.set 6 { rec0 (prof .cool 30 2) .running with run := 1 }
  let r := r.set 7 (rec0 (prof .fan 10 2) .queued)
  let r := r.set 8 { rec0 (prof .fan 40 2) .held with token := some 3 }
  let r := r.set 13 { rec0 (prof .heatGas 60 2) .queued with withdrawn := some 7, window := 1 }
  let r := r.set 14 { rec0 erasedProfile .idle with withdrawn := some 9, window := 1 }
  { records := r, cRun := 690, cPend := 1, runOrder := [sid 0 0, sid 1 0, sid 2 0, sid 0 2, sid 1 2] }

/-- A call entry of the small roof. -/
def entry (st : StageId) (cls stamp : Nat) (replay : Bool) : CallEntry :=
  { stage := st, cls := cls, stamp := stamp, waitAge := 0, passedOver := 0, replay := replay }

/-- The small roof: COORDINATING and ON_BUS; units 1 and 2 PRESENT, unit 2 one error short of the threshold, unit 3 ABSENT,
unit 5 AWAITING; every timer that runs at its last millisecond. -/
def roof : State :=
  let s := State.afterReset roofStore .atRest .powerOn 0 []
  let units := s.supervisor.records
  let units := units.set 0 { s.unit 0 with presence := .present, phase := .opened, window := 1, errors := 1 }
  let units := units.set 1 { s.unit 1 with presence := .present, phase := .guard, window := 1, errors := 3 }
  let units := units.set 2 { s.unit 2 with presence := .absent, errors := 4 }
  let units := units.set 4 { s.unit 4 with presence := .awaiting }
  { s with
    stages := roofStages
    calls := { entries := [entry (sid 0 1) 1 0 false, entry (sid 1 3) 2 1 false, entry (sid 3 1) 2 2 false], arrival := 3,
               congested := false }
    arbiter := { s.arbiter with tokenCounter := 255, pacing := 1, marker := some { stage := sid 0 1, load := 100 } }
    account := { s.account with supervision := .supervised, supervisionTimer := 1 }
    shed := { s.shed with
      orders := [{ number := 1, groupValue := 0, groupMask := 0, kindSet := 8, action := .hold, timer := 1 }], holdOff := 1 }
    supervisor := { s.supervisor with records := units }
    modes := { s.modes with mode := .coordinating, timer := 0, fallback := false } }

theorem roof_safe : roof.Safe := by
  constructor <;> decide +kernel

/-- The small roof in an ordered restart: the permit and one call are replays, and one stage waits. -/
def replaying : State :=
  let s := roof.onStage (sid 0 2) fun r => { r with rosterFlag := true }
  { s with
    calls := { s.calls with entries := [entry (sid 3 1) 0 2 true, entry (sid 0 1) 1 0 false, entry (sid 1 3) 2 1 false] }
    modes := { s.modes with
      mode := .replay, readPosition := 1, fedCount := 1
      roster := [{ stage := sid 0 2, outcome := .restored }, { stage := sid 3 1, outcome := .fed },
                 { stage := sid 0 3, outcome := .waiting }] } }

theorem replaying_safe : replaying.Safe := by
  constructor <;> decide +kernel

/-! ### WellFormed refuses what the bus cannot give -/

/-- Nine data bytes do not fit a classic frame, of a unit or of the gateway. -/
theorem test_nine_bytes_refused :
    (Instr.call 0 (List.replicate 9 0)).wellFormed = false ∧ (Instr.setCeiling (List.replicate 9 0)).wellFormed = false ∧
      (Instr.querySite (1 :: List.replicate 8 0)).wellFormed = false ∧ (Instr.call 0 (List.replicate 8 0)).wellFormed = true := by
  decide

/-- A QUERY row carries its own subject; subjects 2 and 10 belong to other rows than QUERY_SITE. -/
theorem test_subject_refused :
    (Instr.querySite [2, 0, 0]).wellFormed = false ∧ (Instr.querySite [10, 1, 0]).wellFormed = false ∧
      (Instr.querySite [11, 0, 0]).wellFormed = true ∧ (Instr.queryStage [3, 4, 0]).wellFormed = false ∧
      (Instr.queryUnit [2, 1, 0]).wellFormed = false ∧ (Instr.queryQueue [5, 0, 0]).wellFormed = false ∧
      (Instr.queryOrder [4, 0, 0]).wellFormed = false ∧ (Instr.queryRoster []).wellFormed = false ∧
      (Instr.queryCounter [8, 0, 0]).wellFormed = false ∧ (Instr.queryDigest [7, 0, 0]).wellFormed = false ∧
      (Instr.queryIdentity [10, 0, 0]).wellFormed = false ∧ (Instr.queryTripCollect [9, 1, 0]).wellFormed = false := by decide

/-- A foreign frame is foreign, fits the wire, and carries no data if it is a remote frame; order 0 has no timer. -/
theorem test_foreign_and_order_refused :
    (Instr.foreignFrame (unitFrame 6 0 [0])).wellFormed = false ∧
      (Instr.foreignFrame { remote := false, extended := false, identifier := 2048, data := [] }).wellFormed = false ∧
      (Instr.foreignFrame { remote := true, extended := false, identifier := 385, data := [0] }).wellFormed = false ∧
      (Instr.foreignFrame { remote := true, extended := false, identifier := 385, data := [] }).wellFormed = true ∧
      (Instr.orderTimerExpiry 0).wellFormed = false := by decide

/-! ### Frames written out from R157: five bits of kind code, six bits of node -/

/-- The frame of an 11-bit identifier. -/
def frameOf (identifier : Nat) (data : List Byte) : Frame :=
  { remote := false, extended := false, identifier := identifier, data := data }

/-- Units' frames: CALL from unit 1, TRIP from unit 24, STARTED from unit 2, UNIT BEACON from unit 16. -/
theorem test_unit_frames :
    Instr.ofFrame (frameOf 0b00110000001 [2]) = .call 0 [2] ∧
      Instr.ofFrame (frameOf 0b00001011000 [1, 5]) = .trip 23 [1, 5] ∧
      Instr.ofFrame (frameOf 0b00100000010 [3, 87]) = .started 1 [3, 87] ∧
      Instr.ofFrame (frameOf 0b01010010000 [15]) = .unitBeacon 15 [15] := by decide

/-- Gateway frames: SET CEILING, SHED ORDER, WRITE SETTING, FLUSH CALLS and QUERY of DIGEST, all from node 63. -/
theorem test_gateway_frames :
    Instr.ofFrame (frameOf 0b10000111111 [15, 160]) = .setCeiling [15, 160] ∧
      Instr.ofFrame (frameOf 0b10010111111 [7, 0, 0, 2, 2, 60]) = .shedOrder [7, 0, 0, 2, 2, 60] ∧
      Instr.ofFrame (frameOf 0b10110111111 [3, 1, 44]) = .writeSetting [3, 1, 44] ∧
      Instr.ofFrame (frameOf 0b11010111111 [0]) = .flushCalls [0] ∧
      Instr.ofFrame (frameOf 0b11011111111 [8, 0, 0]) = .queryDigest [8, 0, 0] := by decide

/-- A CALL from node 25 or 63, a SET CEILING from a unit, and a kind the part sends are foreign. -/
theorem test_foreign_frames :
    (frameOf 0b00110011001 [0]).taken = false ∧ (frameOf 0b00110111111 [0]).taken = false ∧
      (frameOf 0b10000000001 [0, 0]).taken = false ∧ (frameOf 0b00011000001 [0, 0, 0]).taken = false ∧
      (frameOf 0b00110011000 [0]).taken = true := by decide

/-! ### Figures of the manual -/

/-- A state the first event of a command leaves, for a look at its fields. -/
def after (c : Instr) (s : State) : State :=
  match exec c s with
  | .next t => t
  | .fault _ | .refused _ => s

/-- The digests of spec/10: 61252 erased, 59957 in the worked example, 59897 after its write, with the pending-profile flag. -/
theorem test_digest_example :
    let fan : Profile := { prof .fan 15 1 with minOn := 0, minOff := 60 }
    let cool : Profile := { prof .cool 120 2 with surge := true }
    let profiles := ((erasedStore.profiles.set 8 fan).set 9 cool).set 10 { cool with shedClass := 3, lead := some 1 }
    let store := { erasedStore with profiles := profiles, groups := erasedStore.groups.set 2 5 }
    let s := (roof.onStore fun _ => { store with
      digest := store.contentsDigest,
      flight := some { operation := .write (.timing (sid 2 1) 180 360), elapsed := 8, drawn := 0 } }).onStage (sid 2 1)
        fun r => { r with state := .running, working := cool }
    let t := after .writeCompletion s
    erasedStore.contentsDigest = 61252 ∧ store.contentsDigest = 59957 ∧ t.store.digest = 59897 ∧
      (t.stage (sid 2 1)).working.minOff = 300 ∧ (t.stage (sid 2 1)).pendingProfile = true := by decide +kernel

/-- The rate window of spec/02: 100 pulses of 360 hJ are 600; with C_run 450, U is 150, and with C_run 700 it is 0. -/
theorem test_rate_window_example :
    let s := roof.onAccount fun a => { a with windowEnergy := 36000, windowMetered := true }
    let t := after .rateWindowExpiry (s.onStages fun x => { x with cRun := 450 })
    let t' := after .rateWindowExpiry (s.onStages fun x => { x with cRun := 700 })
    t.account.measured = 600 ∧ t.account.uncontrolled = 150 ∧ t'.account.uncontrolled = 0 := by decide +kernel

/-- The curtailment of spec/06: K 4000 at 25 percent gives K_eff 3000, and with E low A 3000 and H -385. -/
theorem test_curtailment_example :
    let s := (roof.onAccount fun a => { a with ceiling := 4000, uncontrolled := 1300, elapsed := 100 }).onShed
      fun d => { d with lambda := 2 }
    let t := after .evaluation
      ((s.onStages fun x => { x with cRun := 1925, cPend := 160 }).onModes fun m => { m with mode := .halted })
    t.account.effectiveCeiling = 3000 ∧ t.account.allowance = 3000 ∧ t.headroom = -385 ∧ t.account.persistence = 1 := by
  decide +kernel

/-- The stuck pulse of spec/03: at 1000 ms a valid pulse and then a stuck report; the width timer is held, the state STUCK. -/
theorem test_stuck_example :
    let s := roof.onLines fun l => { l with pulse := { level := true, debounce := 0, state := .valid, width := 999 } }
    let t := after .pulseMaximumWidthReached s
    t.lines.pulse = { level := true, debounce := 0, state := .stuck, width := 1000 } ∧
      t.account.metering = .estimated .stuck ∧ t.account.energy = 360 ∧ t.counter .stuckReports = 1 := by decide +kernel

/-- The first entries of spec/05's pass: with A 3600, U 1500 and C_run 1800 a surge stage of 180 gets token 87, and one of 150
finds no slot. -/
theorem test_pass_example :
    let q := [entry (sid 0 1) 1 0 false, entry (sid 1 3) 2 1 false]
    let put := fun (st : StageId) (n : Nat) (s : State) =>
      s.onStage st fun r => { r with state := .queued, working := { prof .cool n 1 with surge := true } }
    let s := (put (sid 1 3) 150 (put (sid 0 1) 180 roof)).onCalls fun c => { c with entries := q }
    let s := (s.onStages fun x => { x with cRun := 1800, cPend := 0 }).onAccount
      fun a => { a with allowance := 3600, uncontrolled := 1500 }
    let t := State.makePass .evaluation (s.onArbiter fun a => { a with tokenCounter := 87, slotFlag := true })
    t.link.queue = [.permit (sid 0 1) 87 30] ∧ t.headroom = 120 ∧ t.arbiter.slotFlag = false ∧
      t.calls.entries.map CallEntry.stage = [sid 1 3] ∧ t.arbiter.lastPass.headroomAtStart = 300 ∧
      t.arbiter.lastPass.headroomAtEnd = 120 := by decide +kernel

/-- A pass whose first grant is the 20th notice leaves the next entry, which does not fit, untested and its age as it was; with
room for more it is named (R83, R85, R90). -/
theorem test_walk_ends_at_20 :
    let q := [entry (sid 0 1) 1 0 false, entry (sid 1 3) 1 1 false]
    let put := fun (st : StageId) (n : Nat) (s : State) =>
      s.onStage st fun r => { r with state := .queued, working := prof .cool n 1 }
    let s := (put (sid 1 3) 600 (put (sid 0 1) 10 roof)).onCalls fun c => { c with entries := q }
    let t := fun n : Nat => State.makePass .evaluation
      ((s.onLink fun l => { l with queue := List.replicate n (.answer 27 .ok []) }).onAccount fun a =>
        { a with allowance := 300 + a.uncontrolled + s.stages.cRun + s.stages.cPend })
    ((t 19).link.queue.length = 20 ∧ (t 19).calls.entries.map CallEntry.passedOver = [0]) ∧
      ((t 18).link.queue.length = 19 ∧ (t 18).calls.entries.map CallEntry.passedOver = [1]) := by decide +kernel

/-- The feeder of R150: of the WAITING entries in roster order, one is FED (its stage QUEUED at class 0), the one of a unit not
PRESENT is DROPPED and counted, and the read position stays at the first FED entry (R152). -/
theorem test_feed_in_order :
    let s := replaying.onModes fun d => { d with roster :=
      d.roster ++ [{ stage := sid 3 0, outcome := .waiting }] }
    let t := s.feed
    t.modes.roster.map RosterEntry.outcome = [.restored, .fed, .fed, .dropped] ∧ t.modes.fedCount = 2 ∧
      t.modes.readPosition = 1 ∧ (t.stage (sid 0 3)).state = .queued ∧ t.counter .rosterDropped = 1 ∧
      t.causes = [.pass .entry] ∧
      (t.calls.entries.filter CallEntry.replay).map CallEntry.stage = [sid 3 1, sid 0 3] := by decide +kernel

/-- The displacement of spec/06: with H 120 and the guard band 50, a head of 200 stops the settled stage of class 3. -/
theorem test_displacement_example :
    let s := (roof.onArbiter fun a => { a with marker := some { stage := sid 0 1, load := 200 } }).onShed
      fun d => { d with holdOff := 0, orders := [] }
    let t := (s.onAccount fun a => { a with allowance := 120, uncontrolled := 0 }).onStages fun x => { x with cRun := 0, cPend := 0 }
    (State.checkCause t).link.stopSlot = some { stage := sid 0 0, reason := .displace, token := 1 } ∧
      (State.checkCause t).shed.holdOff = 10000 := by decide +kernel

/-- The rejoin of spec/07: a beacon of bitmap 1 from an ABSENT unit resumes its HELD stage, settled. -/
theorem test_rejoin_example :
    let t := ((roof.onModes fun m => { m with mode := .halted }).reconcile 2 1).stage (sid 2 0)
    t.state = .running ∧ t.run = 0 ∧ t.token = some 3 := by decide +kernel

/-- The burst of spec/09: at 24 notices an ANSWER is dropped and counted. -/
theorem test_answer_dropped :
    let s := roof.onLink fun l => { l with queue := List.replicate 24 (.answer 27 .ok []) }
    (after (.queryIdentity [9, 0, 0]) s).link.queue.length = 24 ∧
      (after (.queryIdentity [9, 0, 0]) s).counter .noticesDropped = 1 ∧
      (after (.queryIdentity [9, 0, 0]) roof).link.queue = [.answer 27 .ok [0, 41, 28, 72, 1, 0]] := by decide +kernel

/-! ### The clock: a timer of n ms runs out in the n-th step on the empty queue (log entry 2) -/

/-- An evaluation timer of 2 ms is left at 1 by a step with nothing due; at 1 the step makes the evaluation and reloads it. -/
theorem test_evaluation_time :
    let s := fun t : Millis => State.reset.onAccount fun a => { a with evaluationTimer := t }
    let t := fun t : Millis => match step (s t) with | .next x => x.account | .fault _ | .refused _ => State.reset.account
    ((t 2).evaluationTimer = 1 ∧ (t 2).elapsed = 0) ∧ ((t 1).evaluationTimer = 1000 ∧ (t 1).elapsed = 1) := by
  decide +kernel

/-- A mark timer of 18 ms is not qualified by the next step, one of 19 ms is (R57: 20 ms). -/
theorem test_mark_time :
    let l := fun n : Millis => ({ level := true, debounce := 0, state := .timing, timer := n } : MarkLine)
    (l 18).ends 1 = false ∧ (l 18).tick.timer = 19 ∧ (l 19).ends 1 = true := by decide

/-- In the millisecond in which the width timer comes to a minimum of 20 ms, a completion that makes it 40 ms finds the timer at
20 and leaves the closure in TIMING, to be VALID when it comes to 40 (R56). -/
theorem test_width_change_time :
    let timing := fun n : Millis => (roof.onLines fun l =>
      { l with pulse := { level := true, debounce := 0, state := .timing, width := n } }).onStore fun x =>
        { x with flight := some { operation := .write (.setting .minimumWidthCode 2), elapsed := 6, drawn := 0 } }
    let s := after .writeCompletion (timing 19).advance
    let t := after .writeCompletion (timing 38).advance
    (timing 19).widthEnds 1 = true ∧ s.lines.pulse.width = 20 ∧ s.lines.pulse.state = .timing ∧ s.widthEnds 0 = false ∧
      t.lines.pulse.width = 39 ∧ t.widthEnds 1 = true ∧ t.advance.lines.pulse.width = 40 := by decide +kernel

/-- A write is not complete in its 6th millisecond and complete at the latest in its 9th (R169: 7 to 9 ms). -/
theorem test_write_time (item : StoreItem) (n : Nat) :
    Flight.ends { operation := .write item, elapsed := 5, drawn := n } 1 = false ∧
      Flight.ends { operation := .write item, elapsed := 8, drawn := n } 1 = true := by
  have extra : Config.writeExtra n % 3 < 3 := Nat.mod_lt _ (by decide)
  exact ⟨decide_eq_false (show ¬ 7 + Config.writeExtra n % 3 ≤ 6 by omega),
    decide_eq_true (show 7 + Config.writeExtra n % 3 ≤ 9 by omega)⟩

/-! ### Witnesses: states and operands that meet the hypotheses of the obligations, clause by clause -/

/-- The small roof with another mode. -/
def inMode (m : Mode) : State := roof.onModes fun d => { d with mode := m }

/-- The small roof with n notices waiting. -/
def waiting (n : Nat) : State := roof.onLink fun l => { l with queue := List.replicate n (.answer 27 .ok []) }

/-- The small roof with an operation in flight. -/
def flying (op : Operation) : State :=
  roof.onStore fun x => { x with flight := some { operation := op, elapsed := 0, drawn := 0 } }

/-- The small roof with a STOP in the stop slot. -/
def stopHeld (s : State) : State := s.onLink fun l => { l with stopSlot := some { stage := sid 1 0, reason := .demand, token := 9 } }

theorem roof_listening : roof.listening := by decide +kernel

theorem replaying_listening : replaying.listening := by decide +kernel

theorem witness_EveryCommandCompletes : roof.settledDown := roof_safe.settled

theorem witness_WithoutSupplyOrBus :
    ({ roof with supplied := false }).supplied = false ∧ Instr.evaluation ≠ .powerOnReset ∧
      (roof.onLink fun l => { l with state := .offBus }).powered ∧
      (roof.onLink fun l => { l with state := .offBus }).onBus = false ∧
      (Instr.call 23 [3]).toFrame = some (unitFrame 6 23 [3]) := by decide +kernel

theorem witness_FrameRoundTrip :
    (Instr.call 23 (List.replicate 8 255)).wellFormed = true ∧
      (Instr.call 23 (List.replicate 8 255)).toFrame = some (unitFrame 6 23 (List.replicate 8 255)) := by decide

theorem witness_ForeignFramesAreCounted : roof.listening ∧ (frameOf 409 [0]).taken = false :=
  ⟨roof_listening, by decide⟩

theorem witness_ResetFromStore :
    roof.supplied = true ∧ (flying .erase).supplied = true ∧ (flying .erase).store.flight.isSome = true := by decide +kernel

/-- A state in which every condition of Safety.lean holds, and a step of it: the premises of each of the invariants. -/
theorem witness_invariants :
    (∃ t, step { replaying with pending := [.evaluation] } = .next t) ∧
      State.Safe { replaying with pending := [.evaluation] } :=
  ⟨⟨_, rfl⟩, replaying_safe.1, replaying_safe.2, replaying_safe.3, replaying_safe.4, replaying_safe.5, replaying_safe.6,
    replaying_safe.7, replaying_safe.8, replaying_safe.9, replaying_safe.10, replaying_safe.11, replaying_safe.12,
    replaying_safe.13, replaying_safe.14⟩

theorem witness_NoticesArePlaced :
    (waiting 23).link.queue.length < 24 ∧ 24 ≤ (waiting 24).link.queue.length ∧ roof.link.stopSlot = none ∧
      (stopHeld roof).link.stopSlot ≠ none := by decide +kernel

/-- Each list of data is malformed for its kinds by a length or by one field just outside its range. -/
theorem witness_MalformedFramesAreAnswered :
    roof.listening ∧ (∀ d ∈ ([[], [4]] : List (List Byte)), d.length ≠ 1 ∨ 3 < (d.getD 0 0).toNat) ∧
      (∀ d ∈ ([[], [0], [4, 1]] : List (List Byte)), d.length ≠ 2 ∨ 3 < (d.getD 0 0).toNat) ∧
      (∀ d ∈ ([[1], [0, 1], [16, 1], [1, 0], [1, 8]] : List (List Byte)),
        d.length ≠ 2 ∨ (d.getD 0 0).toNat = 0 ∨ 15 < (d.getD 0 0).toNat ∨ (d.getD 1 0).toNat = 0 ∨ 7 < (d.getD 1 0).toNat) ∧
      (∀ d ∈ ([[], [0], [16]] : List (List Byte)), d.length ≠ 1 ∨ (d.getD 0 0).toNat = 0 ∨ 15 < (d.getD 0 0).toNat) ∧
      (∀ d ∈ ([[1], [0, 0, 0, 1, 1, 1], [1, 0, 0, 1, 0, 1], [1, 0, 0, 1, 3, 1], [1, 0, 0, 16, 1, 1], [1, 0, 0, 0, 1, 1]] :
          List (List Byte)),
        d.length ≠ 6 ∨ (d.getD 0 0).toNat = 0 ∨ ((d.getD 4 0).toNat ≠ 1 ∧ (d.getD 4 0).toNat ≠ 2) ∨ 15 < (d.getD 3 0).toNat ∨
          ((d.getD 3 0).toNat = 0 ∧ 0 < (d.getD 5 0).toNat)) ∧
      (∀ d ∈ ([[], [0, 0], [25, 0]] : List (List Byte)),
        d.length ≠ 2 ∨ (d.getD 0 0).toNat = 0 ∨ 24 < (d.getD 0 0).toNat) ∧
      (∀ d ∈ ([[0, 0, 0, 0, 1, 0, 1, 255], [25, 0, 0, 0, 1, 0, 1, 255], [1, 4, 0, 0, 1, 0, 1, 255], [1, 0, 5, 0, 1, 0, 1, 255],
          [1]] : List (List Byte)),
        d.length ≠ 8 ∨ (d.getD 0 0).toNat = 0 ∨ 24 < (d.getD 0 0).toNat ∨ 3 < (d.getD 1 0).toNat ∨ 4 < (d.getD 2 0).toNat) ∧
      (∀ d ∈ ([[2, 3, 0], [2, 100, 0], [2, 4, 4], [3, 4, 0], [2, 4]] : List (List Byte)),
        d.length ≠ 3 ∨ (d.getD 0 0).toNat ≠ 2 ∨ (d.getD 1 0).toNat < 4 ∨ 99 < (d.getD 1 0).toNat ∨ 3 < (d.getD 2 0).toNat) := by
  refine ⟨roof_listening, ?_⟩
  decide

theorem witness_CommandsAreTurnedAway :
    (inMode .halted).listening ∧ (inMode .halted).mode = .halted ∧ (26 : Byte).toNat = 26 ∧ 25 < (26 : Byte).toNat ∧
      (1 : Byte).toNat ≠ 0 ∧ (15 : Byte).toNat ≤ 15 ∧ (4 : Byte).toNat ≤ 4 ∧ 1 ≤ (25 : Byte).toNat ∧ (25 : Byte).toNat ≤ 25 := by
  decide +kernel

theorem witness_AbsentUnitsAreRefused :
    roof.listening ∧ (roof.unit 2).presence = .absent ∧ (8 : Byte).toNat ≤ 15 ∧ (8 : Byte).getLsbD 3 = true ∧
      (∀ j : Slot, j < 3 → (8 : Byte).getLsbD j.val = false) ∧ 1 ≤ (7 : Byte).toNat ∧ (7 : Byte).toNat ≤ 7 := by
  refine ⟨roof_listening, ?_⟩
  decide +kernel

/-- R104: in HALTED a SHED ORDER is answered HALTED with the one order held, and the table stays. -/
theorem test_halted_order_answer :
    let t := after (.shedOrder [2, 0, 0, 1, 1, 5]) (inMode .halted);
    t.link.queue = [.answer 18 .halted [1, 0, 0, 0, 0, 0]] ∧ t.shed = roof.shed := by decide +kernel

/-- The small roof with a full call queue, its entries standing for as many stages. -/
def fullCalls : State := roof.onCalls fun q => { q with entries := (List.range 32).map fun n => entry (sid 5 0) 1 n false }

theorem witness_CallsAreTaken :
    roof.listening ∧ (∀ u ∈ ([0, 1, 3] : List UnitId), (roof.unit u).presence ≠ .absent) ∧
      ((roof.stage (sid 3 2)).state = .idle ∧ (roof.stage (sid 3 2)).working.kind = .none) ∧
      ((fullCalls.stage (sid 0 3)).state = .idle ∧ (fullCalls.stage (sid 0 3)).working.kind ≠ .none ∧
        32 ≤ fullCalls.calls.entries.length ∧ fullCalls.listening) ∧
      (roof.stage (sid 0 1)).state = .queued ∧ (roof.stage (sid 0 2)).state = .granted ∧
      (roof.stage (sid 0 0)).state = .running ∧ (roof.stage (sid 1 0)).state = .stopping ∧
      (roof.stage (sid 1 1)).state = .tripped ∧
      ((roof.stage (sid 0 3)).state = .idle ∧ (roof.stage (sid 0 3)).working.kind ≠ .none ∧
        roof.calls.entries.length < 32 ∧ roof.calls.arrival < 4294967295) := by decide +kernel

/-- The last clause of CallsAreTaken: the arrival counter at the largest stamp. -/
theorem witness_CallsAreTaken_renumber :
    let s := roof.onCalls fun q => { q with arrival := 4294967295 }
    s.callsExact ∧ s.calls.arrival = 4294967295 ∧ (s.stage (sid 0 3)).state = .idle := by decide +kernel

theorem witness_WithdrawsAreTaken :
    (roof.callsExact ∧ roof.mode ≠ .replay ∧ (roof.stage (sid 0 1)).state = .queued) ∧
      (replaying.callsExact ∧ replaying.rosterExact ∧ replaying.mode = .replay ∧ replaying.listening ∧
        (replaying.stage (sid 3 1)).state = .queued ∧
        (∀ e ∈ replaying.calls.entries, e.stage = sid 3 1 → e.replay = true) ∧
        (∀ e ∈ replaying.calls.entries, e.stage = sid 0 1 → e.replay = false)) ∧
      ((roof.stage (sid 0 2)).state = .granted ∧ (roof.stage (sid 0 2)).rosterFlag = false) ∧
      ((replaying.stage (sid 0 2)).state = .granted ∧ (replaying.stage (sid 0 2)).rosterFlag = true ∧
        ({ stage := sid 0 2, outcome := .restored } : RosterEntry) ∈ replaying.modes.roster) ∧
      (roof.stage (sid 0 3)).state = .idle :=
  ⟨⟨roof_safe.calls, by decide +kernel⟩, ⟨replaying_safe.calls, replaying_safe.roster, by decide +kernel⟩,
    by decide +kernel, by decide +kernel, by decide +kernel⟩

theorem witness_StartsAreTaken :
    (roof.listening ∧ (roof.stage (sid 0 2)).state = .granted ∧ (roof.stage (sid 0 2)).token = some 255) ∧
      ((roof.stage (sid 1 0)).state = .stopping ∧ (roof.stage (sid 1 0)).token = some 9) ∧
      ((roof.stage (sid 0 3)).state = .idle ∧ (roof.stage (sid 0 3)).token ≠ some 7 ∧
        (roof.stage (sid 0 3)).withdrawn = some 7 ∧ 0 < (roof.stage (sid 0 3)).window ∧
        (roof.stage (sid 0 3)).working.kind ≠ .none) ∧
      ((roof.stage (sid 3 1)).state = .queued ∧ (roof.stage (sid 3 1)).token ≠ some 7 ∧
        (roof.stage (sid 3 1)).withdrawn = some 7 ∧ 0 < (roof.stage (sid 3 1)).window ∧
        (roof.stage (sid 3 1)).working.kind ≠ .none ∧ (roof.unit 3).presence ≠ .absent) ∧
      ((replaying.stage (sid 3 1)).withdrawn = some 7 ∧
        (∀ e ∈ replaying.calls.entries, e.stage = sid 3 1 → e.replay = true)) ∧
      ((roof.stage (sid 3 2)).withdrawn = some 9 ∧ 0 < (roof.stage (sid 3 2)).window ∧
        (roof.stage (sid 3 2)).working.kind = .none) ∧
      ((roof.stage (sid 0 2)).withdrawn ≠ some 1 ∧ (roof.stage (sid 0 2)).token ≠ some 1 ∧
        (roof.stage (sid 0 2)).withdrawnByReplay = false) ∧
      ((roof.onStage (sid 0 3) fun r => { r with withdrawnByReplay := true }).stage (sid 0 3)).withdrawnByReplay = true := by
  decide +kernel

theorem witness_StopsAreTaken :
    roof.listening ∧ (roof.stage (sid 0 0)).state = .running ∧ (roof.stage (sid 1 0)).state = .stopping ∧
      (roof.stage (sid 0 2)).state = .granted ∧ (roof.stage (sid 1 1)).state = .tripped ∧
      (roof.unit 0).presence ≠ .absent ∧ (roof.unit 1).presence ≠ .absent := by decide +kernel

theorem witness_TripsAreTaken :
    roof.listening ∧ roof.mode ≠ .replay ∧ (roof.unit 1).presence ≠ .absent ∧ 1 ≤ (1 : Byte).toNat ∧
      (15 : Byte).toNat ≤ 15 ∧ (7 : Byte).toNat ≤ 7 ∧ (3 : Byte).toNat ≤ 3 ∧ (15 : Byte).getLsbD 0 = true := by
  decide +kernel

/-- The REPLAY clause of TripsAreTaken: a TRIP that names the replay call's stage. -/
theorem witness_TripsAreTaken_replay :
    replaying.listening ∧ replaying.mode = .replay ∧ replaying.callsExact ∧ replaying.rosterExact ∧ replaying.markerExact ∧
      (replaying.unit 3).presence ≠ .absent ∧ (2 : Byte).getLsbD (sid 3 1).slot.val = true ∧
      entry (sid 3 1) 0 2 true ∈ replaying.calls.entries :=
  ⟨replaying_listening, by decide +kernel, replaying_safe.calls, replaying_safe.roster, replaying_safe.marker,
    by decide +kernel⟩

theorem witness_TrippedStagesAreCleared :
    roof.listening ∧ (roof.unit 1).presence ≠ .absent ∧ (0 : Byte).toNat = 0 ∧ (2 : Byte).toNat ≠ 0 ∧
      (2 : Byte).toNat ≤ 15 ∧ roof.mode ≠ .halted ∧ (roof.stage (sid 1 1)).state = .tripped := by decide +kernel

theorem witness_UnitsAreCleared : roof.listening ∧ roof.mode ≠ .halted ∧ (roof.stage (sid 2 0)).state = .held := by
  decide +kernel

theorem witness_BeaconsAreTaken :
    roof.listening ∧ (15 : Byte).toNat ≤ 15 ∧ ((roof.unit 3).presence = .unknown ∧ roof.mode ≠ .mainsOff) ∧
      (roof.unit 2).presence = .absent ∧
      ((inMode .settling).listening ∧ ((inMode .settling).unit 4).presence = .awaiting ∧ (inMode .settling).mode = .settling) ∧
      ((roof.unit 0).presence = .present ∧ (roof.unit 0).phase = .opened) ∧
      ((roof.unit 1).presence = .present ∧ (roof.unit 1).phase = .guard) ∧
      ((inMode .mainsOff).listening ∧ ((inMode .mainsOff).unit 4).presence = .awaiting ∧
        ((inMode .mainsOff).unit 3).presence = .unknown ∧ (inMode .mainsOff).mode = .mainsOff) := by decide +kernel

theorem witness_BeaconsAreReconciled :
    (replaying.listening ∧ replaying.mode = .replay ∧ replaying.callsExact ∧ replaying.rosterExact ∧
        entry (sid 3 1) 0 2 true ∈ replaying.calls.entries ∧ (replaying.unit 3).presence = .unknown ∧
        (15 : Byte).getLsbD 1 = true ∧ (replaying.stage (sid 3 1)).working.kind ≠ .none) ∧
      roof.listening ∧ (15 : Byte).toNat ≤ 15 ∧ ((roof.unit 0).presence = .present ∧ (roof.unit 0).phase = .opened) ∧
      ((roof.unit 3).presence = .unknown ∧ (roof.stage (sid 3 2)).working.kind = .none) ∧
      ((roof.unit 2).presence = .absent ∧ (roof.stage (sid 2 0)).state = .held) ∧
      (15 : Byte).getLsbD 3 = true ∧ (0 : Byte).getLsbD 3 = false :=
  ⟨⟨by decide +kernel, by decide +kernel, replaying_safe.calls, replaying_safe.roster, by decide +kernel⟩, by decide +kernel⟩

theorem witness_UnitErrorsAreCounted :
    (roof.unit 2).presence ≠ .present ∧
      ((roof.unit 0).presence = .present ∧ (roof.unit 0).errors + 1 ≠ roof.setting .errorThreshold) ∧
      ((roof.unit 1).presence = .present ∧ (roof.unit 1).errors + 1 = roof.setting .errorThreshold ∧ roof.mode ≠ .replay ∧
        (roof.stage (sid 1 0)).state = .stopping ∧ (roof.stage (sid 1 3)).state = .queued ∧
        (roof.stage (sid 1 1)).state = .tripped) := by decide +kernel

/-- The ordered restart with the replay call's unit PRESENT and one error short of the threshold. -/
def faltering : State :=
  replaying.onUnit 3 fun r => { r with presence := .present, phase := .opened, window := 1, errors := 3 }

/-- The REPLAY clause of UnitErrorsAreCounted. -/
theorem witness_UnitErrorsAreCounted_replay :
    (faltering.unit 3).presence = .present ∧ (faltering.unit 3).errors + 1 = faltering.setting .errorThreshold ∧
      faltering.mode = .replay ∧ faltering.callsExact ∧ faltering.rosterExact ∧ faltering.markerExact ∧
      faltering.stages.sumsExact ∧ entry (sid 3 1) 0 2 true ∈ faltering.calls.entries :=
  ⟨by decide +kernel, by decide +kernel, by decide +kernel, replaying_safe.calls, replaying_safe.roster,
    replaying_safe.marker, replaying_safe.sums, by decide +kernel⟩

theorem witness_UnitWindowsRun :
    roof.powered ∧ ((roof.unit 1).phase = .guard ∧ 0 < (roof.unit 1).window) ∧
      ((roof.unit 0).presence = .present ∧ (roof.unit 0).phase = .opened ∧ 0 < (roof.unit 0).window) ∧
      (roof.unit 2).phase ≠ .guard ∧ (roof.unit 2).presence ≠ .present := by decide +kernel

theorem witness_HandshakesTimeOut :
    (roof.powered ∧ (roof.stage (sid 0 2)).state = .granted ∧ 0 < (roof.stage (sid 0 2)).handshake ∧
        (roof.stage (sid 0 2)).rosterFlag = false) ∧
      (replaying.powered ∧ (replaying.stage (sid 0 2)).state = .granted ∧ 0 < (replaying.stage (sid 0 2)).handshake ∧
        (replaying.stage (sid 0 2)).rosterFlag = true ∧ replaying.mode = .replay ∧
        ({ stage := sid 0 2, outcome := .restored } : RosterEntry) ∈ replaying.modes.roster) ∧
      ((roof.onStage (sid 0 2) fun r => { r with rosterFlag := true }).stage (sid 0 2)).rosterFlag = true ∧
      ((roof.stage (sid 1 0)).state = .stopping ∧ 0 < (roof.stage (sid 1 0)).handshake ∧ roof.link.stopSlot = none) ∧
      ((stopHeld (waiting 23)).link.stopSlot ≠ none ∧ (stopHeld (waiting 23)).link.queue.length < 24) ∧
      24 ≤ (stopHeld (waiting 24)).link.queue.length ∧ (roof.stage (sid 0 0)).state ≠ .granted := by decide +kernel

theorem witness_TimersExpire :
    roof.powered ∧ 0 < (roof.stage (sid 0 3)).rest ∧ (roof.stage (sid 0 0)).rest = 0 ∧
      ((roof.stage (sid 1 2)).state = .running ∧ 0 < (roof.stage (sid 1 2)).run) ∧ (roof.stage (sid 0 0)).run = 0 ∧
      0 < (roof.stage (sid 0 3)).window ∧ (roof.stage (sid 0 0)).window = 0 ∧
      (roof.arbiter.gate = .running ∧ 0 < roof.arbiter.pacing) ∧
      (roof.onArbiter fun a => { a with gate := .stopped }).arbiter.gate = .stopped := by decide +kernel

theorem witness_CeilingIsSetAndLapses :
    roof.listening ∧ roof.mode ≠ .halted ∧ roof.powered ∧ 0 < roof.account.supervisionTimer ∧
      (roof.onAccount fun a => { a with supervisionTimer := 0 }).account.supervisionTimer = 0 := by decide +kernel

theorem witness_CurtailLevelIsSet :
    roof.listening ∧ roof.mode ≠ .halted ∧ (inMode .halted).listening ∧ (inMode .halted).mode = .halted := by decide +kernel

/-- The small roof with four shed orders, 1 to 4. -/
def fullOrders : State :=
  roof.onShed fun d => { d with
    orders := ([1, 2, 3, 4] : List Byte).map fun n =>
      { number := n, groupValue := 0, groupMask := 0, kindSet := 8, action := .stop, timer := 1 } }

theorem witness_ShedOrdersAreTaken :
    roof.listening ∧ roof.mode ≠ .halted ∧ (255 : Byte) ≠ 0 ∧ (15 : Byte).toNat ≤ 15 ∧ (1 : Byte) ≠ 0 ∧
      (∃ o ∈ roof.shed.orders, o.number = 1) ∧ (∀ o ∈ roof.shed.orders, o.number ≠ 5) ∧ roof.shed.orders.length < 4 ∧
      (fullOrders.listening ∧ fullOrders.mode ≠ .halted ∧ 4 ≤ fullOrders.shed.orders.length ∧
        ¬ ∃ o ∈ fullOrders.shed.orders, o.number = 5) ∧ roof.powered := by decide +kernel

theorem witness_WritesAreTaken :
    roof.listening ∧ roof.mode ≠ .halted ∧ Setting.ofNumber (25 : Byte).toNat = some .congestionThreshold ∧
      Setting.ofNumber (3 : Byte).toNat = some .intervalLength ∧
      ((flying .erase).listening ∧ (flying .erase).store.flight ≠ none) ∧
      (let locked := roof.onStore fun x => { x with lock := true };
        locked.listening ∧ locked.store.flight = none ∧ locked.store.lock = true) ∧
      (roof.store.flight = none ∧ roof.store.lock = false) ∧ 3 < (4 : Byte).toNat ∧ (4 : Byte) ≠ 255 ∧
      (0 : Byte).toNat = (sid 0 0).slot.val ∧ (1 : Byte).toNat = (1 : Slot).val ∧ (1 : Slot) ≠ (sid 0 0).slot := by
  decide +kernel

theorem witness_LockAndEraseAreTaken :
    roof.listening ∧ roof.mode ≠ .halted ∧ roof.store.flight = none ∧ (flying .erase).listening ∧
      (flying .erase).store.flight ≠ none := by decide +kernel

/-- A write of each kind in flight, changed and unchanged values, in each state of the stage it is for. -/
theorem witness_WritesComplete :
    (flying .erase).powered ∧ (flying (.write (.group 0 5))).powered ∧ (roof.powered ∧ roof.store.flight = none) ∧
      (∀ p ∈ ([(.fallbackCeiling, 1), (.intervalLength, 300), (.errorThreshold, 2), (.congestionThreshold, 8),
          (.curtailLineLevel, 3), (.minimumWidthCode, 0), (.maximumWidthCode, 0), (.guardBand, 0)] : List (Setting × Nat)),
        p.2 ≠ roof.setting p.1) ∧ roof.setting .guardBand = 50 ∧
      (let s := roof.onLines fun l => { l with curtail := { l.curtail with qualified := 1, delivered := 2 } };
        s.lines.curtail.qualified = 1 ∧ 3 ≠ s.lines.curtail.delivered) ∧ roof.lines.curtail.qualified ≠ 1 ∧
      (roof.store.profile (sid 0 0) ≠ { roof.store.profile (sid 0 0) with kind := .none } ∧
        roof.store.profile (sid 0 1) ≠ { roof.store.profile (sid 0 1) with minOn := 0, minOff := 1800 }) ∧
      (roof.stage (sid 0 3)).state = .idle ∧ (roof.stage (sid 1 1)).state = .tripped ∧
      (roof.stage (sid 0 1)).state = .queued ∧ (roof.stage (sid 0 2)).state = .granted ∧
      (roof.stage (sid 2 0)).state = .held ∧ roof.mode ≠ .replay := by decide +kernel

theorem witness_ErasesComplete :
    (flying .erase).powered ∧ (flying .erase).store.flight = some { operation := .erase, elapsed := 0, drawn := 0 } ∧
      (flying (.setting .guardBand 0 |> .write)).powered ∧ (roof.powered ∧ roof.store.flight = none) ∧
      ((flying .erase).onModes fun d => { d with mode := .halted }).mode = .halted ∧ (flying .erase).mode ≠ .halted ∧
      (flying .erase).mode ≠ .replay ∧
      (flying .erase).store.profile (sid 0 0) ≠
        { kind := .none, load := 1, surge := false, shedClass := 3, lead := none, minOn := 180, minOff := 300 } := by
  decide +kernel

/-- The REPLAY clauses of WritesComplete and ErasesComplete: the replay call's stage changes to kind NONE. -/
theorem witness_profiles_replay :
    let s := { replaying with
      store := (flying (.write (.electrical (sid 3 1) .none 60 false 2 none))).store };
    (s.powered ∧ (s.stage (sid 3 1)).state = .queued ∧ (s.store.profile (sid 3 1)).kind = .heatGas ∧ s.mode = .replay ∧
        (∀ e ∈ s.calls.entries, e.stage = sid 3 1 → e.replay = true) ∧
        (∀ e ∈ s.calls.entries, e.stage = sid 0 1 → e.replay = false)) ∧
      s.callsExact ∧ s.rosterExact ∧ s.markerExact ∧
      ({ s with store := (flying .erase).store }).powered ∧ ({ s with store := (flying .erase).store }).mode = .replay :=
  ⟨by decide +kernel, replaying_safe.calls, replaying_safe.roster, replaying_safe.marker, by decide +kernel⟩

theorem witness_CallsAreFlushed :
    (roof.listening ∧ roof.mode ≠ .halted ∧ roof.callsExact ∧ ∀ e ∈ roof.calls.entries, e.replay = false) ∧
      (replaying.listening ∧ replaying.mode = .replay ∧ replaying.callsExact ∧ replaying.rosterExact ∧
        ∃ e ∈ replaying.calls.entries, e.replay = true) :=
  ⟨⟨by decide +kernel, by decide +kernel, roof_safe.calls, by decide +kernel⟩,
    ⟨by decide +kernel, by decide +kernel, replaying_safe.calls, replaying_safe.roster, by decide +kernel⟩⟩

theorem witness_SiteIsQueried : roof.listening ∧ (byteOf 17).toNat = 17 := by decide +kernel

theorem witness_TablesAreQueried :
    replaying.listening ∧ (sid 23 3).code = 99 ∧ replaying.calls.entries[2]? ≠ none ∧ replaying.calls.entries[31]? = none ∧
      fullOrders.shed.orders[3]? ≠ none ∧ roof.shed.orders[3]? = none ∧ replaying.modes.roster[2]? ≠ none ∧
      replaying.modes.roster[95]? = none := by decide +kernel

theorem witness_IdentityIsFixed : roof.listening ∧ (inMode .halted).listening := by decide +kernel

theorem witness_TripsAreCollected :
    (waiting 24).listening ∧ 24 ≤ (waiting 24).link.queue.length ∧ (waiting 23).listening ∧
      (waiting 23).link.queue.length < 24 := by decide +kernel

theorem witness_TransmissionsEnd :
    (∀ n ∈ [19, 20, 24], let s := (waiting n).onLink fun l => { l with headAttempt := true };
      s.powered ∧ s.link.state = .onBus ∧ s.link.queue ≠ [] ∧ s.link.queue.length = n) ∧
      ((stopHeld roof).powered ∧ (stopHeld roof).link.stopSlot ≠ none) ∧ roof.link.queue = [] ∧
      ((roof.onLink fun l => { l with failures := 31 }).link.failures + 1 = 32 ∧ roof.link.failures + 1 < 32) ∧
      (roof.onLink fun l => { l with state := .offBus }).link.state = .offBus := by decide +kernel

/-- The site beacon's clauses of TransmissionsEnd. -/
theorem witness_TransmissionsEnd_beacon :
    (waiting 19).powered ∧ (waiting 19).onBus = true ∧ (waiting 19).link.queue.length < 20 ∧
      20 ≤ (waiting 20).link.queue.length ∧ (waiting 20).powered := by decide +kernel

/-- The feeder's clauses of JoinAndSettleEnd: in an ordered restart with a WAITING entry, outside REPLAY, and with a notice given. -/
theorem witness_JoinAndSettleEnd_feed :
    (replaying.mode = .replay ∧ replaying.callsExact ∧ (replaying.modes.roster.map RosterEntry.stage).Nodup ∧
        replaying.calls.arrival + 1 ≤ 4294967295 ∧
        replaying.calls.congested =
          decide (replaying.setting .congestionThreshold ≤ replaying.calls.entries.length)) ∧ roof.mode ≠ .replay ∧
      (replaying.give .ageing).causes ≠ [] :=
  ⟨⟨by decide +kernel, replaying_safe.calls, replaying_safe.roster.1, by decide +kernel, by decide +kernel⟩,
    by decide +kernel⟩

/-- The exact sums that UnitErrorsAreCounted and ErasesComplete ask of a stage table; and records that join, leave and stay in the
run order list, for NoticesArePlaced. -/
theorem witness_exact_sums :
    roof.stages.sumsExact ∧ (flying .erase).stages.sumsExact ∧
      ((roof.stage (sid 0 3)).state = .idle ∧ (roof.stage (sid 1 0)).state = .stopping) :=
  ⟨roof_safe.sums, roof_safe.sums, by decide +kernel⟩

/-- The small roof with nothing due but what one timer at 1 ms gives, and one with nothing due. -/
theorem witness_ClockRuns :
    (State.reset.pending = [] ∧ State.reset.supplied = true ∧ State.reset.due = []) ∧
      ({ State.reset with supplied := false }).supplied = false ∧
      (State.reset.onAccount fun a => { a with evaluationTimer := 1 }).due = [.evaluation] ∧
      (roof.supplied = true ∧ .restTimerExpiry (sid 0 3) ∈ roof.due ∧ .startSlotExpiry ∈ roof.due ∧
        .evaluation ∉ roof.due) ∧
      (flying .erase).store.flight = some { operation := .erase, elapsed := 0, drawn := 0 } ∧
      (flying (.write (.group 0 5))).store.flight =
        some { operation := .write (.group 0 5), elapsed := 0, drawn := 0 } := by decide +kernel

theorem witness_EvaluationsAreMade : roof.powered := roof_listening.1

theorem witness_MeterTimersExpire :
    roof.powered ∧ roof.account.windowMetered = true ∧ roof.account.metering = .metered ∧ 0 < roof.stages.cRun ∧
      State.reset.stages.cRun = 0 ∧
      (roof.onAccount fun a => { a with windowMetered := false }).account.windowMetered = false := by decide +kernel

theorem witness_JoinAndSettleEnd :
    roof.mode ≠ .startup ∧ roof.mode ≠ .settling ∧
      (State.reset.powered ∧ State.reset.mode = .startup ∧ 0 < State.reset.modes.timer ∧
        State.reset.lines.powerFail.state.asserted = false ∧
        (State.reset.setPowerFail .restorePending 1).lines.powerFail.state.asserted = true) ∧
      (let s := (inMode .settling).onModes fun d => { d with timer := 1 };
        s.powered ∧ s.mode = .settling ∧ 0 < s.modes.timer ∧ ∀ e ∈ s.modes.roster, e.outcome ≠ .waiting) ∧
      (let s := replaying.onModes fun d => { d with mode := .settling, timer := 1 };
        s.powered ∧ s.mode = .settling ∧ ∃ e ∈ s.modes.roster, e.outcome = .waiting) := by decide +kernel

theorem witness_PulseAndMarkLinesRun :
    roof.powered ∧ roof.pins.pulse = false ∧ roof.pins.mark ≠ true ∧ roof.lines.pulse.state = .released ∧
      roof.lines.mark.state = .released ∧ [10, 20, 40, 80][roof.setting .minimumWidthCode]? = some 20 ∧
      [250, 500, 1000, 2000][roof.setting .maximumWidthCode]? = some 1000 ∧
      (∀ p ∈ [PulseState.timing, .valid, .stuck],
        (roof.onLines fun l => { l with pulse := { l.pulse with state := p } }).lines.pulse.state = p) ∧
      (∀ m ∈ [MarkState.timing, .marked],
        (roof.onLines fun l => { l with mark := { l.mark with state := m } }).lines.mark.state = m) ∧
      roof.setting .markLineUse ≠ 0 ∧ roof.account.elapsed < 60 ∧
      60 ≤ (roof.onAccount fun a => { a with elapsed := 60 }).account.elapsed ∧
      (roof.onStore fun x => { x with settings := x.settings.set 3 0 }).setting .markLineUse = 0 := by decide +kernel

theorem witness_CurtailAndPowerFailLinesRun :
    roof.powered ∧ roof.pins.curtail = 0 ∧ roof.pins.curtail ≠ 3 ∧ roof.lines.curtail.candidate = none ∧
      (let s := roof.onLines fun l => { l with curtail := { l.curtail with candidate := some 3, stability := 1 } };
        s.lines.curtail.candidate = some 3 ∧ 3 ≠ s.lines.curtail.delivered ∧ 0 = s.lines.curtail.delivered) ∧
      (∀ p ∈ [PowerFailState.normal, .failPending, .failed, .restorePending],
        (roof.setPowerFail p 1).lines.powerFail.state = p ∧ (roof.setPowerFail p 1).powered) ∧
      (inMode .mainsOff).mode = .mainsOff ∧
      (∀ m ∈ [Mode.startup, .coordinating, .settling, .replay], m ≠ .mainsOff ∧ m ≠ .halted ∧ (inMode m).mode = m) := by
  decide +kernel

theorem witness_CurtailAndPowerFailLinesRun_store : (roof.setPowerFail .failPending 1).store.valid := roof_safe.store

theorem witness_DrainKeepsTheRest :
    (roof.causes = [] ∧ roof.callsExact ∧ roof.mode ≠ .replay ∧ replaying.mode = .replay) ∧
      ((roof.give .ageing).causes = [.ageing] ∧ ((roof.give .ageing).give (.check .evaluation)).causes ≠ [] ∧
        (roof.calls.entries.map CallEntry.stamp).Nodup) ∧
      ((stopHeld roof).link.stopSlot ≠ none ∧ (roof.stage (sid 2 0)).state = .held ∧
        (roof.stage (sid 1 1)).state = .tripped ∧ (roof.stage (sid 1 0)).state = .stopping ∧
        (roof.stage (sid 1 2)).state = .running ∧ 0 < (roof.stage (sid 1 2)).run ∧ (roof.stage (sid 0 3)).state = .idle) ∧
      (inMode .halted).mode.admits = false ∧ (roof.onLink fun l => { l with state := .offBus }).onBus = false :=
  ⟨⟨roof_safe.settled, roof_safe.calls, by decide +kernel, by decide +kernel⟩, by decide +kernel, by decide +kernel⟩

/-- The small roof with a blocking head that does not fit and no hold-off. -/
def blocked : State := (roof.onAccount fun a => { a with allowance := 0 }).onShed fun d => { d with holdOff := 0 }

/-- A pass of the small roof grants its one call that fits: the premises of PassesGrantWhatFits, and its GRANTED stage. -/
theorem witness_PassesGrantWhatFits :
    ((inMode .halted).mode.admits = false ∧ (waiting 20).mode.admits = true ∧ 20 ≤ (waiting 20).link.queue.length) ∧
      (roof.mode.admits = true ∧ roof.onBus = true ∧ (waiting 19).link.queue.length < 20 ∧ roof.callsExact) ∧
      ((roof.stage (sid 0 1)).state = .queued ∧ ((roof.passCause .entry).stage (sid 0 1)).state ≠ .queued ∧
        0 < (roof.passCause .entry).arbiter.lastPass.grants) :=
  ⟨by decide +kernel, ⟨by decide +kernel, by decide +kernel, by decide +kernel, roof_safe.calls⟩, by decide +kernel⟩

/-- A pass of PassesGrantWhatFits whose one grant is the 20th notice, with two entries behind it. -/
theorem witness_PassesGrantWhatFits_full :
    (waiting 19).mode.admits = true ∧ (waiting 19).onBus = true ∧ (waiting 19).link.queue.length < 20 ∧
      (waiting 19).callsExact ∧
      (waiting 19).calls.entries = [] ++ entry (sid 0 1) 1 0 false :: [entry (sid 1 3) 2 1 false, entry (sid 3 1) 2 2 false] ∧
      20 ≤ ((waiting 19).passCause .evaluation).link.queue.length ∧
      ((waiting 19).passCause .evaluation).link.queue.getLast? = some (.permit (sid 0 1) 255 30) :=
  ⟨by decide +kernel, by decide +kernel, by decide +kernel, roof_safe.calls, by decide +kernel, by decide +kernel,
    by decide +kernel⟩

/-- The walk of PassesGrantWhatFits: behind no entry, an eligible call that fits; with no headroom, the same call and the next do
not fit, and the last is not eligible; and one held back for the hold-back time, where it blocks. -/
theorem witness_PassesGrantWhatFits_walk :
    let h := fun s : State => s.headroom - (s.setting .guardBand : Int);
    (roof.calls.entries = [] ++ entry (sid 0 1) 1 0 false :: [entry (sid 1 3) 2 1 false, entry (sid 3 1) 2 2 false] ∧
        roof.eligible (entry (sid 0 1) 1 0 false) = true ∧ ((roof.stage (sid 0 1)).working.load : Int) ≤ h roof ∧
        ((roof.passCause .entry).stage (sid 0 1)).token = some 255) ∧
      (blocked.mode.admits = true ∧ blocked.onBus = true ∧ blocked.link.queue.length < 20 ∧ blocked.callsExact ∧
        (∀ e ∈ blocked.calls.entries, h blocked < (blocked.stage e.stage).working.load ∧
          ¬ blocked.setting .holdBackTime ≤ e.passedOver + 1) ∧
        blocked.eligible (entry (sid 0 1) 1 0 false) = true ∧ blocked.eligible (entry (sid 1 3) 2 1 false) = true ∧
        blocked.eligible (entry (sid 3 1) 2 2 false) = false ∧
        (blocked.passCause .evaluation).calls.entries.map CallEntry.passedOver = [1, 1, 0]) ∧
      (let s := blocked.onCalls fun q => { q with entries := q.entries.map fun e => { e with passedOver := 119 } };
        (∀ e ∈ s.calls.entries, s.setting .holdBackTime ≤ e.passedOver + 1) ∧
          (s.passCause .evaluation).arbiter.marker = some { stage := sid 0 1, load := 100 } ∧
          (s.passCause .evaluation).calls.entries.map CallEntry.passedOver = [120, 119, 119]) := by decide +kernel

/-- The small roof at the shed delay, and one whose blocking head does not fit. -/
def shedding : State := roof.onAccount fun a => { a with persistence := 10 }

/-- The small roof with no permit out, so that the demand shed stops a stage. -/
def noPermit : State := shedding.onStage (sid 0 2) fun r => { r with state := .running, run := 1 }

/-- The small roof with a STOP order that matches every stage in use. -/
def stopAll : State :=
  roof.onShed fun d => { d with
    orders := [{ number := 1, groupValue := 0, groupMask := 0, kindSet := 15, action := .stop, timer := 1 }] }

theorem witness_ShedsAreMade :
    (fullOrders.mode.admits = true ∧ fullOrders.onBus = true ∧ fullOrders.stages.runOrderExact ∧
        fullOrders.link.queue.length + fullOrders.stages.runOrder.length ≤ 24) ∧
      (∀ o ∈ roof.shed.orders, o.action ≠ .stop) ∧
      (shedding.setting .shedDelay ≤ shedding.account.persistence ∧
        shedding.stages.runOrder = [sid 0 0, sid 1 0, sid 2 0] ++ sid 0 2 :: [sid 1 2] ∧
        (shedding.stage (sid 0 2)).state = .granted ∧ (shedding.stage (sid 0 2)).rosterFlag = false ∧
        (shedding.stage (sid 1 2)).state ≠ .granted) ∧
      (noPermit.setting .shedDelay ≤ noPermit.account.persistence ∧
        noPermit.stages.runOrder = [] ++ sid 0 0 :: [sid 1 0, sid 2 0, sid 0 2, sid 1 2] ∧
        (noPermit.stage (sid 0 0)).state = .running ∧ (noPermit.stage (sid 0 0)).run = 0 ∧
        (∀ x ∈ noPermit.stages.runOrder, (noPermit.stage x).state ≠ .granted) ∧
        (∀ x ∈ noPermit.stages.runOrder, (noPermit.stage x).working.shedClass ≤ 3)) ∧
      (State.reset.setting .shedDelay ≤ (State.reset.onAccount fun a => { a with persistence := 10 }).account.persistence ∧
        State.reset.stages.runOrder = []) ∧
      (blocked.account.persistence < blocked.setting .shedDelay ∧ blocked.shed.holdOff = 0 ∧
        blocked.arbiter.marker = some { stage := sid 0 1, load := 100 } ∧
        blocked.headroom - blocked.setting .guardBand < 100 ∧ (blocked.stage (sid 0 0)).working.shedClass = 3) ∧
      (stopHeld (waiting 24)).link.stopSlot ≠ none ∧ 24 ≤ (stopHeld (waiting 24)).link.queue.length := by decide +kernel

/-- The small roof with that order, and room for one STOP of the two that are due. -/
def crowded : State := (stopHeld stopAll).onLink fun l => { l with queue := List.replicate 23 (.answer 27 .ok []) }

/-- The clauses of ShedsAreMade on order stops that run out of room, and, with a free stop slot and an empty queue, on order stops
that are all made. -/
theorem witness_ShedsAreMade_crowded :
    (crowded.mode.admits = true ∧ crowded.onBus = true ∧ crowded.stages.runOrderExact ∧
        crowded.link.stopSlot ≠ none ∧ 24 - crowded.link.queue.length = 1 ∧
        (crowded.stages.runOrder.filter fun st => crowded.stopOrdered st &&
          ((crowded.stage st).state == .granted || (crowded.stage st).settled)) = [sid 0 0, sid 0 2]) ∧
      (stopAll.mode.admits = true ∧ stopAll.onBus = true ∧ stopAll.link.stopSlot = none ∧ stopAll.link.queue = []) ∧
      (let s := (stopHeld shedding).onLink fun l => { l with queue := List.replicate 24 (.answer 27 .ok []) };
        s.mode.admits = true ∧ s.onBus = true ∧ s.link.stopSlot ≠ none ∧ 24 ≤ s.link.queue.length ∧
          s.arbiter.marker ≠ none ∧ s.setting .shedDelay ≤ s.account.persistence ∧
          (∀ st ∈ s.stages.runOrder, s.stopOrdered st = false) ∧ s.stages.runOrderExact) ∧
      crowded.stages.sumsExact :=
  ⟨by decide +kernel, by decide +kernel, by decide +kernel, roof_safe.sums⟩

/-- R110: room for one STOP stops the earliest stage; the later one keeps its permit and counts as a shed that waits. -/
theorem test_order_stop_waits :
    let t := crowded.checkCause;
    (t.stage (sid 0 0)).state = .stopping ∧ (t.stage (sid 0 2)).state = .granted ∧ t.link.queue.length = 24 ∧
      t.counter .orderStops = 1 ∧ t.counter .orderRevokes = 0 ∧ t.counter .shedsWaiting = 1 := by decide +kernel

/-- The small roof in an ordered restart with a STOP order that matches its roster-flagged permit and a settled stage. -/
def stopReplay : State := { replaying with shed := stopAll.shed }

theorem witness_ShedsAreMade_replay :
    (stopReplay.mode = .replay ∧ stopReplay.checkCause.mode = .replay ∧ stopReplay.onBus = true ∧ stopReplay.rosterExact ∧ stopReplay.stages.runOrderExact ∧
        stopReplay.link.queue.length + stopReplay.stages.runOrder.length ≤ 24) ∧
      (stopReplay.stopOrdered (sid 0 2) = true ∧ (stopReplay.stage (sid 0 2)).state = .granted ∧
        (stopReplay.stage (sid 0 2)).rosterFlag = true ∧
        ({ stage := sid 0 2, outcome := .restored } : RosterEntry) ∈ stopReplay.modes.roster) ∧
      stopReplay.stopOrdered (sid 0 0) = true ∧ (stopReplay.stage (sid 0 0)).state = .running ∧
      (stopReplay.stage (sid 0 0)).run = 0 :=
  ⟨⟨by decide +kernel, by decide +kernel, by decide +kernel, replaying_safe.roster, replaying_safe.runOrder,
    by decide +kernel⟩, by decide +kernel⟩

theorem witness_DigestIsFormed :
    (flying .erase).powered ∧ (flying .erase).store.flight ≠ none ∧ (flying (.write (.group 0 5))).powered ∧
      (Operation.write (.group 0 5)) ≠ .erase := by decide +kernel

end Sys2Proof.Tests
end

section
/-! Proofs/Clock.lean: one millisecond of the part's clock (O51): what a step on the empty queue counts, what is due, and that what
was due is taken in some order. -/

namespace Sys2Proof.Machine

/-! ### What is due -/

theorem mem_dueIf {c d : Instr} {b : Bool} : c ∈ dueIf d b ↔ c = d ∧ b = true := by
  cases b <;> simp [dueIf]

theorem mem_allStages (st : StageId) : st ∈ allStages := by
  obtain ⟨u, k⟩ := st
  simp only [allStages, units, stagesOf, slots, List.mem_flatMap, List.mem_map]
  exact ⟨u, List.mem_finRange u, k, by fin_cases k <;> simp, rfl⟩

theorem mem_units (u : UnitId) : u ∈ units := List.mem_finRange u

theorem State.mem_stageDue (s : State) (st : StageId) (c : Instr) : c ∈ s.stageDue st ↔
    (c = .restTimerExpiry st ∧ (s.stage st).rest = 1) ∨ (c = .runTimerExpiry st ∧ (s.stage st).run = 1) ∨
      (c = .confirmTimeout st ∧ (s.stage st).handshake = 1 ∧ (s.stage st).state ≠ .stopping) ∨
      (c = .stopTimeout st ∧ (s.stage st).handshake = 1 ∧ (s.stage st).state = .stopping) ∨
      (c = .windowTimerExpiry st ∧ (s.stage st).window = 1) := by
  have handshake : (c = (s.stage st).handshakeExpiry st ∧ (s.stage st).handshake = 1) ↔
      (c = .confirmTimeout st ∧ (s.stage st).handshake = 1 ∧ (s.stage st).state ≠ .stopping) ∨
        (c = .stopTimeout st ∧ (s.stage st).handshake = 1 ∧ (s.stage st).state = .stopping) := by
    cases state : (s.stage st).state <;> simp [Stage.handshakeExpiry, state]
  simp only [State.stageDue, List.mem_append, mem_dueIf, timerDue, beq_iff_eq, handshake, or_assoc]

theorem State.mem_unitDue (s : State) (u : UnitId) (c : Instr) : c ∈ s.unitDue u ↔
    (c = .windowGuardExpiry u ∧ (s.unit u).window = 1 ∧ (s.unit u).phase = .guard) ∨
      (c = .missedWindow u ∧ (s.unit u).window = 1 ∧ (s.unit u).phase = .opened) := by
  cases phase : (s.unit u).phase <;> simp [State.unitDue, phase, mem_dueIf, timerDue]

theorem State.mem_accountDue (s : State) (c : Instr) : c ∈ s.accountDue ↔
    (c = .evaluation ∧ s.account.evaluationTimer = 1) ∨ (c = .rateWindowExpiry ∧ s.account.rateWindow = 1) ∨
      (c = .silenceTimerExpiry ∧ s.account.silence = 1) ∨
      (c = .supervisionTimerExpiry ∧ s.account.supervisionTimer = 1) := by
  simp only [State.accountDue, List.mem_append, mem_dueIf, timerDue, beq_iff_eq, or_assoc]

theorem State.mem_controlDue (s : State) (c : Instr) : c ∈ s.controlDue ↔
    (c = .startSlotExpiry ∧ s.arbiter.pacing = 1 ∧ s.arbiter.gate = .running) ∨
      (∃ o ∈ s.shed.orders, .orderTimerExpiry o.number = c ∧ o.timer = 1) ∨
      (c = .displacementHoldOffExpiry ∧ s.shed.holdOff = 1) ∨
      (c = .joinTimerExpiry ∧ s.modes.timer = 1 ∧ s.mode = .startup) ∨
      (c = .settleTimerExpiry ∧ s.modes.timer = 1 ∧ s.mode = .settling) := by
  simp only [State.controlDue, List.mem_append, List.mem_flatMap, mem_dueIf, timerDue, beq_iff_eq, Bool.and_eq_true,
    or_assoc, @eq_comm _ c (.orderTimerExpiry _), and_comm (b := _ = (1 : Nat))]

theorem State.mem_linesDue (s : State) (ahead : Millis) (c : Instr) : c ∈ s.linesDue ahead ↔
    (c = .pulseAssertionEdge ∧ s.lines.pulse.debounce = 1 ∧ s.pins.pulse = true) ∨
      (c = .pulseReleaseEdge ∧ s.lines.pulse.debounce = 1 ∧ s.pins.pulse = false) ∨
      (c = .pulseMinimumWidthReached ∧ s.lines.pulse.state = .timing ∧
        minimumWidth (s.setting .minimumWidthCode) ≤ s.lines.pulse.width + ahead) ∨
      (c = .pulseMaximumWidthReached ∧ s.lines.pulse.state = .valid ∧
        maximumWidth (s.setting .maximumWidthCode) ≤ s.lines.pulse.width + ahead) ∨
      (c = .markAssertionEdge ∧ s.lines.mark.debounce = 1 ∧ s.pins.mark = true) ∨
      (c = .markReleaseEdge ∧ s.lines.mark.debounce = 1 ∧ s.pins.mark = false) ∨
      (c = .markQualified ∧ s.lines.mark.state = .timing ∧ 20 ≤ s.lines.mark.timer + ahead) ∨
      (c = .curtailStabilityExpiry ∧ s.lines.curtail.stability = 1) ∨
      (c = .powerFailQualificationExpiry ∧ s.lines.powerFail.timer = 1) := by
  have pulse : (s.lines.pulse.state == .timing && s.widthEnds ahead) = true ↔ s.lines.pulse.state = .timing ∧
      minimumWidth (s.setting .minimumWidthCode) ≤ s.lines.pulse.width + ahead := by
    cases state : s.lines.pulse.state <;> simp [State.widthEnds, state]
  have stuck : (s.lines.pulse.state == .valid && s.widthEnds ahead) = true ↔ s.lines.pulse.state = .valid ∧
      maximumWidth (s.setting .maximumWidthCode) ≤ s.lines.pulse.width + ahead := by
    cases state : s.lines.pulse.state <;> simp [State.widthEnds, state]
  have mark : s.lines.mark.ends ahead = true ↔ s.lines.mark.state = .timing ∧ 20 ≤ s.lines.mark.timer + ahead := by
    simp only [MarkLine.ends, Bool.and_eq_true, beq_iff_eq, decide_eq_true_eq]; rfl
  simp only [State.linesDue, List.mem_append, mem_dueIf, pulse, stuck, mark, timerDue, beq_iff_eq]
  cases s.pins.pulse <;> cases s.pins.mark <;> simp [or_assoc]

theorem State.mem_linkDue (s : State) (ahead : Millis) (c : Instr) : c ∈ s.linkDue ahead ↔
    (c = .offBusTimerExpiry ∧ s.link.offBusTimer = 1) ∨ (c = .siteBeaconTimerExpiry ∧ s.link.beaconTimer = 1) ∨
      (∃ f, s.store.flight = some f ∧
        ((c = .writeCompletion ∧ f.operation ≠ .erase) ∨ (c = .eraseCompletion ∧ f.operation = .erase)) ∧
        f.time ≤ f.elapsed + ahead) := by
  simp only [State.linkDue, List.mem_append, mem_dueIf, timerDue, beq_iff_eq, or_assoc]
  cases flight : s.store.flight with
  | none => simp
  | some f => cases op : f.operation <;> simp [mem_dueIf, Flight.ends, op]

/-- What is due, by the owner's rule of each command: the table of ClockRuns. -/
def State.isDue (x : State) (ahead : Millis) (c : Instr) : Prop :=
  match c with
  | .restTimerExpiry st => (x.stage st).rest = 1
  | .runTimerExpiry st => (x.stage st).run = 1
  | .confirmTimeout st => (x.stage st).handshake = 1 ∧ (x.stage st).state ≠ .stopping
  | .stopTimeout st => (x.stage st).handshake = 1 ∧ (x.stage st).state = .stopping
  | .windowTimerExpiry st => (x.stage st).window = 1
  | .windowGuardExpiry u => (x.unit u).window = 1 ∧ (x.unit u).phase = .guard
  | .missedWindow u => (x.unit u).window = 1 ∧ (x.unit u).phase = .opened
  | .evaluation => x.account.evaluationTimer = 1
  | .rateWindowExpiry => x.account.rateWindow = 1
  | .silenceTimerExpiry => x.account.silence = 1
  | .supervisionTimerExpiry => x.account.supervisionTimer = 1
  | .startSlotExpiry => x.arbiter.pacing = 1 ∧ x.arbiter.gate = .running
  | .orderTimerExpiry n => ∃ o ∈ x.shed.orders, o.number = n ∧ o.timer = 1
  | .displacementHoldOffExpiry => x.shed.holdOff = 1
  | .joinTimerExpiry => x.modes.timer = 1 ∧ x.mode = .startup
  | .settleTimerExpiry => x.modes.timer = 1 ∧ x.mode = .settling
  | .pulseAssertionEdge => x.lines.pulse.debounce = 1 ∧ x.pins.pulse = true
  | .pulseReleaseEdge => x.lines.pulse.debounce = 1 ∧ x.pins.pulse = false
  | .pulseMinimumWidthReached => x.lines.pulse.state = .timing ∧
    minimumWidth (x.setting .minimumWidthCode) ≤ x.lines.pulse.width + ahead
  | .pulseMaximumWidthReached => x.lines.pulse.state = .valid ∧
    maximumWidth (x.setting .maximumWidthCode) ≤ x.lines.pulse.width + ahead
  | .markAssertionEdge => x.lines.mark.debounce = 1 ∧ x.pins.mark = true
  | .markReleaseEdge => x.lines.mark.debounce = 1 ∧ x.pins.mark = false
  | .markQualified => x.lines.mark.state = .timing ∧ 20 ≤ x.lines.mark.timer + ahead
  | .curtailStabilityExpiry => x.lines.curtail.stability = 1
  | .powerFailQualificationExpiry => x.lines.powerFail.timer = 1
  | .offBusTimerExpiry => x.link.offBusTimer = 1
  | .siteBeaconTimerExpiry => x.link.beaconTimer = 1
  | .writeCompletion => ∃ f, x.store.flight = some f ∧ f.operation ≠ .erase ∧ f.time ≤ f.elapsed + ahead
  | .eraseCompletion => ∃ f, x.store.flight = some f ∧ f.operation = .erase ∧ f.time ≤ f.elapsed + ahead
  | _ => False

theorem State.mem_dueAhead (x : State) (ahead : Millis) (c : Instr) : c ∈ x.dueAhead ahead ↔ x.isDue ahead c := by
  have split : c ∈ x.dueAhead ahead ↔ (∃ st, c ∈ x.stageDue st) ∨ (∃ u, c ∈ x.unitDue u) ∨ c ∈ x.accountDue ∨
      c ∈ x.controlDue ∨ c ∈ x.linesDue ahead ∨ c ∈ x.linkDue ahead := by
    simp only [State.dueAhead, List.mem_append, List.mem_flatMap, mem_allStages, mem_units, true_and, or_assoc]
  simp only [split, State.mem_stageDue, State.mem_unitDue, State.mem_accountDue, State.mem_controlDue,
    State.mem_linesDue, State.mem_linkDue]
  cases c <;> simp [State.isDue]

theorem countDown_eq_one {t : Millis} (h : t = 1) : countDown t = 1 := by simp [h, countDown]

/-- What was due as the millisecond began is still due once every timer has counted it, as long as no event has come between:
a countdown is left at 1, and what counts up has gained the millisecond it lacked. -/
theorem State.isDue_advance (s : State) (c : Instr) (h : s.isDue 1 c) : s.advance.isDue 0 c := by
  cases c
  case orderTimerExpiry n =>
    obtain ⟨o, held, number, due⟩ := h
    exact ⟨_, List.mem_map_of_mem held, number, countDown_eq_one due⟩
  case joinTimerExpiry => exact ⟨countDown_eq_one h.1, h.2⟩
  case settleTimerExpiry => exact ⟨countDown_eq_one h.1, h.2⟩
  case writeCompletion =>
    obtain ⟨f, flying, operation, ends⟩ := h
    exact ⟨f.tick, by simp [flying], operation, ends⟩
  case eraseCompletion =>
    obtain ⟨f, flying, operation, ends⟩ := h
    exact ⟨f.tick, by simp [flying], operation, ends⟩
  all_goals simp_all [State.isDue, Stage.tick, UnitRec.tick, Account.tick, Arbiter.tick, Shed.tick, Lines.tick,
    PulseLine.tick, MarkLine.tick, Link.tick, countDown_eq_one]

/-! ### What is taken -/

/-- One event of the millisecond: taken if it is still due, drawing a free value where the Bool says so; passed over otherwise. -/
def takeEvent (o : Host.Outcome State Fault Refusal) (p : Instr × Bool) : Host.Outcome State Fault Refusal :=
  match o with
  | .next x => if p.1 ∈ x.dueAhead 0 then exec p.1 { x with drawn := x.drawn + p.2.toNat } else .next x
  | stop => stop

/-- Events that are no longer due are passed over. -/
theorem foldl_takeEvent_passed (l : List (Instr × Bool)) (x : State) (h : ∀ p ∈ l, p.1 ∉ x.dueAhead 0) :
    l.foldl takeEvent (.next x) = .next x := by
  induction l with
  | nil => rfl
  | cons p rest ih =>
    have passed : takeEvent (.next x) p = .next x := if_neg (h p (by simp))
    rw [List.foldl_cons, passed, ih fun q hq => h q (by simp [hq])]

/-- Once the part has stopped nothing more is taken. -/
theorem foldl_takeEvent_stopped (l : List (Instr × Bool)) (o : Host.Outcome State Fault Refusal) (h : ∀ x, o ≠ .next x) :
    l.foldl takeEvent o = o := by
  induction l with
  | nil => rfl
  | cons p rest ih =>
    have stopped : takeEvent o p = o := by
      cases o with
      | next x => exact absurd rfl (h x)
      | fault _ => rfl
      | refused _ => rfl
    rw [List.foldl_cons, stopped, ih]

/-- The waiting events that are no longer due, each passed over without a draw. -/
def passedOver (waiting : List Instr) (s : State) : List (Instr × Bool) :=
  (waiting.filter fun c => !(s.dueAhead 0).contains c).map fun c => (c, false)

theorem foldl_passedOver (waiting : List Instr) (s : State) :
    (passedOver waiting s).foldl takeEvent (.next s) = .next s := by
  refine foldl_takeEvent_passed _ _ fun p hp => ?_
  obtain ⟨c, hc, rfl⟩ := List.mem_map.mp hp
  simpa using (List.mem_filter.mp hc).2

/-- What waits is what is passed over and what is still due. -/
theorem passedOver_append_due (waiting : List Instr) (s : State) :
    ((passedOver waiting s).map Prod.fst ++ waiting.filter (s.dueAhead 0).contains).Perm waiting := by
  have names : (passedOver waiting s).map Prod.fst = waiting.filter fun c => !(s.dueAhead 0).contains c := by
    simp [passedOver, Function.comp_def]
  rw [names]
  exact List.perm_append_comm.trans (List.filter_append_perm _ _)

theorem takeDue_none (choose : Nat → Nat) (fuel : Nat) (waiting : List Instr) (s : State)
    (none : waiting.filter (s.dueAhead 0).contains = []) : takeDue choose fuel waiting s = .next s := by
  cases fuel with
  | zero => rfl
  | succ n => rw [takeDue, none]

/-- What follows an event: the rest, unless the part has stopped. -/
def goOn (o : Host.Outcome State Fault Refusal) (rest : State → Host.Outcome State Fault Refusal) :
    Host.Outcome State Fault Refusal :=
  match o with
  | .next s => rest s
  | .fault r => .fault r
  | .refused r => .refused r

theorem goOn_cases (o : Host.Outcome State Fault Refusal) (rest : State → Host.Outcome State Fault Refusal) :
    (∃ s, o = .next s ∧ goOn o rest = rest s) ∨ ((∀ s, o ≠ .next s) ∧ goOn o rest = o) := by
  cases o with
  | next s => exact .inl ⟨s, rfl, rfl⟩
  | fault r => exact .inr ⟨by simp, rfl⟩
  | refused r => exact .inr ⟨by simp, rfl⟩

/-- With something still due, one of it is taken, with a draw if there was a choice, and then the rest. -/
theorem takeDue_some (choose : Nat → Nat) (fuel : Nat) (waiting : List Instr) (s : State)
    (some : waiting.filter (s.dueAhead 0).contains ≠ []) :
    ∃ (c : Instr) (rest : List Instr) (free : Bool), (c :: rest).Perm (waiting.filter (s.dueAhead 0).contains) ∧
      (rest = [] → free = false) ∧
      ((∃ s', exec c { s with drawn := s.drawn + free.toNat } = .next s' ∧
          takeDue choose (fuel + 1) waiting s = takeDue choose fuel rest s') ∨
        ((∀ x, exec c { s with drawn := s.drawn + free.toNat } ≠ .next x) ∧
          takeDue choose (fuel + 1) waiting s = exec c { s with drawn := s.drawn + free.toNat })) := by
  obtain ⟨first, others, due⟩ := List.exists_cons_of_ne_nil some
  obtain ⟨free, freeEq⟩ : ∃ free : Bool, free = !others.isEmpty := ⟨_, rfl⟩
  obtain ⟨i, iEq⟩ : ∃ i, i = if free then choose s.drawn % (others.length + 1) else 0 := ⟨_, rfl⟩
  have inside : i < (first :: others).length := by
    rw [iEq, List.length_cons]
    split
    · exact Nat.mod_lt _ (by omega)
    · omega
  have drawn : (if free then s.drawn + 1 else s.drawn) = s.drawn + free.toNat := by cases free <;> rfl
  have step : takeDue choose (fuel + 1) waiting s =
      goOn (exec ((first :: others)[i]) { s with drawn := s.drawn + free.toNat })
        (takeDue choose fuel ((first :: others).eraseIdx i)) := by
    rw [← drawn, ← List.getD_eq_getElem _ first inside, takeDue, due, iEq, freeEq]
    rfl
  refine ⟨(first :: others)[i], (first :: others).eraseIdx i, free, ?_, ?_, ?_⟩
  · rw [due]
    exact List.getElem_cons_eraseIdx_perm inside
  · intro last
    have := List.length_eraseIdx_of_lt inside
    rw [last, List.length_cons] at this
    obtain rfl : others = [] := List.eq_nil_of_length_eq_zero (by simpa using this.symm)
    exact freeEq
  · rcases goOn_cases (exec ((first :: others)[i]) { s with drawn := s.drawn + free.toNat })
      (takeDue choose fuel ((first :: others).eraseIdx i)) with ⟨s', ran, next⟩ | ⟨stops, stopped⟩
    · exact .inl ⟨s', ran, step.trans next⟩
    · exact .inr ⟨stops, step.trans stopped⟩

/-- What waits is taken in some order, each event once and judged when its turn comes. Those no longer due come first in that
order, where they are passed over, and then the one chosen. -/
theorem takeDue_order (choose : Nat → Nat) (fuel : Nat) (waiting : List Instr) (s : State) (enough : waiting.length ≤ fuel) :
    ∃ order : List (Instr × Bool), (order.map Prod.fst).Perm waiting ∧
      takeDue choose fuel waiting s = order.foldl takeEvent (.next s) := by
  induction fuel generalizing waiting s with
  | zero =>
    obtain rfl : waiting = [] := List.eq_nil_of_length_eq_zero (by omega)
    exact ⟨[], .refl _, rfl⟩
  | succ fuel ih =>
    by_cases due : waiting.filter (s.dueAhead 0).contains = []
    · exact ⟨passedOver waiting s, by simpa [due] using passedOver_append_due waiting s,
        by rw [foldl_passedOver, takeDue_none _ _ _ _ due]⟩
    · obtain ⟨c, rest, free, perm, -, taken⟩ := takeDue_some choose fuel waiting s due
      have isDue : c ∈ s.dueAhead 0 := by
        simpa using (List.mem_filter.mp (perm.mem_iff.mp (List.mem_cons_self (a := c)))).2
      have first : takeEvent (.next s) (c, free) = exec c { s with drawn := s.drawn + free.toNat } := if_pos isDue
      have names : ∀ later : List (Instr × Bool), (later.map Prod.fst).Perm rest →
          ((passedOver waiting s ++ (c, free) :: later).map Prod.fst).Perm waiting := fun later h => by
        rw [List.map_append, List.map_cons]
        exact ((((h.cons c).trans perm).append_left _)).trans (passedOver_append_due waiting s)
      have few : rest.length ≤ fuel := by
        have := perm.length_eq
        have := List.length_filter_le (s.dueAhead 0).contains waiting
        simp only [List.length_cons] at *
        omega
      rcases taken with ⟨s', ran, next⟩ | ⟨stops, stopped⟩
      · obtain ⟨later, laterPerm, laterTaken⟩ := ih rest s' few
        refine ⟨_, names later laterPerm, ?_⟩
        rw [List.foldl_append, foldl_passedOver, List.foldl_cons, first, ran, next, laterTaken]
      · refine ⟨_, names (rest.map fun c => (c, false)) (by simp [Function.comp_def]), ?_⟩
        rw [List.foldl_append, foldl_passedOver, List.foldl_cons, first, stopped,
          foldl_takeEvent_stopped _ _ stops]

/-- The one event due is taken. -/
theorem takeDue_single (choose : Nat → Nat) (fuel : Nat) (c : Instr) (s : State) (due : c ∈ s.dueAhead 0) :
    takeDue choose (fuel + 1) [c] s = exec c s := by
  have still : [c].filter (s.dueAhead 0).contains = [c] := by simp [due]
  obtain ⟨d, rest, free, perm, quiet, taken⟩ := takeDue_some choose fuel [c] s (by simp [still])
  rw [still] at perm
  obtain ⟨rfl, rfl⟩ : d = c ∧ rest = [] := by simpa using List.perm_singleton.mp perm
  obtain rfl := quiet rfl
  rcases taken with ⟨s', ran, next⟩ | ⟨-, stopped⟩
  · rw [next, takeDue_none _ _ _ _ rfl]; exact ran.symm
  · exact stopped

/-- The whole time of an operation in flight lies inside the manual's limits (R169, R172). -/
theorem Flight.time_limits (f : Flight) :
    (f.operation = .erase → 380 ≤ f.time ∧ f.time ≤ 420) ∧ (f.operation ≠ .erase → 7 ≤ f.time ∧ f.time ≤ 9) := by
  have erase := Nat.mod_lt (Config.eraseExtra f.drawn) (show 0 < 41 by decide)
  have write := Nat.mod_lt (Config.writeExtra f.drawn) (show 0 < 3 by decide)
  constructor
  · intro operation
    have time : f.time = 380 + Config.eraseExtra f.drawn % 41 := by simp only [Flight.time, operation]
    rw [time]
    exact ⟨Nat.le_add_right _ _, Nat.add_le_add_left (Nat.le_of_lt_succ erase) 380⟩
  · intro notErase
    cases operation : f.operation with
    | write item =>
      have time : f.time = 7 + Config.writeExtra f.drawn % 3 := by simp only [Flight.time, operation]
      rw [time]
      exact ⟨Nat.le_add_right _ _, Nat.add_le_add_left (Nat.le_of_lt_succ write) 7⟩
    | erase => exact absurd operation notErase

/-! ### The millisecond -/

/-- The pacing countdown counts only with the gate running (R95). -/
theorem Arbiter.tick_eq (a : Arbiter) :
    a.tick = { a with pacing := if a.gate = .running then countDown a.pacing else a.pacing } := by
  obtain ⟨token, pacing, gate, slot, marker, record⟩ := a
  cases gate <;> rfl

/-- The width timer counts up in TIMING and VALID (R53, R56). -/
theorem PulseLine.tick_eq (l : PulseLine) :
    l.tick = { l with debounce := countDown l.debounce,
                      width := if l.state = .timing ∨ l.state = .valid then l.width + 1 else l.width } := by
  obtain ⟨level, debounce, state, width⟩ := l
  cases state <;> rfl

/-- A millisecond changes the timers and nothing else. -/
theorem State.advance_eq (s : State) :
    s.advance = { s with
      stages := { s.stages with records := s.advance.stages.records }
      supervisor := { s.supervisor with records := s.advance.supervisor.records }
      arbiter := { s.arbiter with
        pacing := if s.arbiter.gate = .running then countDown s.arbiter.pacing else s.arbiter.pacing }
      account := s.account.tick
      shed := s.shed.tick
      lines := { s.lines.tick with
        pulse := { s.lines.pulse with
          debounce := countDown s.lines.pulse.debounce
          width := if s.lines.pulse.state = .timing ∨ s.lines.pulse.state = .valid then s.lines.pulse.width + 1
            else s.lines.pulse.width } }
      modes := { s.modes with timer := countDown s.modes.timer }
      link := s.link.tick
      store := { s.store with flight := s.store.flight.map Flight.tick } } := by
  rw [← Arbiter.tick_eq, ← PulseLine.tick_eq]
  rfl

end Sys2Proof.Machine

namespace Sys2Proof.Proofs
open Sys2Proof.Machine

/-- Settles O51: what is due is read off the timers (`State.mem_dueAhead`), it is still due when the millisecond has been counted
(`State.isDue_advance`), and what waits is taken in some order (`takeDue_order`). -/
theorem clockRuns : Obligations.ClockRuns := by
  intro s idle
  have step_tick : step s = tick s := by simp only [step, idle]
  refine ⟨fun off => by rw [step_tick, tick, off]; rfl, fun on => ?_⟩
  have taken : step s = takeDue Config.dueChoice s.due.length s.due s.advance := by rw [step_tick, tick, if_pos on]
  refine ⟨fun st => s.advance_stage st, fun u => s.advance_unit u, s.advance_eq, fun f _ => f.time_limits,
    fun x ahead c => x.mem_dueAhead ahead c, rfl, fun none => ?_, fun c one => ?_, ?_⟩
  · rw [taken, none]; rfl
  · have due : c ∈ s.advance.dueAhead 0 :=
      (s.advance.mem_dueAhead 0 c).mpr (s.isDue_advance c ((s.mem_dueAhead 1 c).mp (by
        rw [show s.dueAhead 1 = [c] from one]; exact List.mem_singleton_self c)))
    rw [taken, one]
    exact takeDue_single _ 0 c _ due
  · rw [taken]
    exact takeDue_order _ _ _ _ (Nat.le_refl _)

end Sys2Proof.Proofs
end

section
/-! Proofs/Stages.lean: what the committed sums and the run order list are after some stages have left the listed states (R10,
R11), and what an ANSWER does to the link whatever the stages are. -/

namespace Sys2Proof.Machine

theorem Stage.runLoad_unlisted {r : Stage} (h : r.state.listed = false) : r.runLoad = 0 := by
  cases state : r.state <;> simp_all [Stage.runLoad, StageState.listed, StageState.countsRunning]

theorem Stage.pendLoad_unlisted {r : Stage} (h : r.state.listed = false) : r.pendLoad = 0 := by
  cases state : r.state <;> simp_all [Stage.pendLoad, StageState.listed]

/-- A pending profile is copied: the record with its working copy and flag written out (R3). -/
theorem Stage.copyPending_eq (stored : Profile) (r : Stage) :
    r.copyPending stored =
      { r with working := if r.pendingProfile then stored else r.working, pendingProfile := false } := by
  obtain ⟨working, pending, _, _, _, _, _, _, _, _, _, _⟩ := r
  cases pending <;> rfl

theorem State.stages_get (s : State) (st : StageId) : s.stages.get st = s.stage st := rfl

/-- Only the record a change makes of the stage's record counts. -/
theorem State.onStage_congr {s : State} {st : StageId} {f g : Stage → Stage} (h : f (s.stage st) = g (s.stage st)) :
    s.onStage st f = s.onStage st g :=
  congrArg (fun r => s.onStages fun t => t.put st r) h

/-- What the state reads for any stage after one stage's record has changed. -/
theorem State.stage_onStage (s : State) (st st' : StageId) (f : Stage → Stage) :
    (s.onStage st f).stage st' = if st' = st then f (s.stage st) else s.stage st' := by
  split
  · next same => rw [same, State.stage_onStage_self]
  · next other => exact s.stage_onStage_other f other

/-- From the table t to the table t' exactly the stages of l have left the listed states: their loads have left the sums (R10), and
they have left the run order list, the others in order (R11). -/
structure StageTable.Left (t t' : StageTable) (l : List StageId) : Prop where
  cRun : t'.cRun = t.cRun - (l.map fun st => (t.get st).runLoad).sum
  cPend : t'.cPend = t.cPend - (l.map fun st => (t.get st).pendLoad).sum
  runOrder : t'.runOrder = t.runOrder.filter fun st => !(decide (st ∈ l) && (t.get st).state.listed)

theorem StageTable.Left.refl (t : StageTable) : t.Left t [] := ⟨by simp, by simp, by simp⟩

/-- A stage comes into an unlisted state: its load leaves the sums, and it leaves the list. -/
theorem StageTable.put_unlisted (t : StageTable) (st : StageId) (r : Stage) (h : r.state.listed = false) :
    (t.put st r).cRun = t.cRun - (t.get st).runLoad ∧ (t.put st r).cPend = t.cPend - (t.get st).pendLoad ∧
      (t.put st r).runOrder = t.runOrder.filter fun x => !(decide (x = st) && (t.get st).state.listed) := by
  refine ⟨by simp [StageTable.put, Stage.runLoad_unlisted h], by simp [StageTable.put, Stage.pendLoad_unlisted h], ?_⟩
  cases listed : (t.get st).state.listed <;> simp [StageTable.put, h, listed, bne, BEq.beq]

/-- A change between unlisted states changes neither the sums nor the list. -/
theorem StageTable.put_unlisted_unlisted (t : StageTable) (st : StageId) (r : Stage) (h : r.state.listed = false)
    (h' : (t.get st).state.listed = false) :
    (t.put st r).cRun = t.cRun ∧ (t.put st r).cPend = t.cPend ∧ (t.put st r).runOrder = t.runOrder := by
  obtain ⟨run, pend, order⟩ := t.put_unlisted st r h
  rw [Stage.runLoad_unlisted h', Nat.sub_zero] at run
  rw [Stage.pendLoad_unlisted h', Nat.sub_zero] at pend
  exact ⟨run, pend, by rw [order, h']; simp⟩

/-- One more stage leaves; it counts as it did in the table t. -/
theorem StageTable.Left.take {t t' : StageTable} {l : List StageId} (left : t.Left t' l) (st : StageId) (r : Stage)
    (unlisted : r.state.listed = false) (run : (t'.get st).runLoad = (t.get st).runLoad)
    (pend : (t'.get st).pendLoad = (t.get st).pendLoad) (listed : (t'.get st).state.listed = (t.get st).state.listed) :
    t.Left (t'.put st r) (l ++ [st]) := by
  obtain ⟨hRun, hPend, hOrder⟩ := t'.put_unlisted st r unlisted
  refine ⟨?_, ?_, ?_⟩
  · rw [hRun, left.cRun, run]; simp [Nat.sub_sub]
  · rw [hPend, left.cPend, pend]; simp [Nat.sub_sub]
  · rw [hOrder, left.runOrder, listed, List.filter_filter]
    refine List.filter_congr fun x _ => ?_
    by_cases same : x = st
    · subst same; simp; tauto
    · simp [same]

/-- A table with the same sums and the same list. -/
theorem StageTable.Left.congr {t t' t'' : StageTable} {l : List StageId} (left : t.Left t' l) (run : t''.cRun = t'.cRun)
    (pend : t''.cPend = t'.cPend) (order : t''.runOrder = t'.runOrder) : t.Left t'' l :=
  ⟨run.trans left.cRun, pend.trans left.cPend, order.trans left.runOrder⟩

theorem mem_stagesOf {u : UnitId} {st : StageId} : st ∈ stagesOf u ↔ st.unit = u := by
  obtain ⟨v, k⟩ := st
  simp only [stagesOf, slots, List.mem_map, StageId.mk.injEq]
  constructor
  · rintro ⟨_, -, rfl, -⟩; rfl
  · rintro rfl; exact ⟨k, by fin_cases k <;> simp, rfl, rfl⟩

theorem stagesOf_nodup (u : UnitId) : (stagesOf u).Nodup :=
  List.Nodup.map (fun _ _ h => (StageId.mk.inj h).2) (by decide)

theorem State.restLoaded_eq (n : Nat) (s : State) :
    s.restLoaded n = { s with causes := s.causes ++ if n = 0 then [.pass .restExpiry] else [] } := by
  unfold State.restLoaded; split <;> simp [State.give]

/-- An ANSWER changes the link, or the count of notices dropped, and nothing else; what it makes of them depends on the link and the
counters alone (R161). -/
theorem State.answer_eq (kind : Nat) (status : Status) (data : List Byte) {s x : State} (link : x.link = s.link)
    (counters : x.counters = s.counters) :
    x.answer kind status data =
      { x with link := (s.answer kind status data).link, counters := (s.answer kind status data).counters } := by
  have room : x.noticeRoom = s.noticeRoom := by unfold State.noticeRoom; rw [link]
  unfold State.answer State.place
  rw [room]
  split
  · simp only [State.enqueue, State.onLink, link, ← counters]
  · simp only [State.bump, counters, ← link]

end Sys2Proof.Machine
end

section
/-! Proofs/ClearUnit.lean: CLEAR UNIT (O31): each TRIPPED stage of the unit is cleared and each HELD one released, in slot order (R24,
R26, R137). -/

namespace Sys2Proof.Machine

/-- The record CLEAR UNIT leaves: TRIPPED is cleared with its rest running on, HELD rests its min-off, any other is kept. -/
def Stage.clearedBy (stored : Profile) (r : Stage) : Stage :=
  match r.state with
  | .tripped => { r with state := .idle, working := if r.pendingProfile then stored else r.working,
                         pendingProfile := false }
  | .held => { r with state := .idle, rest := 1000 * r.working.minOff, run := 0, handshake := 0, token := none,
                      working := if r.pendingProfile then stored else r.working, pendingProfile := false }
  | _ => r

/-- The notices a released stage gives: a stage change, and a rest-timer expiry for a min-off of 0 (R81, R1). -/
def Stage.releaseNotices (r : Stage) : List Cause :=
  .pass .stageChange :: if r.working.minOff = 0 then [.pass .restExpiry] else []

def State.isHeld (s : State) (st : StageId) : Bool := (s.stage st).state == .held

theorem State.clearOrRelease_tripped (s : State) (st : StageId) (h : (s.stage st).state = .tripped) :
    s.clearOrRelease st = s.onStage st (Stage.clearedBy (s.store.profile st)) := by
  simp only [State.clearOrRelease, h, State.clearStage, if_true]
  refine State.onStage_congr ?_
  rw [Stage.copyPending_eq, Stage.clearedBy, h]

theorem State.clearOrRelease_held (s : State) (st : StageId) (h : (s.stage st).state = .held) :
    s.clearOrRelease st =
      { s.onStage st (Stage.clearedBy (s.store.profile st)) with
        causes := s.causes ++ (s.stage st).releaseNotices } := by
  simp only [State.clearOrRelease, h, State.releaseStage, State.restLoaded_eq]
  rw [State.onStage_congr (g := Stage.clearedBy (s.store.profile st))]
  · simp [State.give, Stage.releaseNotices]
  · simp only [Stage.copyPending_eq, Stage.clearedBy, h, seconds]

theorem State.clearOrRelease_other (s : State) (st : StageId) (tripped : (s.stage st).state ≠ .tripped)
    (held : (s.stage st).state ≠ .held) : s.clearOrRelease st = s := by
  unfold State.clearOrRelease; split <;> simp_all

theorem Stage.clearedBy_unlisted (stored : Profile) {r : Stage} (h : r.state = .tripped ∨ r.state = .held) :
    (r.clearedBy stored).state.listed = false := by
  rcases h with h | h <;> simp [Stage.clearedBy, h, StageState.listed]

theorem Stage.clearedBy_other (stored : Profile) {r : Stage} (tripped : r.state ≠ .tripped) (held : r.state ≠ .held) :
    r.clearedBy stored = r := by
  unfold Stage.clearedBy; split <;> simp_all

/-- From s to x the stages of l have been cleared or released. -/
structure State.Cleared (s x : State) (l : List StageId) : Prop where
  frame : x = { s with stages := x.stages, causes := x.causes }
  left : s.stages.Left x.stages (l.filter s.isHeld)
  stage : ∀ st, x.stage st = if st ∈ l then (s.stage st).clearedBy (s.store.profile st) else s.stage st
  causes : x.causes = s.causes ++ (l.filter s.isHeld).flatMap fun st => (s.stage st).releaseNotices

theorem State.Cleared.refl (s : State) : s.Cleared s [] := ⟨rfl, .refl _, by simp, by simp⟩

/-- One more stage is cleared or released. -/
theorem State.Cleared.next {s x : State} {l : List StageId} (c : s.Cleared x l) {st : StageId} (new : st ∉ l) :
    s.Cleared (x.clearOrRelease st) (l ++ [st]) := by
  have was : x.stage st = s.stage st := by rw [c.stage, if_neg new]
  have store : x.store = s.store := by rw [c.frame]
  have record : ∀ y : State, (∀ st', y.stage st' = if st' = st then (s.stage st).clearedBy (s.store.profile st)
      else x.stage st') → ∀ st', y.stage st' =
        if st' ∈ l ++ [st] then (s.stage st').clearedBy (s.store.profile st') else s.stage st' := by
    intro y h st'
    by_cases same : st' = st
    · simp [h, same]
    · simp [h, c.stage, same]
  by_cases held : (s.stage st).state = .held
  · have isHeld : s.isHeld st = true := by simp [State.isHeld, held]
    rw [x.clearOrRelease_held st (was ▸ held), was, store]
    refine ⟨by rw [c.frame]; rfl, ?_, record _ fun st' => ?_, ?_⟩
    · rw [List.filter_append, List.filter_singleton, isHeld]
      refine c.left.take st _ ?_ ?_ ?_ ?_ <;> simp only [State.stages_get, was]
      exact Stage.clearedBy_unlisted _ (.inr held)
    · rw [← was]; exact x.stage_onStage st st' _
    · simp [c.causes, isHeld]
  · have isHeld : s.isHeld st = false := by simp [State.isHeld, held]
    have same : (l ++ [st]).filter s.isHeld = l.filter s.isHeld := by simp [isHeld]
    by_cases tripped : (s.stage st).state = .tripped
    · have sums := x.stages.put_unlisted_unlisted st (Stage.clearedBy (s.store.profile st) (x.stage st))
        (Stage.clearedBy_unlisted _ (.inl (was ▸ tripped))) (by simp [State.stages_get, was, tripped, StageState.listed])
      obtain ⟨run, pend, order⟩ := sums
      rw [x.clearOrRelease_tripped st (was ▸ tripped), store]
      refine ⟨by rw [c.frame]; rfl, same ▸ c.left.congr run pend order, record _ fun st' => ?_, ?_⟩
      · rw [← was]; exact x.stage_onStage st st' _
      · rw [same]; exact c.causes
    · rw [x.clearOrRelease_other st (was ▸ tripped) (was ▸ held)]
      refine ⟨c.frame, same ▸ c.left, record _ fun st' => ?_, same ▸ c.causes⟩
      split
      · next h => rw [h, was, Stage.clearedBy_other _ tripped held]
      · rfl

/-- The stages of a list that names none twice, cleared or released one after another. -/
theorem State.clearOrRelease_foldl (s : State) (l : List StageId) (distinct : l.Nodup) :
    s.Cleared (l.foldl State.clearOrRelease s) l := by
  induction l using List.reverseRecOn with
  | nil => exact .refl s
  | append_singleton l st ih =>
    obtain ⟨new, distinct⟩ := List.nodup_cons.mp (List.perm_append_singleton st l |>.nodup_iff.mp distinct)
    rw [List.foldl_concat]
    exact (ih distinct).next new

theorem Stage.loads_held {r : Stage} (h : r.state = .held) : r.runLoad = r.working.load ∧ r.pendLoad = 0 := by
  simp [Stage.runLoad, Stage.pendLoad, h, StageState.countsRunning]

/-- The record CLEAR UNIT leaves of the unit (R137). -/
def UnitRec.cleared (r : UnitRec) : UnitRec := { r with presence := .unknown, errors := 0, phase := .none, window := 0 }

theorem clearFields_unit (u : UnitId) : clearFields [byteOf (u.val + 1)] = some u := by
  have small : (byteOf (u.val + 1)).toNat = u.val + 1 := by simp [byteOf]; omega
  simp only [clearFields, unitOf, small]
  simp

theorem State.exec_clearUnit {s : State} (listening : s.listening) (notHalted : s.mode ≠ .halted) (u : UnitId) :
    exec (.clearUnit [byteOf (u.val + 1)]) s = .next (s.takeClear u).drain := by
  obtain ⟨⟨supplied, -⟩, onBus⟩ := listening
  exact (State.receive_onBus _ s supplied onBus).trans (by
    simp only [State.gatewayFrame, clearFields_unit, State.unlessHalted, notHalted, if_false])

end Sys2Proof.Machine

namespace Sys2Proof.Proofs
open Sys2Proof.Machine

/-- Settles O31: the stages of the unit are cleared or released one after another, by induction on those taken, and the ANSWER
changes the link and the counters alone. -/
theorem unitsAreCleared : Obligations.UnitsAreCleared := by
  intro s u listening notHalted moved held
  obtain ⟨x, clears⟩ : ∃ x, (stagesOf u).foldl State.clearOrRelease s = x := ⟨_, rfl⟩
  have cleared : s.Cleared x (stagesOf u) := clears ▸ s.clearOrRelease_foldl _ (stagesOf_nodup u)
  let y := x.onUnit u UnitRec.cleared
  let p := { y with link := (s.answer 25 .ok [byteOf moved]).link, counters := (s.answer 25 .ok [byteOf moved]).counters }
  have movedEq : (stagesOf u).countP (fun st => (s.stage st).state == .tripped || (s.stage st).state == .held) = moved := by
    rw [stagesOf, List.countP_map]
    exact List.countP_congr fun k _ => by simp
  have exec_eq : exec (.clearUnit [byteOf (u.val + 1)]) s = .next p.drain := by
    have answered : y.answer 25 .ok [byteOf moved] = p :=
      State.answer_eq 25 .ok _ (show x.link = s.link by rw [cleared.frame]) (show x.counters = s.counters by rw [cleared.frame])
    rw [State.exec_clearUnit listening notHalted, State.takeClear, movedEq, clears, ← answered]
    rfl
  have supervisor : x.supervisor = s.supervisor := by rw [cleared.frame]
  have unit : ∀ v, x.unit v = s.unit v := fun v => by rw [State.unit, supervisor, State.unit]
  have heldEq : (stagesOf u).filter s.isHeld = held.map fun k => { unit := u, slot := k } := List.filter_map ..
  have isHeld : ∀ k ∈ held, (s.stage { unit := u, slot := k }).state = .held := fun k hk => by
    simpa [held] using (List.mem_filter.mp hk).2
  refine ⟨p, exec_eq, ?_, ?_, fun v other => ?_, ?_, fun st other => ?_, ?_, ?_, ?_, ?_, fun k => ?_⟩
  · exact congrArg (fun z : State => { z with supervisor := p.supervisor, link := p.link, counters := p.counters }) cleared.frame
  · exact (State.unit_onUnit_self x u UnitRec.cleared).trans (congrArg UnitRec.cleared (unit u))
  · exact (State.unit_onUnit_other x UnitRec.cleared other).trans (unit v)
  · exact show x.supervisor.attention = s.supervisor.attention by rw [supervisor]
  · exact (cleared.stage st).trans (if_neg (mt mem_stagesOf.mp other))
  · refine cleared.left.cRun.trans (congrArg (fun n : List Nat => s.stages.cRun - n.sum) ?_)
    rw [heldEq, List.map_map]
    exact List.map_congr_left fun k hk => (Stage.loads_held (isHeld k hk)).1
  · have none : ((stagesOf u).filter s.isHeld).map (fun st => (s.stages.get st).pendLoad) = held.map fun _ => 0 := by
      rw [heldEq, List.map_map]
      exact List.map_congr_left fun k hk => (Stage.loads_held (isHeld k hk)).2
    refine cleared.left.cPend.trans ?_
    rw [none]
    simp
  · refine cleared.left.runOrder.trans (List.filter_congr fun st _ => ?_)
    simp only [List.mem_filter, mem_stagesOf, State.isHeld, State.stages_get]
    by_cases same : st.unit = u
    · cases (s.stage st).state <;> simp [same, StageState.listed]
    · simp [same]
  · refine cleared.causes.trans ?_
    rw [listening.1.2, List.nil_append, heldEq, List.flatMap_map]
    rfl
  · exact (cleared.stage _).trans ((if_pos (mem_stagesOf.mpr rfl)).trans rfl)

end Sys2Proof.Proofs
end

section
/-! Proofs/CallRemoval.lean: what a removal of a call entry, with the feeding it may cause in REPLAY, changes and what it leaves
(R73, R74, R150 to R152). -/

namespace Sys2Proof.Machine

/-- The notices a stage gives when it leaves a listed state or loads its rest timer with 0 (R81, R1). -/
def Cause.ofStage (c : Cause) : Bool := c == .pass .stageChange || c == .pass .restExpiry

/-- From x to y nothing has changed but the stage table, the call queue, the marker, the mode controller, the counters and the
notices given. -/
def State.CallFrame (x y : State) : Prop :=
  y = { x with stages := y.stages, calls := y.calls, arbiter := { x.arbiter with marker := y.arbiter.marker },
               modes := y.modes, counters := y.counters, causes := y.causes }

theorem State.CallFrame.trans {x y z : State} (a : x.CallFrame y) (b : y.CallFrame z) : x.CallFrame z :=
  Eq.trans b (congrArg (fun w : State =>
    { w with stages := z.stages, calls := z.calls, arbiter := { w.arbiter with marker := z.arbiter.marker },
             modes := z.modes, counters := z.counters, causes := z.causes }) a)

theorem State.CallFrame.store {x y : State} (a : x.CallFrame y) : y.store = x.store := by rw [a]

theorem State.CallFrame.supervisor {x y : State} (a : x.CallFrame y) : y.supervisor = x.supervisor := by rw [a]

/-- From x to y call entries have been removed or fed: only the call queue, the marker, the roster and mode, the records of fed
stages, two counters and the notices of a feeding have changed. -/
structure State.QueueOnly (x y : State) : Prop where
  frame : x.CallFrame y
  cRun : y.stages.cRun = x.stages.cRun
  cPend : y.stages.cPend = x.stages.cPend
  runOrder : y.stages.runOrder = x.stages.runOrder
  causes : y.causes.filter Cause.ofStage = x.causes.filter Cause.ofStage
  counters : ∀ c : Counter, c ≠ .congestionOnsets → c ≠ .rosterDropped → y.counter c = x.counter c

namespace State.QueueOnly

theorem refl (x : State) : x.QueueOnly x := ⟨rfl, rfl, rfl, rfl, rfl, fun _ _ _ => rfl⟩

theorem trans {x y z : State} (a : x.QueueOnly y) (b : y.QueueOnly z) : x.QueueOnly z where
  frame := a.frame.trans b.frame
  cRun := b.cRun.trans a.cRun
  cPend := b.cPend.trans a.cPend
  runOrder := b.runOrder.trans a.runOrder
  causes := b.causes.trans a.causes
  counters := fun c h h' => (b.counters c h h').trans (a.counters c h h')

theorem onModes (f : Modes → Modes) (x : State) : x.QueueOnly (x.onModes f) :=
  ⟨rfl, rfl, rfl, rfl, rfl, fun _ _ _ => rfl⟩

theorem onCalls (f : CallQueue → CallQueue) (x : State) : x.QueueOnly (x.onCalls f) :=
  ⟨rfl, rfl, rfl, rfl, rfl, fun _ _ _ => rfl⟩

theorem bump {c : Counter} (h : c = .congestionOnsets ∨ c = .rosterDropped) (x : State) : x.QueueOnly (x.bump c) :=
  ⟨rfl, rfl, rfl, rfl, rfl, fun d hd hd' => x.bump_counter_other c d (by rcases h with rfl | rfl <;> [exact hd.symm; exact hd'.symm])⟩

theorem give {c : Cause} (h : c.ofStage = false) (x : State) : x.QueueOnly (x.give c) :=
  ⟨rfl, rfl, rfl, rfl, by simp [h], fun _ _ _ => rfl⟩

theorem setEntries (entries : List CallEntry) (x : State) : x.QueueOnly (x.setEntries entries) := by
  simp only [State.setEntries, State.formCongestion]
  split
  · exact ((onCalls _ _).trans (onCalls _ _)).trans (bump (.inl rfl) _)
  · exact (onCalls _ _).trans (onCalls _ _)

theorem removeCall (st : StageId) (x : State) : x.QueueOnly (x.removeCall st) :=
  (setEntries _ x).trans ⟨rfl, rfl, rfl, rfl, rfl, fun _ _ _ => rfl⟩

theorem enterCall (st : StageId) (cls : Nat) (replay : Bool) (x : State) : x.QueueOnly (x.enterCall st cls replay) := by
  simp only [State.enterCall]
  split <;> exact (onCalls _ x).trans (setEntries _ _)

theorem markRemoved (st : StageId) (x : State) : x.QueueOnly (x.markRemoved st false) := by
  unfold State.markRemoved
  split
  · exact (onModes _ x).trans (bump (.inr rfl) _)
  · exact refl x

theorem setMode (m : Mode) (x : State) : x.QueueOnly (x.setMode m) := by
  unfold State.setMode
  have changed : x.QueueOnly ((x.onModes fun d => { d with mode := m }).formFallback) :=
    (onModes _ x).trans (onModes _ _)
  simp only
  split
  · exact (changed.trans (give (by decide) _)).trans (give (by decide) _)
  · exact changed

theorem advanceRead (x : State) : x.QueueOnly x.advanceRead := by
  simp only [State.advanceRead]
  split
  · exact (onModes _ x).trans (setMode _ _)
  · exact onModes _ x

/-- An IDLE stage that becomes QUEUED leaves the sums and the run order list (R10, R11). -/
theorem queueStage {st : StageId} {x : State} (idle : (x.stage st).state = .idle) :
    x.QueueOnly (x.onStage st fun r => { r with state := .queued }) := by
  obtain ⟨run, pend, order⟩ := x.stages.put_unlisted_unlisted st { x.stage st with state := .queued } rfl
    (by rw [State.stages_get, idle]; rfl)
  exact ⟨rfl, run, pend, order, rfl, fun _ _ _ => rfl⟩

theorem enterReplay {st : StageId} {x : State} (idle : (x.stage st).state = .idle) : x.QueueOnly (x.enterReplay st) :=
  ((queueStage idle).trans (enterCall _ _ _ _)).trans (give (by decide) _)

end State.QueueOnly

/-! ### Feeding one roster entry -/

/-- R150's test of an entry: it is WAITING at or after the read position, and fewer than four are FED. -/
def State.wouldFeed (x : State) (position : Nat) (e : RosterEntry) : Prop :=
  e.outcome = .waiting ∧ x.modes.readPosition ≤ position ∧ x.modes.fedCount < fedLimit

theorem State.feedable_idle {x : State} {st : StageId} (h : x.feedable st = true) : (x.stage st).state = .idle := by
  simp only [State.feedable, Bool.and_eq_true, beq_iff_eq] at h
  exact h.1.1.2

/-- The state a roster entry's stage is FED from. -/
def State.fedBy (x : State) (st : StageId) : State :=
  (x.onModes fun d => { d with fedCount := d.fedCount + 1 }).enterReplay st

/-- What the feeder makes of the roster from an entry on: the entry is FED, DROPPED or left, and then the rest is fed. -/
theorem feedEntries_cons_cases (position : Nat) (e : RosterEntry) (rest : List RosterEntry) (x : State) :
    (x.wouldFeed position e ∧ x.feedable e.stage = true ∧ feedEntries position (e :: rest) x =
        ({ e with outcome := .fed } :: (feedEntries (position + 1) rest (x.fedBy e.stage)).1,
          (feedEntries (position + 1) rest (x.fedBy e.stage)).2)) ∨
      (x.wouldFeed position e ∧ x.feedable e.stage = false ∧ feedEntries position (e :: rest) x =
        ({ e with outcome := .dropped } :: (feedEntries (position + 1) rest (x.bump .rosterDropped)).1,
          (feedEntries (position + 1) rest (x.bump .rosterDropped)).2)) ∨
      (¬ x.wouldFeed position e ∧ feedEntries position (e :: rest) x =
        (e :: (feedEntries (position + 1) rest x).1, (feedEntries (position + 1) rest x).2)) := by
  by_cases would : x.wouldFeed position e
  · have would' := would
    unfold State.wouldFeed at would'
    cases feedable : x.feedable e.stage
    · exact .inr (.inl ⟨would, rfl, by simp only [feedEntries, if_pos would', feedable]; rfl⟩)
    · exact .inl ⟨would, rfl, by simp only [feedEntries, if_pos would', feedable, if_true]; rfl⟩
  · have would' := would
    unfold State.wouldFeed at would'
    exact .inr (.inr ⟨would, by simp only [feedEntries, if_neg would']⟩)

/-- An invariant of the feeding: a property of the roster and the state that each entry FED and each entry DROPPED keeps. -/
theorem feedEntries_induction (P : List RosterEntry → State → Prop)
    (fed : ∀ done e rest x, P (done ++ e :: rest) x → x.wouldFeed done.length e → x.feedable e.stage = true →
      P (done ++ { e with outcome := .fed } :: rest) (x.fedBy e.stage))
    (dropped : ∀ done e rest x, P (done ++ e :: rest) x → x.wouldFeed done.length e → x.feedable e.stage = false →
      P (done ++ { e with outcome := .dropped } :: rest) (x.bump .rosterDropped))
    (done l : List RosterEntry) (x : State) (start : P (done ++ l) x) :
    P (done ++ (feedEntries done.length l x).1) (feedEntries done.length l x).2 := by
  induction l generalizing done x with
  | nil => exact start
  | cons e rest ih =>
    have go : ∀ (e' : RosterEntry) (y : State), P (done ++ e' :: rest) y →
        P (done ++ e' :: (feedEntries (done.length + 1) rest y).1) (feedEntries (done.length + 1) rest y).2 := by
      intro e' y h
      have := ih (done ++ [e']) y (by simpa using h)
      simpa using this
    rcases feedEntries_cons_cases done.length e rest x with ⟨would, feedable, eq⟩ | ⟨would, feedable, eq⟩ | ⟨-, eq⟩ <;>
      rw [eq]
    · exact go _ _ (fed _ _ _ _ start would feedable)
    · exact go _ _ (dropped _ _ _ _ start would feedable)
    · exact go _ _ start

/-- The feeder on a whole roster, in REPLAY: the entries are fed, and then the read position advances. -/
theorem State.feed_replay {x : State} (replay : x.mode = .replay) :
    x.feed = ((feedEntries 0 x.modes.roster x).2.onModes fun d =>
      { d with roster := (feedEntries 0 x.modes.roster x).1 }).advanceRead := by
  simp only [State.feed, if_pos replay]

theorem State.feed_other {x : State} (notReplay : x.mode ≠ .replay) : x.feed = x := if_neg notReplay

theorem State.markRemoved_other {x : State} {st : StageId} {granted : Bool} (notReplay : x.mode ≠ .replay) :
    x.markRemoved st granted = x := if_neg notReplay

theorem State.QueueOnly.feedEntries (x : State) (l : List RosterEntry) : x.QueueOnly (feedEntries 0 l x).2 :=
  feedEntries_induction (fun _ y => x.QueueOnly y)
    (fun _ _ _ y h _ feedable => h.trans ((onModes _ y).trans (enterReplay (State.feedable_idle feedable))))
    (fun _ _ _ y h _ _ => h.trans (bump (.inr rfl) y)) [] l x (refl x)

theorem State.QueueOnly.feed (x : State) : x.QueueOnly x.feed := by
  by_cases replay : x.mode = .replay
  · rw [State.feed_replay replay]
    exact ((QueueOnly.feedEntries x _).trans (onModes _ _)).trans (advanceRead _)
  · rw [State.feed_other replay]; exact refl x

/-! ### Dropping a stage's call entry -/

/-- What dropping a stage's call entry is: nothing without an entry, a removal, or a removal with the feeding it causes. -/
theorem State.dropCall_cases (st : StageId) (x : State) :
    (x.callOf st = none ∧ x.dropCall st = x) ∨
      (∃ e, x.callOf st = some e ∧ (e.replay = false ∨ x.mode ≠ .replay) ∧ x.dropCall st = x.removeCall st) ∨
      (∃ e, x.callOf st = some e ∧ e.replay = true ∧ x.mode = .replay ∧
        x.dropCall st = ((x.removeCall st).markRemoved st false).feed) := by
  cases call : x.callOf st with
  | none => exact .inl ⟨rfl, by simp only [State.dropCall, call]⟩
  | some e =>
    have mode : (x.removeCall st).mode = x.mode := by simp [State.mode]
    cases replay : e.replay
    · exact .inr (.inl ⟨e, rfl, .inl replay, by simp [State.dropCall, call, replay]⟩)
    · by_cases inReplay : x.mode = .replay
      · exact .inr (.inr ⟨e, rfl, replay, inReplay, by simp only [State.dropCall, call, replay, if_true]⟩)
      · refine .inr (.inl ⟨e, rfl, .inr inReplay, ?_⟩)
        simp only [State.dropCall, call, replay, if_true]
        rw [State.markRemoved_other (mode ▸ inReplay), State.feed_other (mode ▸ inReplay)]

theorem State.QueueOnly.dropCall (st : StageId) (x : State) : x.QueueOnly (x.dropCall st) := by
  rcases x.dropCall_cases st with ⟨-, eq⟩ | ⟨e, -, -, eq⟩ | ⟨e, -, -, -, eq⟩ <;> rw [eq]
  · exact refl x
  · exact removeCall st x
  · exact ((removeCall st x).trans (markRemoved st _)).trans (feed _)

/-! ### The stages the feeder has QUEUED -/

/-- Every stage has the record r gives it, or r gives it IDLE and the feeder has QUEUED it, its entry in the roster R being FED at
or after the read position (R150). -/
def State.AtOrFed (x : State) (R : List RosterEntry) (r : StageId → Stage) : Prop :=
  ∀ st, x.stage st = r st ∨ ((r st).state = .idle ∧ x.stage st = { r st with state := .queued } ∧
    ({ stage := st, outcome := .fed } : RosterEntry) ∈ R.drop x.modes.readPosition)

/-- Replacing a WAITING entry at or after a position keeps the FED entries from there on. -/
theorem fed_mem_drop_replace {done rest : List RosterEntry} {e e' : RosterEntry} {n : Nat} {st : StageId}
    (reached : n ≤ done.length) (waiting : e.outcome = .waiting)
    (mem : ({ stage := st, outcome := .fed } : RosterEntry) ∈ (done ++ e :: rest).drop n) :
    ({ stage := st, outcome := .fed } : RosterEntry) ∈ (done ++ e' :: rest).drop n := by
  rw [List.drop_append_of_le_length reached] at mem ⊢
  simp only [List.mem_append, List.mem_cons] at mem ⊢
  rcases mem with mem | rfl | mem
  · exact .inl mem
  · simp at waiting
  · exact .inr (.inr mem)

theorem State.stage_fedBy (x : State) (st st' : StageId) :
    (x.fedBy st).stage st' = if st' = st then { x.stage st with state := .queued } else x.stage st' := by
  have : (x.fedBy st).stages = (x.onStage st fun r => { r with state := .queued }).stages := by
    simp [State.fedBy, State.enterReplay]; rfl
  rw [State.stage, this]
  exact x.stage_onStage st st' _

theorem State.fedBy_modes (x : State) (st : StageId) :
    (x.fedBy st).modes = { x.modes with fedCount := x.modes.fedCount + 1 } := by
  simp [State.fedBy]

theorem State.AtOrFed.feedEntries {x : State} {l : List RosterEntry} {r : StageId → Stage} (start : x.AtOrFed l r) :
    (feedEntries 0 l x).2.AtOrFed (feedEntries 0 l x).1 r := by
  refine feedEntries_induction (fun R y => y.AtOrFed R r) ?_ ?_ [] l x start
  · intro done e rest y h ⟨waiting, reached, _⟩ feedable st
    have read : (y.fedBy e.stage).modes.readPosition = y.modes.readPosition := by rw [State.fedBy_modes]
    rw [y.stage_fedBy, read]
    by_cases same : st = e.stage
    · subst same
      rw [if_pos rfl]
      have idle := State.feedable_idle feedable
      rcases h e.stage with is | ⟨-, queued, -⟩
      · refine .inr ⟨is ▸ idle, by rw [is], ?_⟩
        rw [List.drop_append_of_le_length reached]
        simp
      · rw [queued] at idle; cases idle
    · rw [if_neg same]
      exact (h st).imp_right fun ⟨idle, queued, mem⟩ => ⟨idle, queued, fed_mem_drop_replace reached waiting mem⟩
  · intro done e rest y h ⟨waiting, reached, _⟩ _ st
    exact (h st).imp_right fun ⟨idle, queued, mem⟩ => ⟨idle, queued, fed_mem_drop_replace reached waiting mem⟩

/-- An entry the read position may pass: RESTORED or DROPPED (R152). -/
def RosterEntry.resolved (e : RosterEntry) : Prop := e.outcome = .restored ∨ e.outcome = .dropped

theorem State.setMode_modes (m : Mode) (x : State) : ∃ fallback : Bool,
    (x.setMode m).modes = { x.modes with mode := m, fallback := fallback } := by
  unfold State.setMode
  simp only
  split <;> exact ⟨_, rfl⟩

/-- The read position advances past resolved entries alone; where all from it on are resolved, the roster is emptied and the mode
becomes COORDINATING (R152). -/
theorem State.advanceRead_cases (x : State) :
    ((∃ fallback : Bool, x.advanceRead.modes =
        { x.modes with roster := [], readPosition := 0, fedCount := 0, mode := .coordinating, fallback := fallback }) ∧
      ∀ e ∈ x.modes.roster.drop x.modes.readPosition, e.resolved) ∨
    ∃ passed later, x.modes.roster.drop x.modes.readPosition = passed ++ later ∧ (∀ e ∈ passed, e.resolved) ∧
      x.advanceRead.modes = { x.modes with readPosition := x.modes.readPosition + passed.length } := by
  let test : RosterEntry → Bool := fun e => e.outcome == .restored || e.outcome == .dropped
  let ahead := x.modes.roster.drop x.modes.readPosition
  have resolved : ∀ e ∈ ahead.takeWhile test, e.resolved := fun e he => by
    simpa [test, RosterEntry.resolved] using List.mem_takeWhile_imp he
  by_cases ends : x.modes.roster.length ≤ x.modes.readPosition + (ahead.takeWhile test).length
  · have all : ahead.takeWhile test = ahead :=
      (List.takeWhile_prefix test).eq_of_length_le (by rw [List.length_drop]; omega)
    have eq : x.advanceRead = x.emptyRoster.setMode .coordinating := if_pos ends
    obtain ⟨fallback, modes⟩ := x.emptyRoster.setMode_modes .coordinating
    exact .inl ⟨⟨fallback, by rw [eq, modes]; rfl⟩, fun e he => resolved e (all.symm ▸ he)⟩
  · have eq : x.advanceRead = x.onModes fun d => { d with readPosition := x.modes.readPosition + (ahead.takeWhile test).length } :=
      if_neg ends
    exact .inr ⟨_, ahead.dropWhile test, List.takeWhile_append_dropWhile.symm, resolved, by rw [eq]; rfl⟩

/-- Feeding changes of the mode controller the fed count alone. -/
theorem feedEntries_modes (l : List RosterEntry) (x : State) :
    (feedEntries 0 l x).2.modes = { x.modes with fedCount := (feedEntries 0 l x).2.modes.fedCount } :=
  feedEntries_induction (fun _ y => y.modes = { x.modes with fedCount := y.modes.fedCount })
    (fun _ _ _ y h _ _ => by rw [State.fedBy_modes, h]) (fun _ _ _ _ h _ _ => h) [] l x rfl

/-- Every stage has the record r gives it, but for those the feeder has QUEUED in a REPLAY that lasts. -/
def State.Follows (x : State) (r : StageId → Stage) : Prop :=
  (x.mode = .replay ∧ x.AtOrFed x.modes.roster r) ∨ (x.mode ≠ .replay ∧ ∀ st, x.stage st = r st)

theorem State.Follows.feed {x : State} {r : StageId → Stage} (h : x.Follows r) : x.feed.Follows r := by
  rcases h with ⟨replay, start⟩ | h
  · have fed := start.feedEntries
    have modes := feedEntries_modes x.modes.roster x
    rw [State.feed_replay replay]
    generalize (feedEntries 0 x.modes.roster x).1 = R at *
    generalize (feedEntries 0 x.modes.roster x).2 = y at *
    let z := y.onModes fun d => { d with roster := R }
    have stage : ∀ st, z.advanceRead.stage st = y.stage st := fun st => by simp [State.stage, z]
    rcases z.advanceRead_cases with ⟨⟨_, after⟩, resolved⟩ | ⟨passed, later, split, resolved, after⟩
    · refine .inr ⟨by rw [State.mode, after]; simp, fun st => (stage st).trans ((fed st).resolve_right ?_)⟩
      rintro ⟨-, -, mem⟩
      simpa [RosterEntry.resolved] using resolved _ mem
    · refine .inl ⟨by rw [State.mode, after]; exact (congrArg Modes.mode modes).trans replay, fun st => ?_⟩
      rw [stage, after]
      refine (fed st).imp_right fun ⟨idle, queued, mem⟩ => ⟨idle, queued, ?_⟩
      have split' : R.drop y.modes.readPosition = passed ++ later := split
      show _ ∈ R.drop (y.modes.readPosition + passed.length)
      rw [← List.drop_drop, split', List.drop_left]
      rw [split', List.mem_append] at mem
      refine mem.resolve_left fun h => ?_
      simpa [RosterEntry.resolved] using resolved _ h
  · rw [State.feed_other h.1]; exact .inr h

theorem State.stage_removeCall (x : State) (st st' : StageId) : (x.removeCall st).stage st' = x.stage st' := by
  simp [State.stage]

/-- A removal keeps what the stages follow. -/
theorem State.Follows.removeCall {x : State} {r : StageId → Stage} (h : x.Follows r) (st : StageId) :
    (x.removeCall st).Follows r := by
  have modes : (x.removeCall st).modes = x.modes := by simp
  unfold State.Follows State.AtOrFed State.mode
  simp only [modes, State.stage_removeCall]
  exact h

/-- Marking a removed entry keeps what the stages follow, for a stage that has its own record. -/
theorem State.Follows.markRemoved {x : State} {r : StageId → Stage} (h : x.Follows r) {st : StageId} (own : x.stage st = r st) :
    (x.markRemoved st false).Follows r := by
  by_cases replay : x.mode = .replay
  · have stands : x.AtOrFed x.modes.roster r := by rcases h with h | h <;> [exact h.2; exact absurd replay h.1]
    have eq : x.markRemoved st false = (x.onModes fun d =>
        { d with roster := markRoster st .fed .dropped d.roster, fedCount := d.fedCount - 1 }).bump .rosterDropped :=
      if_pos replay
    rw [eq]
    refine .inl ⟨replay, fun st' => ?_⟩
    by_cases same : st' = st
    · exact .inl (same ▸ own)
    · refine (stands st').imp_right fun ⟨idle, queued, mem⟩ => ⟨idle, queued, ?_⟩
      show _ ∈ (markRoster st .fed .dropped x.modes.roster).drop x.modes.readPosition
      rw [markRoster, ← List.map_drop]
      exact List.mem_map.mpr ⟨_, mem, if_neg fun c => same c.1⟩
  · rw [State.markRemoved_other replay]; exact h

/-- Dropping the entry of a stage that has its own record keeps what the stages follow. -/
theorem State.Follows.dropCall {x : State} {r : StageId → Stage} (h : x.Follows r) {st : StageId} (own : x.stage st = r st) :
    (x.dropCall st).Follows r := by
  rcases x.dropCall_cases st with ⟨-, eq⟩ | ⟨e, -, -, eq⟩ | ⟨e, -, -, -, eq⟩ <;> rw [eq]
  · exact h
  · exact h.removeCall st
  · exact ((h.removeCall st).markRemoved (x.stage_removeCall st st ▸ own)).feed

/-- Dropping an entry does not begin a REPLAY. -/
theorem State.dropCall_modes {x : State} (st : StageId) (notReplay : x.mode ≠ .replay) : (x.dropCall st).modes = x.modes := by
  rcases x.dropCall_cases st with ⟨-, eq⟩ | ⟨e, -, -, eq⟩ | ⟨e, -, -, replay, -⟩
  · rw [eq]
  · rw [eq]; simp
  · exact absurd replay notReplay

end Sys2Proof.Machine
end

section
/-! Proofs/QuietRemoval.lean: the call queue after the entries of some stages have been removed outside REPLAY (R73, R76, R92). -/

namespace Sys2Proof.Machine

theorem State.callOf_eq_none {x : State} {st : StageId} : x.callOf st = none ↔ ∀ e ∈ x.calls.entries, e.stage ≠ st := by
  simp [State.callOf]

theorem State.callOf_eq_some {x : State} {st : StageId} {e : CallEntry} (h : x.callOf st = some e) :
    e ∈ x.calls.entries ∧ e.stage = st :=
  ⟨List.mem_of_find?_eq_some h, by simpa using List.find?_some h⟩

/-- Setting the entries counts an onset exactly where the flag was clear and comes to be set (R76). -/
theorem State.setEntries_counter (entries : List CallEntry) (x : State) (c : Counter) :
    (x.setEntries entries).counter c =
      if c = .congestionOnsets ∧ x.setting .congestionThreshold ≤ entries.length ∧ x.calls.congested = false then
        min max16 (x.counter c + 1) else x.counter c := by
  simp only [State.setEntries, State.formCongestion]
  split
  · next onset =>
    simp only [Bool.and_eq_true, decide_eq_true_eq, Bool.not_eq_true'] at onset
    by_cases own : c = .congestionOnsets
    · subst own; rw [State.bump_counter_self, if_pos ⟨rfl, onset⟩]; rfl
    · rw [State.bump_counter_other _ _ _ (Ne.symm own), if_neg fun h => own h.1]; rfl
  · next noOnset =>
    simp only [Bool.and_eq_true, decide_eq_true_eq, Bool.not_eq_true'] at noOnset
    rw [if_neg fun h => noOnset h.2]; rfl

theorem State.removeCall_counter (st : StageId) (x : State) (c : Counter) :
    (x.removeCall st).counter c =
      if c = .congestionOnsets ∧ x.setting .congestionThreshold ≤ (x.calls.entries.filter fun e => e.stage != st).length ∧
          x.calls.congested = false then min max16 (x.counter c + 1) else x.counter c :=
  x.setEntries_counter _ c

theorem State.removeCall_calls (st : StageId) (x : State) :
    (x.removeCall st).calls =
      { x.calls with
        entries := x.calls.entries.filter fun e => e.stage != st
        congested := decide (x.setting .congestionThreshold ≤ (x.calls.entries.filter fun e => e.stage != st).length) } :=
  x.setEntries_calls _

/-- The entries of s that the stages of l have. -/
def State.entriesOf (s : State) (l : List StageId) : List CallEntry := s.calls.entries.filter fun e => decide (e.stage ∈ l)

theorem State.entriesOf_nil (s : State) : s.entriesOf [] = [] := by simp [State.entriesOf]

theorem State.mem_entriesOf {s : State} {l : List StageId} {e : CallEntry} :
    e ∈ s.entriesOf l ↔ e ∈ s.calls.entries ∧ e.stage ∈ l := by simp [State.entriesOf]

theorem State.any_entriesOf {s : State} {l : List StageId} {st : StageId} :
    ((s.entriesOf l).any fun x => x.stage == st) = true ↔ ∃ x ∈ s.calls.entries, x.stage ∈ l ∧ x.stage = st := by
  simp only [List.any_eq_true, State.mem_entriesOf, beq_iff_eq, and_assoc]

/-- From s to x the entries of the stages of l have been removed from the call queue, and no replay entry was fed. -/
structure State.QuietlyRemoved (s x : State) (l : List StageId) : Prop where
  calls : x.calls = { s.calls with
    entries := s.calls.entries.filter fun e => !decide (e.stage ∈ l)
    congested := if s.entriesOf l = [] then s.calls.congested
      else decide (s.setting .congestionThreshold ≤ (s.calls.entries.filter fun e => !decide (e.stage ∈ l)).length) }
  marker : x.arbiter.marker = s.arbiter.marker.filter fun m => !((s.entriesOf l).any fun e => e.stage == m.stage)
  onsets : s.callsExact → x.counter .congestionOnsets =
    if s.entriesOf l ≠ [] ∧ s.calls.congested = false ∧ s.setting .congestionThreshold + 1 ≤ s.calls.entries.length then
      min max16 (s.counter .congestionOnsets + 1) else s.counter .congestionOnsets
  rosterDropped : x.counter .rosterDropped = s.counter .rosterDropped
  store : x.store = s.store

theorem State.QuietlyRemoved.refl (s : State) : s.QuietlyRemoved s [] := by
  have none := s.entriesOf_nil
  refine ⟨by simp [none], by cases s.arbiter.marker <;> simp [none, Option.filter], fun _ => by simp [none], rfl, rfl⟩

/-- One entry fewer, in a queue that names no stage twice. -/
theorem length_filter_stage {l : List CallEntry} (distinct : (l.map CallEntry.stage).Nodup) {e : CallEntry} (mem : e ∈ l) :
    (l.filter fun x => x.stage != e.stage).length + 1 = l.length := by
  have one : (l.map CallEntry.stage).count e.stage = 1 :=
    List.count_eq_one_of_mem distinct (List.mem_map_of_mem mem)
  rw [List.count, List.countP_map] at one
  have split := List.length_eq_countP_add_countP (fun x : CallEntry => x.stage == e.stage) (l := l)
  rw [← List.countP_eq_length_filter]
  have same : List.countP (fun x : CallEntry => x.stage != e.stage) l =
      List.countP (fun x => decide ¬(x.stage == e.stage) = true) l := List.countP_congr fun x _ => by simp
  have one' : List.countP (fun x : CallEntry => x.stage == e.stage) l = 1 := one
  omega

/-- Outside REPLAY an entry dropped is an entry removed. -/
theorem State.dropCall_quiet {x : State} (st : StageId) (notReplay : x.mode ≠ .replay) :
    (x.callOf st = none ∧ x.dropCall st = x) ∨ (∃ e, x.callOf st = some e ∧ x.dropCall st = x.removeCall st) := by
  rcases x.dropCall_cases st with h | ⟨e, call, -, eq⟩ | ⟨e, -, -, replay, -⟩
  · exact .inl h
  · exact .inr ⟨e, call, eq⟩
  · exact absurd replay notReplay

theorem State.dropCall_quiet_causes {x : State} (st : StageId) (notReplay : x.mode ≠ .replay) :
    (x.dropCall st).causes = x.causes := by
  rcases State.dropCall_quiet st notReplay with ⟨-, eq⟩ | ⟨e, -, eq⟩ <;> rw [eq]
  simp

/-- Outside REPLAY one more stage's entry is dropped. -/
theorem State.QuietlyRemoved.next {s x : State} {l : List StageId} (q : s.QuietlyRemoved x l) (notReplay : x.mode ≠ .replay)
    {st : StageId} (new : st ∉ l) : s.QuietlyRemoved (x.dropCall st) (l ++ [st]) := by
  have entries : x.calls.entries = s.calls.entries.filter fun e => !decide (e.stage ∈ l) := by rw [q.calls]
  have setting : x.setting .congestionThreshold = s.setting .congestionThreshold := by rw [State.setting, q.store]; rfl
  have later : (x.calls.entries.filter fun e => e.stage != st) =
      s.calls.entries.filter fun e => !decide (e.stage ∈ l ++ [st]) := by
    rw [entries, List.filter_filter]
    exact List.filter_congr fun e _ => by by_cases h : e.stage = st <;> simp [h]
  rcases State.dropCall_quiet st notReplay with ⟨call, eq⟩ | ⟨e, call, eq⟩ <;> rw [eq]
  · have none : ∀ e ∈ s.calls.entries, e.stage ≠ st := fun e he same =>
      State.callOf_eq_none.mp call e (by rw [entries]; simp [he, same, new]) same
    have gone : ∀ e ∈ s.calls.entries, decide (e.stage ∈ l ++ [st]) = decide (e.stage ∈ l) := fun e he => by
      simp [none e he]
    have same : s.entriesOf (l ++ [st]) = s.entriesOf l := List.filter_congr gone
    have kept : (s.calls.entries.filter fun e => !decide (e.stage ∈ l ++ [st])) =
        s.calls.entries.filter fun e => !decide (e.stage ∈ l) :=
      List.filter_congr fun e he => by rw [gone e he]
    exact ⟨by rw [same, kept]; exact q.calls, by rw [same]; exact q.marker, by rw [same]; exact q.onsets,
      q.rosterDropped, q.store⟩
  · obtain ⟨mem, rfl⟩ := State.callOf_eq_some call
    have memS : e ∈ s.calls.entries := by rw [entries] at mem; exact (List.mem_filter.mp mem).1
    have some : s.entriesOf (l ++ [e.stage]) ≠ [] :=
      List.ne_nil_of_mem (State.mem_entriesOf.mpr ⟨memS, by simp⟩)
    have count : ∀ c, (x.removeCall e.stage).counter c = _ := x.removeCall_counter e.stage
    refine ⟨?_, ?_, fun exact_ => ?_, ?_, by simpa using q.store⟩
    · rw [State.removeCall_calls, later, if_neg some, setting, q.calls]
    · rw [State.removeCall_marker, q.marker, Option.filter_filter]
      congr 1
      funext m
      have named : ((s.entriesOf (l ++ [e.stage])).any fun x => x.stage == m.stage) =
          (((s.entriesOf l).any fun x => x.stage == m.stage) || decide (m.stage = e.stage)) := by
        rw [Bool.eq_iff_iff]
        simp only [Bool.or_eq_true, State.any_entriesOf, List.mem_append, List.mem_singleton, decide_eq_true_eq]
        constructor
        · rintro ⟨x, hx, gone | own, named⟩
          · exact .inl ⟨x, hx, gone, named⟩
          · exact .inr (named.symm.trans own)
        · rintro (⟨x, hx, gone, named⟩ | own)
          · exact ⟨x, hx, .inl gone, named⟩
          · exact ⟨e, memS, .inr rfl, own.symm⟩
      rw [named]
      by_cases own : m.stage = e.stage <;> simp [own]
    · have distinct : (x.calls.entries.map CallEntry.stage).Nodup := by
        rw [entries]; exact exact_.1.sublist (List.filter_sublist.map _)
      have fewer := length_filter_stage distinct mem
      have flag := congrArg CallQueue.congested q.calls
      rw [count, q.onsets exact_, setting]
      by_cases first : s.entriesOf l = []
      · have all : x.calls.entries = s.calls.entries := by
          rw [entries, List.filter_eq_self]
          intro y hy
          simpa using fun gone => List.filter_eq_nil_iff.mp first y hy (by simpa using gone)
        have length := congrArg List.length all
        have clear : x.calls.congested = s.calls.congested := flag.trans (if_pos first)
        rw [if_neg (c := s.entriesOf l ≠ [] ∧ _) fun h => h.1 first, clear]
        refine if_congr ⟨fun ⟨_, room, clear⟩ => ⟨some, clear, ?_⟩, fun ⟨_, clear, room⟩ => ⟨rfl, ?_, clear⟩⟩ rfl rfl <;>
          omega
      · rw [if_neg (c := _ = _ ∧ _)]
        · exact if_congr ⟨fun h => ⟨some, h.2⟩, fun h => ⟨first, h.2⟩⟩ rfl rfl
        · rintro ⟨-, room, clear⟩
          rw [flag, if_neg first, decide_eq_false_iff_not, ← entries] at clear
          omega
    · rw [count, if_neg (by simp)]; exact q.rosterDropped

end Sys2Proof.Machine
end

section
/-! Proofs/ReplayRemoval.lean: the call queue and the restart roster after the entries of some stages have been removed in REPLAY,
the feeder acting within the event (R68, R74, R150 to R152). -/

namespace Sys2Proof.Machine

/-- How many entries of a roster have an outcome. -/
def outcomes (o : RosterOutcome) (R : List RosterEntry) : Nat := R.countP fun e => e.outcome == o

theorem outcomes_replace (o : RosterOutcome) (a b : List RosterEntry) (e : RosterEntry) :
    outcomes o (a ++ e :: b) = outcomes o a + outcomes o b + if e.outcome = o then 1 else 0 := by
  simp only [outcomes, List.countP_append, List.countP_cons, beq_iff_eq]; omega

/-- A stage's entry is FED in a roster. -/
abbrev FedIn (R : List RosterEntry) (st : StageId) : Prop := ({ stage := st, outcome := .fed } : RosterEntry) ∈ R

/-- A counter raised so many times; it saturates (spec/00, section 5). -/
def raisedBy (k n : Nat) : Nat := if k = 0 then n else min max16 (n + k)

theorem raisedBy_succ (k n : Nat) : raisedBy (k + 1) n = min max16 (raisedBy k n + 1) := by
  cases k with
  | zero => simp [raisedBy]
  | succ k => simp only [raisedBy, Nat.succ_ne_zero, if_false]; omega

/-! ### The roster -/

/-- The roster R stands for the roster of s once the entries of the stages of l have been removed and the feeder has acted: the fed
count, the read position and the dropped count of x go with it. -/
structure RosterTrace (s x : State) (R : List RosterEntry) (l : List StageId) : Prop where
  stages : R.map RosterEntry.stage = s.modes.roster.map RosterEntry.stage
  kept : ∀ e ∈ s.modes.roster, e.outcome = .waiting ∨ (e.outcome = .fed ∧ e.stage ∈ l) ∨ e ∈ R
  marked : ∀ e ∈ s.calls.entries, e.stage ∈ l → e.replay = true → ({ stage := e.stage, outcome := .dropped } : RosterEntry) ∈ R
  fedCount : x.modes.fedCount = outcomes .fed R
  limit : x.modes.fedCount ≤ fedLimit
  passed : ∀ e ∈ R.take x.modes.readPosition, e.resolved
  counted : ∃ k, outcomes .dropped R = outcomes .dropped s.modes.roster + k ∧
    outcomes .waiting R + outcomes .fed R + k = outcomes .waiting s.modes.roster + outcomes .fed s.modes.roster ∧
    x.counter .rosterDropped = raisedBy k (s.counter .rosterDropped)

/-- One entry changes: WAITING to FED, or an unresolved one to DROPPED, which is counted. -/
theorem RosterTrace.replace {s x y : State} {a b : List RosterEntry} {e : RosterEntry} {l l' : List StageId}
    {o : RosterOutcome} (t : RosterTrace s x (a ++ e :: b) l)
    (was : e.outcome = .waiting ∨ (e.outcome = .fed ∧ e.stage ∈ l' ∧ o = .dropped)) (sub : ∀ st ∈ l, st ∈ l')
    (marked : ∀ c ∈ s.calls.entries, c.stage ∈ l' → c.stage ∉ l → c.replay = true → o = .dropped ∧ c.stage = e.stage)
    (read : y.modes.readPosition = x.modes.readPosition)
    (becomes : (o = .fed ∧ y.modes.fedCount = x.modes.fedCount + 1 ∧ x.modes.fedCount < fedLimit ∧
        y.counter .rosterDropped = x.counter .rosterDropped) ∨
      (o = .dropped ∧ y.modes.fedCount = x.modes.fedCount - (if e.outcome = .fed then 1 else 0) ∧
        y.counter .rosterDropped = min max16 (x.counter .rosterDropped + 1))) :
    RosterTrace s y (a ++ { e with outcome := o } :: b) l' := by
  have unresolved : ¬ e.resolved := by rcases was with h | ⟨h, -⟩ <;> simp [RosterEntry.resolved, h]
  have other : ∀ d ∈ a ++ e :: b, d ≠ e → d ∈ a ++ { e with outcome := o } :: b := by
    intro d hd ne
    simp only [List.mem_append, List.mem_cons] at hd ⊢
    tauto
  have ahead : x.modes.readPosition ≤ a.length := by
    by_contra past
    refine unresolved (t.passed e ?_)
    obtain ⟨n, eq⟩ : ∃ n, x.modes.readPosition - a.length = n + 1 := ⟨x.modes.readPosition - a.length - 1, by omega⟩
    rw [List.take_append, eq]
    simp
  refine ⟨by simpa using t.stages, fun d hd => ?_, fun c hc gone replay => ?_, ?_, ?_, ?_, ?_⟩
  · rcases t.kept d hd with h | ⟨h, mem⟩ | h
    · exact .inl h
    · exact .inr (.inl ⟨h, sub _ mem⟩)
    · by_cases same : d = e
      · subst same
        exact was.imp_right fun ⟨fed, mem, _⟩ => .inl ⟨fed, mem⟩
      · exact .inr (.inr (other d h same))
  · by_cases already : c.stage ∈ l
    · refine other _ (t.marked c hc already replay) fun same => unresolved ?_
      rw [← same]; exact .inr rfl
    · obtain ⟨rfl, same⟩ := marked c hc gone already replay
      rw [same]; simp
  · have count := t.fedCount
    rw [outcomes_replace] at count ⊢
    rcases becomes with ⟨rfl, fed, -⟩ | ⟨rfl, fed, -⟩
    · have waiting : e.outcome = .waiting := was.resolve_right (by simp)
      rw [fed, count]; simp [waiting]
    · rw [fed, count]; split <;> simp
  · have limit := t.limit
    rcases becomes with ⟨-, fed, room, -⟩ | ⟨-, fed, -⟩ <;> omega
  · rw [read, List.take_append_of_le_length ahead]
    have passed := t.passed
    rwa [List.take_append_of_le_length ahead] at passed
  · obtain ⟨k, dropped, unsettled, raised⟩ := t.counted
    simp only [outcomes_replace] at dropped unsettled ⊢
    rcases becomes with ⟨rfl, -, -, counter⟩ | ⟨rfl, -, counter⟩
    · have waiting : e.outcome = .waiting := was.resolve_right (by simp)
      simp only [waiting, reduceCtorEq, if_true, if_false] at dropped unsettled ⊢
      exact ⟨k, by omega, by omega, counter.trans raised⟩
    · refine ⟨k + 1, ?_, ?_, by rw [counter, raised, raisedBy_succ]⟩ <;> rcases was with h | ⟨h, -⟩ <;>
        simp only [h, reduceCtorEq, if_true, if_false] at dropped unsettled ⊢ <;> omega

/-! ### The call queue -/

/-- The replay entry the feeder places for a stage (R68). -/
def replayEntry (st : StageId) (stamp : Nat) : CallEntry :=
  { stage := st, cls := 0, stamp := stamp, waitAge := 0, passedOver := 0, replay := true }

/-- The queue of x stands for the queue of s once the entries of the stages of l have been removed and the feeder has placed the
entries of the stages FED in the roster R. -/
structure QueueTrace (s x : State) (R : List RosterEntry) (l : List StageId) : Prop where
  fed : ∀ st, (∃ e ∈ x.calls.entries, e.stage = st ∧ e.replay = true) ↔ FedIn R st
  distinct : (x.calls.entries.map CallEntry.stage).Nodup
  left : ∀ e ∈ s.calls.entries, e.stage ∉ l → ∃ c ∈ x.calls.entries, c = { e with stamp := c.stamp }
  origin : ∀ c ∈ x.calls.entries, (∃ e ∈ s.calls.entries, e.stage ∉ l ∧ c = { e with stamp := c.stamp }) ∨
    (FedIn R c.stage ∧ c = replayEntry c.stage c.stamp)
  congested : (∃ e ∈ s.calls.entries, e.stage ∈ l) →
    x.calls.congested = decide (x.setting .congestionThreshold ≤ x.calls.entries.length)
  marker : s.markerExact → x.arbiter.marker = s.arbiter.marker.filter fun m => !decide (m.stage ∈ l)

/-- Every stage in the call queue is QUEUED, but for one that is just leaving. -/
def State.CallsQueued (x : State) (leaving : List StageId) : Prop :=
  ∀ e ∈ x.calls.entries, e.stage ∉ leaving → (x.stage e.stage).state = .queued

/-- A stage with no entry of its own takes none out. -/
theorem QueueTrace.skip {s x : State} {R : List RosterEntry} {l : List StageId} (t : QueueTrace s x R l) {st : StageId}
    (none : ∀ e ∈ x.calls.entries, e.stage ≠ st) : QueueTrace s x R (l ++ [st]) := by
  have noneS : ∀ e ∈ s.calls.entries, e.stage ∉ l → e.stage ≠ st := fun e he out same => by
    obtain ⟨c, hc, eq⟩ := t.left e he out
    exact none c hc ((congrArg CallEntry.stage eq).trans same)
  refine ⟨t.fed, t.distinct, fun e he out => t.left e he (by simp_all), fun c hc => ?_, fun ⟨e, he, gone⟩ => ?_, fun exact_ => ?_⟩
  · exact (t.origin c hc).imp_left fun ⟨e, he, out, eq⟩ => ⟨e, he, by simp [out, noneS e he out], eq⟩
  · by_cases already : e.stage ∈ l
    · exact t.congested ⟨e, he, already⟩
    · exact absurd (by simpa [already] using gone) (noneS e he already)
  · rw [t.marker exact_]
    cases marker : s.arbiter.marker with
    | none => rfl
    | some m =>
      obtain ⟨e, he, same⟩ := List.mem_map.mp (exact_.1 m marker)
      by_cases already : m.stage ∈ l
      · simp [Option.filter, already]
      · simp [Option.filter, ← same, noneS e he (same ▸ already)]

/-- A stage's entry is removed; the roster no longer has it FED. -/
theorem QueueTrace.removeCall {s x : State} {R R' : List RosterEntry} {l : List StageId} (t : QueueTrace s x R l) (st : StageId)
    (unfed : ∀ st', FedIn R' st' ↔ FedIn R st' ∧ st' ≠ st) : QueueTrace s (x.removeCall st) R' (l ++ [st]) := by
  have mem : ∀ c, c ∈ (x.removeCall st).calls.entries ↔ c ∈ x.calls.entries ∧ c.stage ≠ st := fun c => by
    simp [State.removeCall_entries]
  refine ⟨fun st' => ?_, ?_, fun e he out => ?_, fun c hc => ?_, fun _ => ?_, fun exact_ => ?_⟩
  · rw [unfed, ← t.fed]
    constructor
    · rintro ⟨e, he, rfl, replay⟩
      exact ⟨⟨e, ((mem e).mp he).1, rfl, replay⟩, ((mem e).mp he).2⟩
    · rintro ⟨⟨e, he, rfl, replay⟩, other⟩
      exact ⟨e, (mem e).mpr ⟨he, other⟩, rfl, replay⟩
  · rw [State.removeCall_entries]; exact t.distinct.sublist (List.filter_sublist.map _)
  · simp only [List.mem_append, List.mem_singleton, not_or] at out
    obtain ⟨c, hc, eq⟩ := t.left e he out.1
    exact ⟨c, (mem c).mpr ⟨hc, by rw [eq]; exact out.2⟩, eq⟩
  · obtain ⟨hc, other⟩ := (mem c).mp hc
    refine (t.origin c hc).imp (fun ⟨e, he, out, eq⟩ => ⟨e, he, ?_, eq⟩) (fun ⟨fed, eq⟩ => ⟨(unfed _).mpr ⟨fed, other⟩, eq⟩)
    rw [show c.stage = e.stage by rw [eq]] at other
    simp [out, other]
  · have setting : (x.removeCall st).setting .congestionThreshold = x.setting .congestionThreshold := by simp [State.setting]
    rw [setting, State.removeCall_calls]
  · rw [State.removeCall_marker, t.marker exact_, Option.filter_filter]
    congr 1
    funext m
    by_cases h : m.stage = st <;> simp [h]

theorem mem_renumber {l : List CallEntry} :
    (∀ c ∈ renumber l, ∃ e ∈ l, c = { e with stamp := c.stamp }) ∧ ∀ e ∈ l, ∃ c ∈ renumber l, c = { e with stamp := c.stamp } := by
  constructor
  · simp only [renumber, List.mem_map]
    rintro _ ⟨⟨e, i⟩, h, rfl⟩
    exact ⟨e, List.fst_mem_of_mem_zipIdx h, rfl⟩
  · intro e he
    obtain ⟨i, hi, rfl⟩ := List.getElem_of_mem he
    exact ⟨{ l[i] with stamp := i }, List.mem_map.mpr ⟨(l[i], i), by simp [List.mem_zipIdx_iff_getElem?, hi], rfl⟩, rfl⟩

theorem map_stage_renumber (l : List CallEntry) : (renumber l).map CallEntry.stage = l.map CallEntry.stage := by
  simp only [renumber, List.map_map]
  rw [show CallEntry.stage ∘ (fun p : CallEntry × Nat => { p.1 with stamp := p.2 }) = CallEntry.stage ∘ Prod.fst from rfl,
    ← List.map_map, List.zipIdx_map_fst]

/-- What the feeder makes of the call queue: the new entry and those before, which may have new stamps (R66, R68). -/
theorem State.fedBy_entries (x : State) (st : StageId) :
    (∀ c ∈ (x.fedBy st).calls.entries, c = replayEntry st c.stamp ∨ ∃ e ∈ x.calls.entries, c = { e with stamp := c.stamp }) ∧
      (∃ c ∈ (x.fedBy st).calls.entries, c = replayEntry st c.stamp) ∧
      (∀ e ∈ x.calls.entries, ∃ c ∈ (x.fedBy st).calls.entries, c = { e with stamp := c.stamp }) ∧
      ((x.fedBy st).calls.entries.map CallEntry.stage).Perm (st :: x.calls.entries.map CallEntry.stage) := by
  let new := replayEntry st x.calls.arrival
  have entries : (x.fedBy st).calls.entries =
      if x.calls.arrival = max32 then renumber (insertEntry new x.calls.entries) else insertEntry new x.calls.entries :=
    (State.enterCall_calls st 0 true
      ((x.onModes fun d => { d with fedCount := d.fedCount + 1 }).onStage st fun r => { r with state := .queued })).1
  have perm : ((insertEntry new x.calls.entries).map CallEntry.stage).Perm (st :: x.calls.entries.map CallEntry.stage) :=
    (insertEntry_perm new x.calls.entries).map CallEntry.stage
  rw [entries]
  split
  · refine ⟨fun c hc => ?_, ?_, fun e he => mem_renumber.2 e (by simp [he]), by rw [map_stage_renumber]; exact perm⟩
    · obtain ⟨e, he, eq⟩ := mem_renumber.1 c hc
      rcases (mem_insertEntry _ _ _).mp he with rfl | he
      · exact .inl eq
      · exact .inr ⟨e, he, eq⟩
    · exact mem_renumber.2 new (by simp)
  · refine ⟨fun c hc => ?_, ⟨new, by simp, rfl⟩, fun e he => ⟨e, by simp [he], rfl⟩, perm⟩
    rcases (mem_insertEntry _ _ _).mp hc with rfl | hc
    · exact .inl rfl
    · exact .inr ⟨c, hc, rfl⟩

theorem State.fedBy_congested (x : State) (st : StageId) : (x.fedBy st).calls.congested =
    decide ((x.fedBy st).setting .congestionThreshold ≤ (x.fedBy st).calls.entries.length) := by
  have setting : (x.fedBy st).setting .congestionThreshold = x.setting .congestionThreshold := by
    simp [State.setting, State.fedBy]
  rw [setting]
  simp only [State.fedBy, State.enterReplay, State.enterCall, State.give_calls]
  split <;> rw [State.setEntries_calls] <;> rfl

/-- The feeder places the entry of a stage that has none. -/
theorem QueueTrace.fedBy {s x : State} {R R' : List RosterEntry} {l : List StageId} (t : QueueTrace s x R l) {st : StageId}
    (none : ∀ e ∈ x.calls.entries, e.stage ≠ st) (fed : ∀ st', FedIn R' st' ↔ FedIn R st' ∨ st' = st) :
    QueueTrace s (x.fedBy st) R' l := by
  obtain ⟨from_, ⟨new, newMem, newEq⟩, stay, perm⟩ := x.fedBy_entries st
  refine ⟨fun st' => ?_, ?_, fun e he out => ?_, fun c hc => ?_, fun _ => x.fedBy_congested st, fun exact_ => ?_⟩
  · rw [fed, ← t.fed]
    constructor
    · rintro ⟨c, hc, rfl, replay⟩
      rcases from_ c hc with eq | ⟨e, he, eq⟩
      · exact .inr (by rw [eq]; rfl)
      · rw [eq] at replay ⊢
        exact .inl ⟨e, he, rfl, replay⟩
    · rintro (⟨e, he, rfl, replay⟩ | rfl)
      · obtain ⟨c, hc, eq⟩ := stay e he
        exact ⟨c, hc, by rw [eq], by rw [eq]; exact replay⟩
      · exact ⟨new, newMem, by rw [newEq]; rfl, by rw [newEq]; rfl⟩
  · exact perm.nodup_iff.mpr (List.nodup_cons.mpr ⟨by simpa using none, t.distinct⟩)
  · obtain ⟨c, hc, eq⟩ := t.left e he out
    obtain ⟨d, hd, eq'⟩ := stay c hc
    exact ⟨d, hd, by rw [eq', eq]⟩
  · rcases from_ c hc with eq | ⟨e, he, eq⟩
    · refine .inr ⟨(fed _).mpr (.inr (by rw [eq]; rfl)), ?_⟩
      rw [show c.stage = st by rw [eq]; rfl]; exact eq
    · rw [eq]
      exact (t.origin e he).imp (fun ⟨d, hd, out, eq'⟩ => ⟨d, hd, out, by rw [eq']⟩)
        (fun ⟨fedE, eq'⟩ => ⟨(fed _).mpr (.inl fedE), by rw [eq']; rfl⟩)
  · rw [← t.marker exact_]; simp [State.fedBy]

/-- The queue alone counts, with the threshold and the marker. -/
theorem QueueTrace.congr {s x y : State} {R : List RosterEntry} {l : List StageId} (t : QueueTrace s x R l)
    (calls : y.calls = x.calls) (marker : y.arbiter.marker = x.arbiter.marker) (store : y.store = x.store) :
    QueueTrace s y R l := by
  have setting : y.setting .congestionThreshold = x.setting .congestionThreshold := by simp only [State.setting, store]
  exact ⟨by rw [calls]; exact t.fed, by rw [calls]; exact t.distinct, by rw [calls]; exact t.left,
    by rw [calls]; exact t.origin, by rw [calls, setting]; exact t.congested, by rw [marker]; exact t.marker⟩

/-- The roster's numbers alone count. -/
theorem RosterTrace.congr {s x y : State} {R : List RosterEntry} {l : List StageId} (t : RosterTrace s x R l)
    (fedCount : y.modes.fedCount = x.modes.fedCount) (read : y.modes.readPosition = x.modes.readPosition)
    (counter : y.counter .rosterDropped = x.counter .rosterDropped) : RosterTrace s y R l :=
  ⟨t.stages, t.kept, t.marked, fedCount ▸ t.fedCount, fedCount ▸ t.limit, read ▸ t.passed, counter ▸ t.counted⟩

/-! ### Feeding -/

theorem State.CallsQueued.idle_none {x : State} (q : x.CallsQueued []) {st : StageId} (idle : (x.stage st).state = .idle) :
    ∀ e ∈ x.calls.entries, e.stage ≠ st := fun e he same => by
  have := q e he (by simp)
  rw [same, idle] at this
  cases this

theorem State.CallsQueued.fedBy {x : State} (q : x.CallsQueued []) (st : StageId) : (x.fedBy st).CallsQueued [] := by
  intro c hc _
  rw [x.stage_fedBy]
  split
  · rfl
  · next other =>
    rcases (x.fedBy_entries st).1 c hc with eq | ⟨e, he, eq⟩
    · exact absurd (by rw [eq]; rfl) other
    · rw [eq]; exact q e he (by simp)

theorem fedIn_replace {a b : List RosterEntry} {e e' : RosterEntry} (was : e.outcome ≠ .fed) (st : StageId) :
    FedIn (a ++ e' :: b) st ↔ FedIn (a ++ e :: b) st ∨ (e' = { stage := st, outcome := .fed }) := by
  have : e ≠ { stage := st, outcome := .fed } := fun h => was (by rw [h])
  simp only [FedIn, List.mem_append, List.mem_cons, this.symm, false_or]
  constructor
  · rintro (h | h | h)
    · exact .inl (.inl h)
    · exact .inr h.symm
    · exact .inl (.inr h)
  · rintro ((h | h) | h)
    · exact .inl h
    · exact .inr (.inr h)
    · exact .inr (.inl h.symm)

/-- The roster R and the queue of x after the removals, every stage in the queue QUEUED. -/
structure FeedTrace (s x : State) (R : List RosterEntry) (l : List StageId) : Prop where
  roster : RosterTrace s x R l
  queue : QueueTrace s x R l
  queued : x.CallsQueued []

theorem State.fedBy_rosterDropped (x : State) (st : StageId) : (x.fedBy st).counter .rosterDropped = x.counter .rosterDropped := by
  simp only [State.fedBy, State.enterReplay, State.enterCall]
  split <;> exact (State.setEntries_counter _ _ _).trans (if_neg (by simp))

/-- Feeding keeps the trace. -/
theorem FeedTrace.feedEntries {s x : State} {R : List RosterEntry} {l : List StageId} (t : FeedTrace s x R l) :
    FeedTrace s (feedEntries 0 R x).2 (feedEntries 0 R x).1 l := by
  refine feedEntries_induction (fun R y => FeedTrace s y R l) ?_ ?_ [] R x t
  · intro done e rest y t ⟨waiting, reached, room⟩ feedable
    refine ⟨t.roster.replace (.inl waiting) (fun _ h => h) (fun _ _ h h' => absurd h h') (by rw [State.fedBy_modes])
      (.inl ⟨rfl, by rw [State.fedBy_modes], room, y.fedBy_rosterDropped _⟩),
      t.queue.fedBy (t.queued.idle_none (State.feedable_idle feedable)) fun st => ?_, t.queued.fedBy _⟩
    rw [fedIn_replace (e := e) (by simp [waiting])]
    simp [eq_comm]
  · intro done e rest y t ⟨waiting, reached, room⟩ _
    have fed : ∀ st, FedIn (done ++ { e with outcome := .dropped } :: rest) st ↔ FedIn (done ++ e :: rest) st := fun st => by
      rw [fedIn_replace (e := e) (by simp [waiting])]; simp
    refine ⟨t.roster.replace (.inl waiting) (fun _ h => h) (fun _ _ h h' => absurd h h') rfl
      (.inr ⟨rfl, by simp [waiting], y.bump_counter_self _⟩), ?_, t.queued⟩
    have q := t.queue.congr (y := y.bump .rosterDropped) rfl rfl rfl
    exact ⟨fun st => (q.fed st).trans (fed st).symm, q.distinct, q.left,
      fun c hc => (q.origin c hc).imp_right fun ⟨h, eq⟩ => ⟨(fed _).mpr h, eq⟩, q.congested, q.marker⟩

/-- Feeding leaves no entry WAITING while fewer than four are FED, of those it can reach (R150). -/
theorem feedEntries_full (position : Nat) (R : List RosterEntry) (x : State)
    (ahead : ∀ e ∈ R.take (x.modes.readPosition - position), e.resolved) :
    x.modes.fedCount ≤ (feedEntries position R x).2.modes.fedCount ∧
      ((∀ e ∈ (feedEntries position R x).1, e.outcome ≠ .waiting) ∨ fedLimit ≤ (feedEntries position R x).2.modes.fedCount) := by
  induction R generalizing position x with
  | nil => simp [feedEntries]
  | cons e rest ih =>
    have later : ∀ y : State, y.modes.readPosition = x.modes.readPosition →
        ∀ d ∈ rest.take (y.modes.readPosition - (position + 1)), d.resolved := by
      intro y read d hd
      by_cases reached : x.modes.readPosition ≤ position
      · rw [read, Nat.sub_eq_zero_of_le (by omega)] at hd; simp at hd
      · refine ahead d ?_
        rw [show x.modes.readPosition - position = y.modes.readPosition - (position + 1) + 1 by omega]
        exact List.mem_cons_of_mem _ hd
    have go : ∀ (e' : RosterEntry) (y : State), y.modes.readPosition = x.modes.readPosition →
        x.modes.fedCount ≤ y.modes.fedCount → (e'.outcome ≠ .waiting ∨ fedLimit ≤ y.modes.fedCount) →
        x.modes.fedCount ≤ (feedEntries (position + 1) rest y).2.modes.fedCount ∧
          ((∀ d ∈ e' :: (feedEntries (position + 1) rest y).1, d.outcome ≠ .waiting) ∨
            fedLimit ≤ (feedEntries (position + 1) rest y).2.modes.fedCount) := by
      intro e' y read more first
      obtain ⟨grows, full⟩ := ih (position + 1) y (later y read)
      refine ⟨Nat.le_trans more grows, ?_⟩
      rcases first with first | enough
      · exact full.imp_left fun h => by simpa [first] using h
      · exact .inr (Nat.le_trans enough grows)
    rcases feedEntries_cons_cases position e rest x with ⟨would, feedable, eq⟩ | ⟨would, feedable, eq⟩ | ⟨wouldNot, eq⟩ <;>
      rw [eq]
    · exact go _ _ (by rw [State.fedBy_modes]) (by rw [State.fedBy_modes]; simp) (.inl (by simp))
    · exact go _ _ rfl (Nat.le_refl _) (.inl (by simp))
    · refine go _ _ rfl (Nat.le_refl _) ?_
      by_cases waiting : e.outcome = .waiting
      · refine .inr (Nat.le_of_not_lt fun room => wouldNot ⟨waiting, ?_, room⟩)
        by_contra past
        obtain ⟨n, n_eq⟩ : ∃ n, x.modes.readPosition - position = n + 1 := ⟨x.modes.readPosition - position - 1, by omega⟩
        have : e.resolved := ahead e (by rw [n_eq]; simp)
        rw [RosterEntry.resolved, waiting] at this
        simp at this
      · exact .inl waiting

/-- The roster of x, or, where the REPLAY is over, one whose entries are all resolved (R152). -/
def State.HasRoster (x : State) (R : List RosterEntry) : Prop :=
  (x.mode = .replay ∧ x.modes.roster = R) ∨ (x.mode = .coordinating ∧ x.modes.roster = [] ∧ ∀ e ∈ R, e.resolved)

theorem outcomes_eq_zero {o : RosterOutcome} {R : List RosterEntry} : outcomes o R = 0 ↔ ∀ e ∈ R, e.outcome ≠ o := by
  simp [outcomes, List.countP_eq_zero]

/-- After the feeder, no entry waits while fewer than four are FED. -/
theorem FeedTrace.feed {s x : State} {R : List RosterEntry} {l : List StageId} (t : FeedTrace s x R l)
    (replay : x.mode = .replay) (roster : x.modes.roster = R) :
    ∃ R', FeedTrace s x.feed R' l ∧ x.feed.HasRoster R' ∧ (outcomes .waiting R' = 0 ∨ outcomes .fed R' = fedLimit) := by
  have fed := t.feedEntries
  have full := (feedEntries_full 0 R x t.roster.passed).2
  have modes := feedEntries_modes R x
  rw [State.feed_replay replay, roster]
  generalize (Machine.feedEntries 0 R x).1 = R' at *
  generalize (Machine.feedEntries 0 R x).2 = y at *
  let z := y.onModes fun d => { d with roster := R' }
  have stage : ∀ st, z.advanceRead.stage st = y.stage st := fun st => by simp [State.stage, z]
  have calls : z.advanceRead.calls = y.calls := by simp [z]
  have queue : QueueTrace s z.advanceRead R' l := fed.queue.congr calls (by simp [z]) (by simp [z])
  have queued : z.advanceRead.CallsQueued [] := fun e he h => by rw [stage]; exact fed.queued e (calls ▸ he) h
  have counter : z.advanceRead.counter .rosterDropped = y.counter .rosterDropped := by simp [State.counter, z]
  have enough : outcomes .waiting R' = 0 ∨ outcomes .fed R' = fedLimit := by
    rw [← fed.roster.fedCount, outcomes_eq_zero]
    exact full.imp_right fun h => Nat.le_antisymm fed.roster.limit h
  refine ⟨R', ?_⟩
  rcases z.advanceRead_cases with ⟨⟨_, after⟩, ahead⟩ | ⟨passed, later, split, ahead, after⟩
  · have all : ∀ e ∈ R', e.resolved := fun e he => by
      rw [← List.take_append_drop y.modes.readPosition R', List.mem_append] at he
      exact he.elim (fed.roster.passed e) (ahead e)
    have none : outcomes .fed R' = 0 := outcomes_eq_zero.mpr fun e he h => by
      simpa [RosterEntry.resolved, h] using all e he
    have r := fed.roster
    refine ⟨⟨⟨r.stages, r.kept, r.marked, by rw [after, none], by rw [after]; simp, by rw [after]; simp,
      counter ▸ r.counted⟩, queue, queued⟩, .inr ⟨by rw [State.mode, after], by rw [after], all⟩, enough⟩
  · have split' : R'.drop y.modes.readPosition = passed ++ later := split
    have r := fed.roster
    refine ⟨⟨⟨r.stages, r.kept, r.marked, by rw [after]; exact r.fedCount, by rw [after]; exact r.limit, ?_,
      counter ▸ r.counted⟩, queue, queued⟩, .inl ⟨?_, by rw [after]; rfl⟩, enough⟩
    · rw [after]
      show ∀ e ∈ R'.take (y.modes.readPosition + passed.length), e.resolved
      rw [List.take_add, split', List.take_left]
      intro e he
      exact (List.mem_append.mp he).elim (r.passed e) (ahead e)
    · rw [State.mode, after]; exact (congrArg Modes.mode modes).trans replay

/-! ### Dropping a stage's entry -/

/-- From s to x the entries of the stages of l have been dropped in a REPLAY, which may have ended since. -/
structure ReplayTrace (s x : State) (R : List RosterEntry) (l : List StageId) : Prop extends FeedTrace s x R l where
  hasRoster : x.HasRoster R
  full : (∃ e ∈ s.calls.entries, e.stage ∈ l ∧ e.replay = true) → outcomes .waiting R = 0 ∨ outcomes .fed R = fedLimit

/-- At the start nothing has been dropped. -/
theorem ReplayTrace.refl {s : State} (replay : s.mode = .replay) (calls : s.callsExact) (roster : s.rosterExact) :
    ReplayTrace s s s.modes.roster [] := by
  obtain ⟨distinct, -, queued, -⟩ := calls
  obtain ⟨-, fedCount, limit, -, passed, fed, -⟩ := roster
  refine ⟨⟨⟨rfl, fun e he => .inr (.inr he), by simp, fedCount, limit, passed, 0, rfl, rfl, rfl⟩,
    ⟨fun st => fed st.unit st.slot, distinct, fun e he _ => ⟨e, he, rfl⟩, fun c hc => .inl ⟨c, hc, by simp, rfl⟩, by simp,
      fun _ => ?_⟩, fun e he _ => (queued e.stage.unit e.stage.slot).mp (List.mem_map_of_mem he)⟩, .inl ⟨replay, rfl⟩, by simp⟩
  cases s.arbiter.marker <;> simp [Option.filter]

/-- An entry of s whose stage is still to be dropped stands in the queue. -/
theorem QueueTrace.not_fed {s x : State} {R : List RosterEntry} {l : List StageId} (t : QueueTrace s x R l) {st : StageId}
    (unfed : ¬ FedIn R st) {e : CallEntry} (he : e ∈ s.calls.entries) (gone : e.stage ∈ l ++ [st]) (replay : e.replay = true) :
    e.stage ∈ l := by
  by_contra out
  obtain ⟨c, hc, eq⟩ := t.left e he out
  have same : e.stage = st := by simpa [out] using gone
  exact unfed ((t.fed st).mp ⟨c, hc, by rw [eq]; exact same, by rw [eq]; exact replay⟩)

/-- A stage that is not FED leaves the roster as it is. -/
theorem RosterTrace.skip {s x : State} {R : List RosterEntry} {l : List StageId} (t : RosterTrace s x R l)
    (q : QueueTrace s x R l) {st : StageId} (unfed : ¬ FedIn R st) : RosterTrace s x R (l ++ [st]) :=
  ⟨t.stages, fun e he => (t.kept e he).imp_right (Or.imp_left fun ⟨fed, gone⟩ => ⟨fed, by simp [gone]⟩),
    fun e he gone replay => t.marked e he (q.not_fed unfed he gone replay) replay, t.fedCount, t.limit, t.passed, t.counted⟩

/-- In a roster that names no stage twice, marking a FED entry changes that entry alone (R151). -/
theorem markRoster_fed {a b : List RosterEntry} {st : StageId}
    (distinct : ((a ++ { stage := st, outcome := .fed } :: b).map RosterEntry.stage).Nodup) :
    markRoster st .fed .dropped (a ++ { stage := st, outcome := .fed } :: b) =
      a ++ { stage := st, outcome := .dropped } :: b := by
  have others : ∀ e ∈ a ++ b, ¬ (e.stage = st ∧ e.outcome = .fed) := by
    rintro e he ⟨rfl, -⟩
    have moved := (List.perm_middle.map RosterEntry.stage).nodup_iff.mp distinct
    exact (List.nodup_cons.mp moved).1 (List.mem_map.mpr ⟨e, he, rfl⟩)
  have same : ∀ c : List RosterEntry, (∀ e ∈ c, e ∈ a ++ b) → markRoster st .fed .dropped c = c := fun c sub =>
    (List.map_congr_left fun e he => if_neg (others e (sub e he))).trans (List.map_id c)
  simp only [markRoster, List.map_append, List.map_cons] at same ⊢
  rw [same a (by simp +contextual), same b (by simp +contextual)]
  simp

/-- Dropping the entry of one more stage, which has left its state QUEUED, keeps the trace. -/
theorem ReplayTrace.dropCall {s x : State} {R : List RosterEntry} {l : List StageId} {st : StageId}
    (distinct : (s.modes.roster.map RosterEntry.stage).Nodup) (roster : RosterTrace s x R l) (queue : QueueTrace s x R l)
    (queued : x.CallsQueued [st]) (has : x.HasRoster R)
    (full : (∃ e ∈ s.calls.entries, e.stage ∈ l ∧ e.replay = true) → outcomes .waiting R = 0 ∨ outcomes .fed R = fedLimit) :
    ∃ R', ReplayTrace s (x.dropCall st) R' (l ++ [st]) := by
  have fuller : ¬ FedIn R st → (∃ e ∈ s.calls.entries, e.stage ∈ l ++ [st] ∧ e.replay = true) →
      outcomes .waiting R = 0 ∨ outcomes .fed R = fedLimit := fun unfed ⟨e, he, gone, replay⟩ =>
    full ⟨e, he, queue.not_fed unfed he gone replay, replay⟩
  have removedQueued : (x.removeCall st).CallsQueued [] := fun e he _ => by
    rw [State.removeCall_entries, List.mem_filter] at he
    rw [State.stage_removeCall]
    exact queued e he.1 (by simpa using he.2)
  have removedModes : (x.removeCall st).modes = x.modes := by simp
  have removedCounter : (x.removeCall st).counter .rosterDropped = x.counter .rosterDropped := by
    rw [State.removeCall_counter]; exact if_neg (by simp)
  rcases x.dropCall_cases st with ⟨call, eq⟩ | ⟨e, call, plain, eq⟩ | ⟨e, call, replay, inReplay, eq⟩ <;> rw [eq]
  · have none := State.callOf_eq_none.mp call
    have unfed : ¬ FedIn R st := fun fed => by
      obtain ⟨e, he, same, -⟩ := (queue.fed st).mpr fed
      exact none e he same
    exact ⟨R, ⟨roster.skip queue unfed, queue.skip none, fun e he _ => queued e he (by simpa using none e he)⟩, has, fuller unfed⟩
  · obtain ⟨mem, own⟩ := State.callOf_eq_some call
    have unfed : ¬ FedIn R st := fun fed => by
      rcases has with ⟨inReplay, -⟩ | ⟨-, -, resolved⟩
      · obtain ⟨c, hc, same, replay⟩ := (queue.fed st).mpr fed
        have : c = e := List.inj_on_of_nodup_map queue.distinct hc mem (same.trans own.symm)
        rcases plain with notReplay | notInReplay
        · rw [this, notReplay] at replay; cases replay
        · exact notInReplay inReplay
      · simpa [RosterEntry.resolved] using resolved _ fed
    have skipped : RosterTrace s (x.removeCall st) R (l ++ [st]) :=
      (roster.skip queue unfed).congr (by rw [removedModes]) (by rw [removedModes]) removedCounter
    refine ⟨R, ⟨skipped, queue.removeCall st fun st' => ?_, removedQueued⟩, ?_, fuller unfed⟩
    · exact ⟨fun fed => ⟨fed, fun same => unfed (same ▸ fed)⟩, And.left⟩
    · unfold State.HasRoster State.mode; rw [removedModes]; exact has
  · obtain ⟨mem, own⟩ := State.callOf_eq_some call
    obtain ⟨a, b, split⟩ := List.append_of_mem ((queue.fed st).mp ⟨e, mem, own, replay⟩)
    subst split
    have rosterEq : x.modes.roster = a ++ { stage := st, outcome := .fed } :: b := by
      rcases has with ⟨-, eq⟩ | ⟨ended, -⟩
      · exact eq
      · rw [inReplay] at ended; cases ended
    have distinctR := roster.stages ▸ distinct
    let y := (x.removeCall st).markRemoved st false
    have y_eq : y = ((x.removeCall st).onModes fun d =>
        { d with roster := markRoster st .fed .dropped d.roster, fedCount := d.fedCount - 1 }).bump .rosterDropped :=
      if_pos (by rw [State.mode, removedModes]; exact inReplay)
    have modes : y.modes = { x.modes with
        roster := a ++ { stage := st, outcome := .dropped } :: b, fedCount := x.modes.fedCount - 1 } := by
      rw [y_eq]; simp [rosterEq, markRoster_fed distinctR]
    have counter : y.counter .rosterDropped = min max16 (x.counter .rosterDropped + 1) := by
      rw [y_eq, State.bump_counter_self, ← removedCounter]; rfl
    have unfed : ∀ st', FedIn (a ++ { stage := st, outcome := .dropped } :: b) st' ↔
        FedIn (a ++ { stage := st, outcome := .fed } :: b) st' ∧ st' ≠ st := by
      intro st'
      have moved := (List.perm_middle.map RosterEntry.stage).nodup_iff.mp distinctR
      have none := (List.nodup_cons.mp moved).1
      simp only [FedIn, List.mem_append, List.mem_cons, RosterEntry.mk.injEq, reduceCtorEq, and_false, and_true, false_or]
      constructor
      · intro h
        refine ⟨h.imp_right .inr, ?_⟩
        rintro rfl
        exact none (List.mem_map.mpr ⟨_, List.mem_append.mpr h, rfl⟩)
      · rintro ⟨h | h | h, other⟩
        · exact .inl h
        · exact absurd h other
        · exact .inr h
    have trace : FeedTrace s y (a ++ { stage := st, outcome := .dropped } :: b) (l ++ [st]) := by
      refine ⟨roster.replace (.inr ⟨rfl, by simp, rfl⟩) (by simp +contextual) (fun c _ gone out _ => ⟨rfl, by simpa [out] using gone⟩)
        (by rw [modes]) (.inr ⟨rfl, by rw [modes]; rfl, counter⟩),
        (queue.removeCall st unfed).congr (by rw [y_eq]; rfl) (by rw [y_eq]; rfl) (by rw [y_eq]; rfl), ?_⟩
      rw [y_eq]; exact removedQueued
    obtain ⟨R', fed, has', enough⟩ := trace.feed (by rw [State.mode, modes]; exact inReplay) (by rw [modes])
    exact ⟨R', fed, has', fun _ => enough⟩

/-- The stages, the queue, the marker, the mode controller and the count alone count. -/
theorem ReplayTrace.congr {s x y : State} {R : List RosterEntry} {l : List StageId} (t : ReplayTrace s x R l)
    (stages : y.stages = x.stages) (calls : y.calls = x.calls) (marker : y.arbiter.marker = x.arbiter.marker)
    (modes : y.modes = x.modes) (store : y.store = x.store)
    (counter : y.counter .rosterDropped = x.counter .rosterDropped) : ReplayTrace s y R l := by
  refine ⟨⟨t.roster.congr (by rw [modes]) (by rw [modes]) counter, t.queue.congr calls marker store, ?_⟩, ?_, t.full⟩
  · unfold State.CallsQueued State.stage; rw [calls, stages]; exact t.queued
  · unfold State.HasRoster State.mode; rw [modes]; exact t.hasRoster

/-- What the trace says of the queue and the roster: State.replayRemoved. -/
theorem ReplayTrace.replayRemoved {s x : State} {R : List RosterEntry} {l : List StageId} (t : ReplayTrace s x R l)
    (arbiter : x.arbiter = { s.arbiter with marker := x.arbiter.marker }) (distinct : (s.modes.roster.map RosterEntry.stage).Nodup) :
    s.replayRemoved x fun st => decide (st ∈ l) := by
  have r := t.roster
  have q := t.queue
  have inRoster : ∀ st, FedIn R st → x.modes.roster = R := fun st fed => by
    rcases t.hasRoster with ⟨-, eq⟩ | ⟨-, -, resolved⟩
    · exact eq
    · simpa [RosterEntry.resolved] using resolved _ fed
  have whileReplay : x.mode = .replay → x.modes.roster = R := fun inReplay => by
    rcases t.hasRoster with ⟨-, eq⟩ | ⟨ended, -⟩
    · exact eq
    · rw [inReplay] at ended; cases ended
  have distinctR := r.stages ▸ distinct
  obtain ⟨k, moreDropped, fewerOpen, raised⟩ := r.counted
  refine ⟨?_, fun e he replay => ?_, fun e he out => q.left e he (by simpa using out), fun c hc => ?_, fun some => ?_,
    fun exact_ => ?_, fun inReplay => ?_, ?_⟩
  · exact t.hasRoster.imp And.left fun ⟨mode, empty, _⟩ => ⟨mode, empty⟩
  · obtain ⟨he, gone⟩ := State.mem_entriesOf.mp he
    have dropped := r.marked e he gone replay
    refine ⟨fun c hc same => ?_, fun inReplay => whileReplay inReplay ▸ dropped⟩
    rcases q.origin c hc with ⟨d, -, out, eq⟩ | ⟨fed, -⟩
    · rw [eq] at same; exact out (same ▸ gone)
    · have := List.inj_on_of_nodup_map distinctR fed dropped same
      exact absurd (congrArg RosterEntry.outcome this) (by simp)
  · exact (q.origin c hc).imp (fun ⟨e, he, out, eq⟩ => ⟨e, he, by simpa using out, eq⟩)
      fun ⟨fed, eq⟩ => ⟨inRoster _ fed ▸ fed, eq⟩
  · obtain ⟨e, he⟩ := List.exists_mem_of_ne_nil _ some
    exact q.congested ⟨e, State.mem_entriesOf.mp he⟩
  · have marker : x.arbiter.marker = s.arbiter.marker.filter fun m => !((s.entriesOf l).any fun e => e.stage == m.stage) := by
      rw [q.marker exact_]
      cases marker : s.arbiter.marker with
      | none => rfl
      | some m =>
        obtain ⟨e, he, same⟩ := List.mem_map.mp (exact_.1 m marker)
        have : ((s.entriesOf l).any fun e => e.stage == m.stage) = decide (m.stage ∈ l) := by
          rw [Bool.eq_iff_iff, State.any_entriesOf, decide_eq_true_iff]
          exact ⟨fun ⟨c, _, gone, named⟩ => named ▸ gone, fun gone => ⟨e, he, same ▸ gone, same⟩⟩
        simp only [Option.filter, this]
    rw [arbiter, marker]; rfl
  · obtain rfl := whileReplay inReplay
    refine ⟨r.stages, fun e he => (r.kept e he).imp_right (Or.imp_left fun ⟨fed, gone⟩ => ⟨fed, by simpa using gone⟩),
      r.fedCount, fun some => ?_⟩
    obtain ⟨e, he, replay⟩ := List.any_eq_true.mp some
    obtain ⟨he, gone⟩ := State.mem_entriesOf.mp he
    exact t.full ⟨e, he, gone, replay⟩
  · have count : (if x.mode = .replay then outcomes .dropped x.modes.roster - outcomes .dropped s.modes.roster
        else outcomes .waiting s.modes.roster + outcomes .fed s.modes.roster) = k := by
      rcases t.hasRoster with ⟨inReplay, eq⟩ | ⟨ended, -, resolved⟩
      · rw [if_pos inReplay, eq, moreDropped]; omega
      · have waiting : outcomes .waiting R = 0 := outcomes_eq_zero.mpr fun e he h => by
          simpa [RosterEntry.resolved, h] using resolved e he
        have fed : outcomes .fed R = 0 := outcomes_eq_zero.mpr fun e he h => by
          simpa [RosterEntry.resolved, h] using resolved e he
        rw [if_neg (by rw [ended]; simp)]
        omega
    exact (raised.trans (by rw [← count]; rfl))

end Sys2Proof.Machine
end

section
/-! Proofs/Trip.lean: TRIP (O29): each named stage is tripped in slot order, its call entry dropped (R25, R133). -/

namespace Sys2Proof.Machine

/-- The record a trip leaves (R25). -/
def Stage.trippedBy (cause : Nat) (stored : Profile) (r : Stage) : Stage :=
  { r with state := if r.state = .tripped ∨ cause ≤ 3 then .tripped else .idle,
           rest := 1000 * r.working.minOff, run := 0, handshake := 0, token := none, withdrawn := none,
           window := 0, rosterFlag := false, withdrawnByReplay := false,
           working := if r.pendingProfile then stored else r.working, pendingProfile := false }

/-- The notices a tripped stage gives (R81, R1). -/
def Stage.tripNotices (r : Stage) : List Cause :=
  (if r.state = .granted ∨ r.state = .running ∨ r.state = .stopping then [.pass .stageChange] else []) ++
    if r.working.minOff = 0 then [.pass .restExpiry] else []

theorem lockoutCause_iff {cause : Nat} (h : 1 ≤ cause) : lockoutCause cause = true ↔ cause ≤ 3 := by
  simp only [lockoutCause, Bool.or_eq_true, beq_iff_eq]; omega

/-- A trip changes the record, drops the call entry and then gives the stage's own notices. -/
theorem State.tripStage_eq {cause : Nat} (h : 1 ≤ cause) (st : StageId) (s : State) :
    s.tripStage cause st =
      let dropped := (s.onStage st (Stage.trippedBy cause (s.store.profile st))).dropCall st
      { dropped with causes := dropped.causes ++ (s.stage st).tripNotices } := by
  simp only [State.tripStage]
  rw [State.onStage_congr (g := Stage.trippedBy cause (s.store.profile st))]
  · cases state : (s.stage st).state <;> simp [State.restLoaded_eq, State.give, Stage.tripNotices, state]
  · simp only [Stage.copyPending_eq, lockoutCause_iff h, seconds, Stage.trippedBy]

theorem Stage.trippedBy_unlisted (cause : Nat) (stored : Profile) (r : Stage) :
    (r.trippedBy cause stored).state.listed = false := by
  simp only [Stage.trippedBy]; split <;> rfl

theorem Stage.tripNotices_ofStage (r : Stage) : r.tripNotices.filter Cause.ofStage = r.tripNotices := by
  unfold Stage.tripNotices; split <;> split <;> rfl

/-- A trip does not see that the feeder has QUEUED an IDLE stage. -/
theorem Stage.trip_queued {r : Stage} (idle : r.state = .idle) (cause : Nat) (stored : Profile) :
    Stage.trippedBy cause stored { r with state := .queued } = r.trippedBy cause stored ∧
      Stage.tripNotices { r with state := .queued } = r.tripNotices := by
  simp [Stage.trippedBy, Stage.tripNotices, idle]

/-- What the stages follow once those of l have been tripped. -/
def State.trippedRecord (s : State) (cause : Nat) (l : List StageId) (st : StageId) : Stage :=
  if st ∈ l then (s.stage st).trippedBy cause (s.store.profile st) else s.stage st

/-- From s to x the stages of l have been tripped: what holds in every mode. -/
structure State.Tripped (cause : Nat) (s x : State) (l : List StageId) : Prop where
  frame : s.CallFrame x
  left : s.stages.Left x.stages l
  follows : x.Follows (s.trippedRecord cause l)
  modes : s.mode ≠ .replay → x.modes = s.modes
  causes : x.causes.filter Cause.ofStage = s.causes.filter Cause.ofStage ++ l.flatMap fun st => (s.stage st).tripNotices
  counters : ∀ c : Counter, c ≠ .congestionOnsets → c ≠ .rosterDropped → x.counter c = s.counter c

theorem State.Tripped.refl (cause : Nat) (s : State) : s.Tripped cause s [] where
  frame := rfl
  left := .refl _
  follows := by
    by_cases replay : s.mode = .replay
    · exact .inl ⟨replay, fun _ => .inl rfl⟩
    · exact .inr ⟨replay, fun _ => rfl⟩
  modes _ := rfl
  causes := by simp
  counters _ _ _ := rfl

/-- A stage not tripped yet stands as it did, or the feeder has QUEUED it; a trip sees no difference. -/
theorem State.Tripped.was {cause : Nat} {s x : State} {l : List StageId} (t : s.Tripped cause x l) {st : StageId}
    (new : st ∉ l) : x.stage st = s.stage st ∨
      ((s.stage st).state = .idle ∧ x.stage st = { s.stage st with state := .queued }) := by
  have record : s.trippedRecord cause l st = s.stage st := if_neg new
  rcases t.follows with ⟨-, h⟩ | ⟨-, h⟩
  · exact record ▸ (h st).imp_right fun ⟨idle, queued, _⟩ => ⟨idle, queued⟩
  · exact .inl (record ▸ h st)

/-- A trip makes of a stage not tripped yet what it would have made of it at the start, and the stage counts as it did. -/
theorem State.Tripped.seen {cause : Nat} {s x : State} {l : List StageId} (t : s.Tripped cause x l) {st : StageId}
    (new : st ∉ l) : (x.stage st).trippedBy cause (x.store.profile st) = (s.stage st).trippedBy cause (s.store.profile st) ∧
      (x.stage st).tripNotices = (s.stage st).tripNotices ∧ (x.stage st).runLoad = (s.stage st).runLoad ∧
      (x.stage st).pendLoad = (s.stage st).pendLoad ∧ (x.stage st).state.listed = (s.stage st).state.listed := by
  rw [t.frame.store]
  rcases t.was new with same | ⟨idle, queued⟩
  · simp [same]
  · have sees := Stage.trip_queued idle cause (s.store.profile st)
    rw [queued]
    exact ⟨sees.1, sees.2, by simp [Stage.runLoad, idle, StageState.countsRunning], by simp [Stage.pendLoad, idle],
      by simp [idle, StageState.listed]⟩

/-- A trip's own change of the record keeps what the stages follow. -/
theorem State.Follows.onStage {x : State} {r r' : StageId → Stage} (h : x.Follows r) {st : StageId} {f : Stage → Stage}
    (own : f (x.stage st) = r' st) (others : ∀ st', st' ≠ st → r' st' = r st') : (x.onStage st f).Follows r' := by
  have at_ : ∀ st', (x.onStage st f).stage st' = if st' = st then f (x.stage st) else x.stage st' :=
    fun st' => x.stage_onStage st st' f
  refine h.imp (fun ⟨replay, h⟩ => ⟨replay, fun st' => ?_⟩) (fun ⟨notReplay, h⟩ => ⟨notReplay, fun st' => ?_⟩) <;> rw [at_]
  · by_cases same : st' = st
    · exact .inl (by rw [if_pos same, own, same])
    · rw [if_neg same, others st' same]; exact h st'
  · by_cases same : st' = st
    · rw [if_pos same, own, same]
    · rw [if_neg same, others st' same]; exact h st'

/-- One more stage is tripped. -/
theorem State.Tripped.next {cause : Nat} (known : 1 ≤ cause) {s x : State} {l : List StageId} (t : s.Tripped cause x l)
    {st : StageId} (new : st ∉ l) : s.Tripped cause (x.tripStage cause st) (l ++ [st]) := by
  obtain ⟨record, notices, run, pend, listed⟩ := t.seen new
  let y := x.onStage st (Stage.trippedBy cause (x.store.profile st))
  have self : Stage.trippedBy cause (x.store.profile st) (x.stage st) = s.trippedRecord cause (l ++ [st]) st := by
    rw [record, State.trippedRecord, if_pos (by simp)]
  have changed : y.Follows (s.trippedRecord cause (l ++ [st])) :=
    t.follows.onStage self fun st' other => by simp [State.trippedRecord, other]
  have own : y.stage st = s.trippedRecord cause (l ++ [st]) st := (x.stage_onStage_self st _).trans self
  have dropped := State.QueueOnly.dropCall st y
  have left : s.stages.Left y.stages (l ++ [st]) :=
    t.left.take st _ (Stage.trippedBy_unlisted _ _ _) run pend listed
  rw [State.tripStage_eq known]
  refine ⟨(t.frame.trans dropped.frame).trans rfl, left.congr dropped.cRun dropped.cPend dropped.runOrder,
    changed.dropCall own, fun notReplay => ?_, ?_, fun c h h' => (dropped.counters c h h').trans (t.counters c h h')⟩
  · have kept : y.modes = s.modes := t.modes notReplay
    exact (State.dropCall_modes st (by rw [State.mode, kept]; exact notReplay)).trans kept
  · rw [List.filter_append, dropped.causes, notices, Stage.tripNotices_ofStage]
    simp [y, t.causes]

/-- The stages of a list that names none twice, tripped one after another. -/
theorem State.tripStage_foldl {cause : Nat} (known : 1 ≤ cause) (s : State) (l : List StageId) (distinct : l.Nodup) :
    s.Tripped cause (l.foldl (fun s st => s.tripStage cause st) s) l := by
  induction l using List.reverseRecOn with
  | nil => exact .refl cause s
  | append_singleton l st ih =>
    obtain ⟨new, distinct⟩ := List.nodup_cons.mp (List.perm_append_singleton st l |>.nodup_iff.mp distinct)
    rw [List.foldl_concat]
    exact (ih distinct).next known new


/-- Each stage has its record, or, in REPLAY, the feeder has QUEUED it since. -/
theorem State.Tripped.leftOrFed {cause : Nat} {s x : State} {l : List StageId} (t : s.Tripped cause x l) (st : StageId) :
    s.leftOrFed x st (s.trippedRecord cause l st) := by
  rcases t.follows with ⟨inReplay, h⟩ | ⟨-, h⟩
  · refine (h st).imp_right fun ⟨idle, queued, fed⟩ => ⟨?_, inReplay, idle, queued, List.mem_of_mem_drop fed⟩
    by_contra notReplay
    rw [State.mode, t.modes notReplay] at inReplay
    exact notReplay inReplay
  · exact .inl (h st)

/-- Outside REPLAY the trips remove the entries of the named stages and give the stages' own notices alone. -/
theorem State.tripStage_foldl_quiet {cause : Nat} (known : 1 ≤ cause) {s : State} (notReplay : s.mode ≠ .replay)
    (l : List StageId) (distinct : l.Nodup) :
    let x := l.foldl (fun s st => s.tripStage cause st) s
    s.QuietlyRemoved x l ∧ x.causes = s.causes ++ l.flatMap fun st => (s.stage st).tripNotices := by
  induction l using List.reverseRecOn with
  | nil => exact ⟨.refl s, by simp⟩
  | append_singleton l st ih =>
    obtain ⟨new, distinct⟩ := List.nodup_cons.mp (List.perm_append_singleton st l |>.nodup_iff.mp distinct)
    obtain ⟨q, causes⟩ := ih distinct
    have t := s.tripStage_foldl known l distinct
    rw [List.foldl_concat, State.tripStage_eq known]
    generalize l.foldl (fun s st => s.tripStage cause st) s = x at *
    let y := x.onStage st (Stage.trippedBy cause (x.store.profile st))
    have mode : y.mode ≠ .replay := by
      rw [show y.mode = s.mode from congrArg Modes.mode (t.modes notReplay)]; exact notReplay
    have qy : s.QuietlyRemoved y l := ⟨q.calls, q.marker, q.onsets, q.rosterDropped, q.store⟩
    have next := qy.next mode new
    refine ⟨⟨next.calls, next.marker, next.onsets, next.rosterDropped, next.store⟩, ?_⟩
    show (y.dropCall st).causes ++ (x.stage st).tripNotices = _
    rw [State.dropCall_quiet_causes st mode, (t.seen new).2.1, show y.causes = x.causes from rfl, causes]
    simp

/-- In REPLAY the trips drop the entries of the named stages, the feeder acting within the event. -/
theorem State.tripStage_foldl_replay {cause : Nat} {s : State} (replay : s.mode = .replay) (known : 1 ≤ cause)
    (calls : s.callsExact) (roster : s.rosterExact) (l : List StageId) (distinct : l.Nodup) :
    ∃ R, ReplayTrace s (l.foldl (fun s st => s.tripStage cause st) s) R l := by
  induction l using List.reverseRecOn with
  | nil => exact ⟨_, .refl replay calls roster⟩
  | append_singleton l st ih =>
    obtain ⟨-, distinct⟩ := List.nodup_cons.mp (List.perm_append_singleton st l |>.nodup_iff.mp distinct)
    obtain ⟨R, t⟩ := ih distinct
    rw [List.foldl_concat, State.tripStage_eq known]
    generalize l.foldl (fun s st => s.tripStage cause st) s = x at *
    let y := x.onStage st (Stage.trippedBy cause (x.store.profile st))
    have queued : y.CallsQueued [st] := fun e he other => by
      rw [x.stage_onStage_other _ (by simpa using other)]
      exact t.queued e he (by simp)
    obtain ⟨R', next⟩ := ReplayTrace.dropCall roster.1 (t.roster.congr (y := y) rfl rfl rfl)
      (t.queue.congr (y := y) rfl rfl rfl) queued t.hasRoster t.full
    exact ⟨R', next.congr rfl rfl rfl rfl rfl rfl⟩

/-! ### The named stages -/

/-- The stages a TRIP names, in slot order. -/
def namedStages (u : UnitId) (bitmap : Byte) : List StageId := (slotsOf bitmap).map fun k => { unit := u, slot := k }

theorem mem_namedStages {u : UnitId} {bitmap : Byte} {st : StageId} :
    st ∈ namedStages u bitmap ↔ st.unit = u ∧ bitmap.getLsbD st.slot.val = true := by
  obtain ⟨v, k⟩ := st
  have all : k ∈ slots := by fin_cases k <;> simp [slots]
  simp only [namedStages, slotsOf, List.mem_map, List.mem_filter, StageId.mk.injEq, namesSlot]
  constructor
  · rintro ⟨_, ⟨-, named⟩, rfl, rfl⟩; exact ⟨rfl, named⟩
  · rintro ⟨rfl, named⟩; exact ⟨k, ⟨all, named⟩, rfl, rfl⟩

theorem namedStages_nodup (u : UnitId) (bitmap : Byte) : (namedStages u bitmap).Nodup :=
  ((show slots.Nodup by decide).filter _).map fun _ _ h => (StageId.mk.inj h).2

theorem decide_mem_namedStages (u : UnitId) (bitmap : Byte) :
    (fun st => decide (st ∈ namedStages u bitmap)) = fun st : StageId => st.unit == u && bitmap.getLsbD st.slot.val := by
  funext st
  rw [Bool.eq_iff_iff, decide_eq_true_iff, mem_namedStages]
  simp

theorem State.takeTrip_eq (u : UnitId) (bitmap : Byte) (cause : Nat) (s : State) :
    s.takeTrip u bitmap cause =
      (((namedStages u bitmap).foldl (fun s st => s.tripStage cause st) s).onUnit u
        (UnitRec.recordTrip bitmap cause)).formAttention.bump .trips := by
  rw [State.takeTrip, namedStages, List.foldl_map]

theorem State.exec_trip {s : State} {u : UnitId} {bitmap cause : Byte} (listening : s.listening)
    (present : (s.unit u).presence ≠ .absent) (formed : tripFields [bitmap, cause] = some (bitmap, cause.toNat)) :
    exec (.trip u [bitmap, cause]) s = .next (s.takeTrip u bitmap cause.toNat).drain := by
  obtain ⟨⟨supplied, -⟩, onBus⟩ := listening
  exact (State.receive_onBus _ s supplied onBus).trans (by simp only [State.unitFrame, formed, present, if_false])

/-- A unit with a trip on record sets the attention flag (R135). -/
theorem State.formAttention_tripped {s : State} {u : UnitId} (h : (s.unit u).tripSlot.isSome = true) :
    s.formAttention.supervisor.attention = true :=
  List.any_eq_true.mpr ⟨s.unit u, by simp [State.unit], by simp [h]⟩

theorem UnitRec.recordTrip_isSome (bitmap : Byte) (cause : Nat) (r : UnitRec) :
    (r.recordTrip bitmap cause).tripSlot.isSome = true := by
  unfold UnitRec.recordTrip; split <;> simp_all

theorem State.trippedRecord_mem {s : State} {cause : Nat} {l : List StageId} {st : StageId} (h : st ∈ l) :
    s.trippedRecord cause l st = (s.stage st).trippedBy cause (s.store.profile st) := if_pos h

theorem State.trippedRecord_not_mem {s : State} {cause : Nat} {l : List StageId} {st : StageId} (h : st ∉ l) :
    s.trippedRecord cause l st = s.stage st := if_neg h

/-- What a stage adds to C_run, state by state (R10). -/
theorem Stage.runLoad_eq (r : Stage) :
    r.runLoad = if r.state = .running ∨ r.state = .stopping ∨ r.state = .held then r.working.load else 0 := by
  cases state : r.state <;> simp [Stage.runLoad, state, StageState.countsRunning]

theorem StageState.listed_eq (state : StageState) :
    state.listed = decide (state = .granted ∨ state = .running ∨ state = .stopping ∨ state = .held) := by
  cases state <;> rfl

end Sys2Proof.Machine

namespace Sys2Proof.Proofs
open Sys2Proof.Machine

/-- Settles O29, by induction on the stages tripped: what holds in every mode (`State.Tripped`), outside REPLAY
(`State.QuietlyRemoved`) and in REPLAY (`ReplayTrace`); then the unit's record, the attention flag and the count. -/
theorem tripsAreTaken : Obligations.TripsAreTaken := by
  intro s u bitmap cause listening present low high least most named running granted out removed given
  let l := namedStages u bitmap
  have distinct : l.Nodup := namedStages_nodup u bitmap
  obtain ⟨x, trips⟩ : ∃ x, l.foldl (fun s st => s.tripStage cause.toNat st) s = x := ⟨_, rfl⟩
  have t : s.Tripped cause.toNat x l := trips ▸ s.tripStage_foldl least l distinct
  have outEq : (fun st => decide (st ∈ l)) = out := decide_mem_namedStages u bitmap
  have outAt : ∀ st, decide (st ∈ l) = out st := fun st => congrFun outEq st
  let p := ((x.onUnit u (UnitRec.recordTrip bitmap cause.toNat)).formAttention).bump .trips
  have exec_eq : exec (.trip u [bitmap, cause]) s = .next p.drain := by
    rw [State.exec_trip listening present (if_pos ⟨low, high, least, most⟩), State.takeTrip_eq, trips]
  have counter : ∀ c, c ≠ .trips → p.counter c = x.counter c := fun c other => State.bump_counter_other _ _ _ other.symm
  have unit : ∀ v, x.unit v = s.unit v := fun v => by rw [State.unit, t.frame.supervisor, State.unit]
  have settled : s.causes = [] := listening.1.2
  have givenEq : (l.flatMap fun st => (s.stage st).tripNotices) = given := List.flatMap_map ..
  refine ⟨p, exec_eq, ?_, ?_, ?_, ?_, fun v other => ?_, ?_, ?_, fun k isNamed => ?_, fun st notNamed => ?_, ?_,
    fun c other => ?_, ?_, fun notReplay => ?_, fun replay calls roster => ?_⟩
  · refine t.left.cRun.trans (congrArg (fun n : List Nat => s.stages.cRun - n.sum) ?_)
    exact (List.map_map ..).trans (List.map_congr_left fun k _ => Stage.runLoad_eq _)
  · refine t.left.cPend.trans (congrArg (fun n : List Nat => s.stages.cPend - n.sum) ?_)
    exact List.map_map ..
  · refine t.left.runOrder.trans (List.filter_congr fun st _ => ?_)
    rw [outAt st, StageState.listed_eq]; rfl
  · exact (State.unit_onUnit_self x u _).trans (by rw [unit]; rfl)
  · exact (State.unit_onUnit_other x _ other).trans (unit v)
  · exact State.formAttention_tripped (u := u) (by rw [State.unit_onUnit_self]; exact UnitRec.recordTrip_isSome _ _ _)
  · refine (State.bump_counter_self _ _).trans ?_
    rw [← t.counters .trips (by simp) (by simp)]; rfl
  · have fed := t.leftOrFed { unit := u, slot := k }
    have mem : ({ unit := u, slot := k } : StageId) ∈ l := mem_namedStages.mpr ⟨rfl, isNamed⟩
    rw [State.trippedRecord_mem mem] at fed
    exact fed
  · have fed := t.leftOrFed st
    rw [State.trippedRecord_not_mem fun h => ?_] at fed
    · exact fed
    · obtain ⟨own, isNamed⟩ := mem_namedStages.mp h
      exact notNamed.elim (fun other => other own) (fun h => by rw [h] at isNamed; cases isNamed)
  · have causes := t.causes
    rw [settled, givenEq, List.filter_nil, List.nil_append] at causes
    exact causes
  · simp only [List.mem_cons, List.not_mem_nil, or_false, not_or] at other
    exact (counter c other.1).trans (t.counters c other.2.1 other.2.2)
  · exact congrArg (fun w : State => { w with supervisor := p.supervisor, counters := p.counters }) t.frame
  · obtain ⟨q, causes⟩ := trips ▸ s.tripStage_foldl_quiet least notReplay l distinct
    have removedEq : s.entriesOf l = removed := List.filter_congr fun e _ => outAt e.stage
    have left : (s.calls.entries.filter fun e => !decide (e.stage ∈ l)) = s.calls.entries.filter fun e => !out e.stage :=
      List.filter_congr fun e _ => by rw [outAt]
    have calls := q.calls
    have marker := q.marker
    have onsets := q.onsets
    rw [removedEq, left] at calls
    rw [removedEq] at marker onsets
    refine ⟨?_, marker, fun exact_ => (counter _ (by simp)).trans (onsets exact_), t.modes notReplay,
      (counter _ (by simp)).trans q.rosterDropped, by rw [settled, givenEq, List.nil_append] at causes; exact causes⟩
    have entries : p.calls.entries = s.calls.entries.filter fun e => !out e.stage := congrArg CallQueue.entries calls
    rw [entries]
    exact calls
  · obtain ⟨R, trace⟩ := trips ▸ State.tripStage_foldl_replay replay least calls roster l distinct
    have after := trace.congr (y := p) rfl rfl rfl rfl rfl (counter _ (by simp))
    rw [← outEq]
    exact after.replayRemoved (congrArg State.arbiter t.frame) roster.1

end Sys2Proof.Proofs
end

section
/-! Proofs/Moves.lean: the ways a stage's record and its call entry change together (spec/01, section 1.6 and 1.8; R12 to R26), and
that every shared operation is a chain of them. The invariants of the stage table, the call queue and the unit records are proved
on one such change, and follow for every command. -/

namespace Sys2Proof.Machine

/-- A stage's record changes to another in the state s: the changes of R3, R5 to R9 and R14 to R26. -/
inductive State.Change (s : State) (st : StageId) : Stage → Prop
  | withdraw (granted : (s.stage st).state = .granted) : s.Change st
      (Stage.copyPending (s.store.profile st)
        { s.stage st with
          state := .idle, run := 0, handshake := 0, withdrawn := (s.stage st).token, token := none,
          window := s.settingTime .confirmTimeout, withdrawnByReplay := (s.stage st).rosterFlag, rosterFlag := false })
  | grant (held : (∃ e ∈ s.calls.entries, e.stage = st) ∨ (s.stage st).state = .granted)
      (present : (s.unit st.unit).presence = .present) (handshake : Millis) (replay : Bool) : s.Change st
      { s.stage st with
        state := .granted, token := some s.arbiter.tokenCounter, handshake := handshake, rosterFlag := replay }
  | stop (settled : (s.stage st).settled = true) (handshake : Millis) (reason : StopReason) : s.Change st
      { s.stage st with state := .stopping, handshake := handshake, stopReason := some reason }
  | confirm (granted : (s.stage st).state = .granted) (run : Millis) : s.Change st
      { s.stage st with
        state := .running, rest := 0, run := run, handshake := 0, rosterFlag := false, withdrawn := none, window := 0,
        withdrawnByReplay := false }
  | adopt (waits : (s.stage st).state = .idle ∨ (s.stage st).state = .queued)
      (watched : (s.unit st.unit).presence ≠ .absent) (run : Millis) (token : Option Nat) : s.Change st
      { s.stage st with
        state := .running, rest := 0, run := run, token := token, withdrawn := none, window := 0,
        withdrawnByReplay := false }
  | release (runs : (s.stage st).state = .running ∨ (s.stage st).state = .stopping ∨ (s.stage st).state = .held)
      (rest : Millis) : s.Change st
      (Stage.copyPending (s.store.profile st)
        { s.stage st with state := .idle, rest := rest, run := 0, handshake := 0, token := none })
  | resume (held : (s.stage st).state = .held) (watched : (s.unit st.unit).presence ≠ .absent) : s.Change st
      { s.stage st with state := .running, rest := 0, run := 0 }
  | hold (listed : (s.stage st).state = .granted ∨ (s.stage st).state = .running ∨ (s.stage st).state = .stopping)
      (absent : (s.unit st.unit).presence = .absent) : s.Change st
      { s.stage st with state := .held, handshake := 0, run := 0, rosterFlag := false }
  | leave (queued : (∃ e ∈ s.calls.entries, e.stage = st) ∨ (s.stage st).state = .queued ∨ (s.stage st).state = .idle) :
      s.Change st { s.stage st with state := .idle }
  | lose (queued : (s.stage st).state = .queued) : s.Change st
      { s.stage st with working := s.store.profile st, state := .idle }
  | trip (next : StageState) (rests : next = .tripped ∨ next = .idle) (rest : Millis) : s.Change st
      (Stage.copyPending (s.store.profile st)
        { s.stage st with
          state := next, rest := rest, run := 0, handshake := 0, token := none, withdrawn := none, window := 0,
          rosterFlag := false, withdrawnByReplay := false })
  | clear (tripped : (s.stage st).state = .tripped) : s.Change st
      (Stage.copyPending (s.store.profile st) { s.stage st with state := .idle })
  | restEnds : s.Change st { s.stage st with rest := 0 }
  | runEnds : s.Change st { s.stage st with run := 0 }
  | windowEnds : s.Change st { s.stage st with window := 0, withdrawn := none, withdrawnByReplay := false }
  | reload (stopping : (s.stage st).state = .stopping) (handshake : Millis) : s.Change st
      { s.stage st with handshake := handshake }
  | profile (unlisted : (s.stage st).state.listed = false) : s.Change st
      { s.stage st with working := s.store.profile st }
  | keepProfile (listed : (s.stage st).state.listed = true) : s.Change st { s.stage st with pendingProfile := true }

/-- From s to t no unit's presence, window or error count changes, nor what the store holds but for the operation in flight, and the
capacities are kept. -/
structure State.Steady (s t : State) : Prop where
  presence : ∀ u, (t.unit u).presence = (s.unit u).presence
  phase : ∀ u, (t.unit u).phase = (s.unit u).phase
  window : ∀ u, (t.unit u).window = (s.unit u).window
  errors : ∀ u, (t.unit u).errors = (s.unit u).errors
  profiles : t.store.profiles = s.store.profiles
  settings : t.store.settings = s.store.settings
  validStore : s.store.valid → t.store.valid
  capacity : s.withinCapacity → t.withinCapacity

/-- From one call queue to another: the same stages with the same stamps, in R65's order where the first are. -/
structure Requeued (l l' : List CallEntry) : Prop where
  same : (l'.map fun e => (e.stage, e.stamp)).Perm (l.map fun e => (e.stage, e.stamp))
  ordered : (l.map CallEntry.stamp).Nodup → l.Pairwise (fun a b => a.before b = true) →
    l'.Pairwise (fun a b => a.before b = true)

/-- One change of a stage's record with what it does to its call entry, or a change of neither. -/
inductive State.Move (s t : State) : Prop
  | rest (steady : s.Steady t) (stages : t.stages = s.stages) (entries : Requeued s.calls.entries t.calls.entries)
      (arrival : t.calls.arrival = s.calls.arrival)
  | stay (st : StageId) (r : Stage) (steady : s.Steady t) (change : s.Change st r)
      (same : r.state = .queued ↔ (s.stage st).state = .queued) (stages : t.stages = s.stages.put st r)
      (calls : t.calls = s.calls)
  | leave (st : StageId) (r : Stage) (steady : s.Steady t) (change : s.Change st r) (out : r.state ≠ .queued)
      (stages : t.stages = s.stages.put st r)
      (entries : t.calls.entries = s.calls.entries.filter fun e => e.stage != st)
      (arrival : t.calls.arrival = s.calls.arrival)
  | enter (st : StageId) (cls : Nat) (replay : Bool) (steady : s.Steady t) (idle : (s.stage st).state = .idle)
      (watched : (s.unit st.unit).presence ≠ .absent) (room : s.calls.entries.length < callCapacity)
      (stages : t.stages = s.stages.put st { s.stage st with state := .queued })
      (entries : t.calls.entries = (s.enterCall st cls replay).calls.entries)
      (arrival : t.calls.arrival = (s.enterCall st cls replay).calls.arrival)

/-- A chain of such changes. -/
def State.Moves : State → State → Prop := Relation.ReflTransGen State.Move

theorem State.Moves.refl (s : State) : s.Moves s := Relation.ReflTransGen.refl

theorem State.Moves.trans {s t x : State} (a : s.Moves t) (b : t.Moves x) : s.Moves x := Relation.ReflTransGen.trans a b

theorem State.Move.moves {s t : State} (h : s.Move t) : s.Moves t := .single h

theorem Requeued.refl (l : List CallEntry) : Requeued l l := ⟨.refl _, fun _ h => h⟩

theorem State.Steady.refl (s : State) : s.Steady s :=
  ⟨fun _ => rfl, fun _ => rfl, fun _ => rfl, fun _ => rfl, rfl, rfl, id, id⟩

theorem State.Steady.trans {s t x : State} (a : s.Steady t) (b : t.Steady x) : s.Steady x :=
  ⟨fun u => (b.presence u).trans (a.presence u), fun u => (b.phase u).trans (a.phase u),
    fun u => (b.window u).trans (a.window u), fun u => (b.errors u).trans (a.errors u), b.profiles.trans a.profiles,
    b.settings.trans a.settings, b.validStore ∘ a.validStore, b.capacity ∘ a.capacity⟩

theorem State.Move.steady {s t : State} (h : s.Move t) : s.Steady t := by
  cases h <;> assumption

theorem State.Moves.steady {s t : State} (h : s.Moves t) : s.Steady t := by
  induction h with
  | refl => exact Steady.refl s
  | tail _ last ih => exact ih.trans last.steady

theorem State.Steady.setting {s t : State} (h : s.Steady t) (x : Setting) : t.setting x = s.setting x := by
  simp only [State.setting, Store.setting, h.settings]

theorem State.Steady.profile {s t : State} (h : s.Steady t) (st : StageId) : t.store.profile st = s.store.profile st := by
  simp only [Store.profile, h.profiles]

/-! ### Changes of neither -/

/-- Nothing that the capacities speak of has changed. -/
theorem State.withinCapacity_congr {s t : State} (queue : t.link.queue = s.link.queue) (failures : t.link.failures = s.link.failures)
    (orders : t.shed.orders = s.shed.orders) (token : t.arbiter.tokenCounter = s.arbiter.tokenCounter) :
    s.withinCapacity → t.withinCapacity := by
  unfold State.withinCapacity
  rw [queue, failures, orders, token]
  exact id

/-- A change of the link alone keeps the units and the store. -/
theorem State.Steady.of_capacity {s t : State} (records : t.supervisor.records = s.supervisor.records) (store : t.store = s.store)
    (capacity : s.withinCapacity → t.withinCapacity) : s.Steady t := by
  have unit : ∀ u, t.unit u = s.unit u := fun u => by rw [State.unit, records, State.unit]
  exact ⟨fun u => by rw [unit], fun u => by rw [unit], fun u => by rw [unit], fun u => by rw [unit], by rw [store], by rw [store],
    store ▸ id, capacity⟩

theorem State.Moves.of_steady {s t : State} (steady : s.Steady t) (stages : t.stages = s.stages)
    (calls : t.calls.entries = s.calls.entries ∧ t.calls.arrival = s.calls.arrival) : s.Moves t :=
  (Move.rest steady stages (calls.1 ▸ .refl _) calls.2).moves

/-- Nothing that the stage table, the call queue, the units, the store and the capacities hold has changed. -/
theorem State.Moves.of_same {s t : State} (h : t.stages = s.stages ∧ t.calls.entries = s.calls.entries ∧
    t.calls.arrival = s.calls.arrival ∧ t.supervisor.records = s.supervisor.records ∧ t.store = s.store ∧
    t.arbiter.tokenCounter = s.arbiter.tokenCounter ∧ t.shed.orders = s.shed.orders ∧ t.link.queue = s.link.queue ∧
    t.link.failures = s.link.failures) : s.Moves t := by
  obtain ⟨stages, entries, arrival, records, store, token, orders, queue, failures⟩ := h
  exact .of_steady (.of_capacity records store (State.withinCapacity_congr queue failures orders token)) stages ⟨entries, arrival⟩

/-- The link, the counters and the notices apart, nothing has changed, and the link is within its capacities. -/
theorem State.Moves.of_link {s t : State} (h : t.stages = s.stages ∧ t.calls.entries = s.calls.entries ∧
    t.calls.arrival = s.calls.arrival ∧ t.supervisor.records = s.supervisor.records ∧ t.store = s.store ∧
    t.arbiter.tokenCounter = s.arbiter.tokenCounter ∧ t.shed.orders = s.shed.orders)
    (queue : s.link.queue.length ≤ noticeCapacity → t.link.queue.length ≤ noticeCapacity)
    (failures : s.link.failures < failureLimit → t.link.failures < failureLimit) : s.Moves t := by
  obtain ⟨stages, entries, arrival, records, store, token, orders⟩ := h
  refine .of_steady (.of_capacity records store fun ⟨q, l, distinct, named, low, high, f⟩ => ?_) stages ⟨entries, arrival⟩
  unfold State.withinCapacity
  rw [orders, token]
  exact ⟨queue q, l, distinct, named, low, high, failures f⟩

theorem State.bump_moves (c : Counter) (s : State) : s.Moves (s.bump c) := .of_same (by simp)

theorem State.give_moves (c : Cause) (s : State) : s.Moves (s.give c) := .of_same (by simp)

theorem State.onModes_moves (f : Modes → Modes) (s : State) : s.Moves (s.onModes f) := .of_same (by simp)

theorem State.onAccount_moves (f : Account → Account) (s : State) : s.Moves (s.onAccount f) := .of_same (by simp)

theorem State.onLines_moves (f : Lines → Lines) (s : State) : s.Moves (s.onLines f) := .of_same (by simp)

theorem State.setMode_moves (m : Mode) (s : State) : s.Moves (s.setMode m) := .of_same (by simp)

theorem State.setMarker_moves (m : Option Marker) (s : State) : s.Moves (s.setMarker m) := .of_same (by
  simp only [State.setMarker]
  repeat' split
  all_goals simp)

theorem State.markRemoved_moves (st : StageId) (granted : Bool) (s : State) : s.Moves (s.markRemoved st granted) :=
  .of_same (by simp)

theorem State.advanceRead_moves (s : State) : s.Moves s.advanceRead := .of_same (by simp)

/-- A notice placed, or dropped, keeps the queue within its 24 (R161). -/
theorem State.place_moves (n : Notice) (s : State) : s.Moves (s.place n) := by
  refine .of_link (by simp) (State.place_length n s) (Eq.trans_lt ?_)
  simp only [State.place]
  split <;> simp

theorem State.sendDefer_moves (st : StageId) (reason : DeferReason) (s : State) : s.Moves (s.sendDefer st reason) :=
  s.place_moves _

theorem State.answer_moves (kind : Nat) (status : Status) (data : List Byte) (s : State) : s.Moves (s.answer kind status data) :=
  s.place_moves _

theorem State.enqueue_moves (n : Notice) {s : State} (room : s.link.queue.length < noticeCapacity) : s.Moves (s.enqueue n) :=
  .of_link (by simp) (fun _ => by simpa using room) (by simp)

theorem State.placeStop_moves (f : StopFrame) {s : State} (room : s.stopRoom = true) : s.Moves (s.placeStop f) := by
  refine .of_link (by simp) (State.placeStop_length f s room) (Eq.trans_lt ?_)
  simp only [State.placeStop]
  split <;> simp

/-! ### Changes of a record -/

theorem State.Steady.onStage (s : State) (st : StageId) (f : Stage → Stage) : s.Steady (s.onStage st f) :=
  .of_capacity rfl rfl id

/-- A record changes with nothing else but counters, notices and what the rest of a move allows. -/
theorem State.onStage_moves {s : State} {st : StageId} {f : Stage → Stage} (change : s.Change st (f (s.stage st)))
    (same : (f (s.stage st)).state = .queued ↔ (s.stage st).state = .queued) : s.Moves (s.onStage st f) :=
  (Move.stay st _ (.onStage s st f) change same rfl rfl).moves

/-! ### The feeder -/

theorem State.fedBy_moves {x : State} {st : StageId} (feedable : x.feedable st = true) : x.Moves (x.fedBy st) := by
  simp only [State.feedable, Bool.and_eq_true, beq_iff_eq, decide_eq_true_eq] at feedable
  obtain ⟨⟨⟨present, idle⟩, -⟩, room⟩ := feedable
  have capacity : x.withinCapacity → (x.fedBy st).withinCapacity :=
    State.withinCapacity_congr (by simp [State.fedBy]) (by simp [State.fedBy]) (by simp [State.fedBy]) (by simp [State.fedBy])
  refine (Move.enter st 0 true (.of_capacity (by simp [State.fedBy]) (by simp [State.fedBy]) capacity) idle
    (by rw [present]; simp) room ?_ ?_ ?_).moves
  · simp [State.fedBy, State.enterReplay]; rfl
  · simp [State.fedBy, State.enterReplay, State.enterCall_calls]; rfl
  · simp [State.fedBy, State.enterReplay, State.enterCall_calls]; rfl

theorem feedEntries_moves (l : List RosterEntry) (x : State) : x.Moves (feedEntries 0 l x).2 :=
  feedEntries_induction (fun _ y => x.Moves y) (fun _ _ _ _ h _ feedable => h.trans (State.fedBy_moves feedable))
    (fun _ _ _ y h _ _ => h.trans (y.bump_moves _)) [] l x (.refl x)

theorem State.feed_moves (x : State) : x.Moves x.feed := by
  by_cases replay : x.mode = .replay
  · rw [State.feed_replay replay]
    exact ((feedEntries_moves _ x).trans (State.onModes_moves _ _)).trans (State.advanceRead_moves _)
  · rw [State.feed_other replay]; exact .refl x

theorem State.replayDeclined_moves (st : StageId) (s : State) : s.Moves (s.replayDeclined st) := by
  unfold State.replayDeclined
  split
  · exact ((s.onModes_moves _).trans (State.bump_moves _ _)).trans (State.feed_moves _)
  · exact .refl s

/-! ### Leaving the call queue -/

theorem State.filter_absent {x : State} {st : StageId} (none : x.callOf st = none) :
    (x.calls.entries.filter fun e => e.stage != st) = x.calls.entries :=
  List.filter_eq_self.mpr fun e he => by simpa using State.callOf_eq_none.mp none e he

/-- A stage leaves the call queue with a change of its record (R13, R15, R25). -/
theorem State.removeCall_moves {s x : State} {st : StageId} {r : Stage} (change : s.Change st r) (out : r.state ≠ .queued)
    (steady : s.Steady x) (stages : x.stages = s.stages.put st r) (calls : x.calls = s.calls) : s.Moves (x.removeCall st) := by
  have removed : x.Steady (x.removeCall st) :=
    .of_capacity (by simp) (by simp) (State.withinCapacity_congr (by simp) (by simp) (by simp)
      (by simp [State.removeCall, State.clearMarkerOf]))
  exact (Move.leave st r (steady.trans removed) change out (by simp [stages]) (by rw [State.removeCall_entries, calls])
    (by rw [State.removeCall_calls, calls])).moves

theorem State.dropCall_moves {s x : State} {st : StageId} {r : Stage} (change : s.Change st r) (out : r.state ≠ .queued)
    (steady : s.Steady x) (stages : x.stages = s.stages.put st r) (calls : x.calls = s.calls) : s.Moves (x.dropCall st) := by
  have removed := State.removeCall_moves change out steady stages calls
  rcases x.dropCall_cases st with ⟨none, eq⟩ | ⟨e, -, -, eq⟩ | ⟨e, -, -, -, eq⟩ <;> rw [eq]
  · exact (Move.leave st r steady change out stages (calls ▸ (State.filter_absent none).symm) (by rw [calls])).moves
  · exact removed
  · exact (removed.trans (State.markRemoved_moves _ _ _)).trans (State.feed_moves _)

/-- A stage's record changes, and its entry, if it has one, is dropped. -/
theorem State.onStage_dropCall_moves {s : State} {st : StageId} {f : Stage → Stage} (change : s.Change st (f (s.stage st)))
    (out : (f (s.stage st)).state ≠ .queued) : s.Moves ((s.onStage st f).dropCall st) :=
  State.dropCall_moves change out (.onStage s st f) rfl rfl

/-! ### The stage table's operations (spec/01, section 1.8) -/

theorem State.restLoaded_moves (n : Nat) (s : State) : s.Moves (s.restLoaded n) := .of_same (by simp)

theorem State.runLoaded_moves (n : Nat) (s : State) : s.Moves (s.runLoaded n) := .of_same (by simp)

theorem State.withdrawPermit_moves {s : State} {st : StageId} (granted : (s.stage st).state = .granted) :
    s.Moves (s.withdrawPermit st) := by
  have changed : s.Moves (s.onStage st fun r => Stage.copyPending (s.store.profile st)
      { r with state := .idle, run := 0, handshake := 0, withdrawn := r.token, token := none,
               window := s.settingTime .confirmTimeout, withdrawnByReplay := r.rosterFlag, rosterFlag := false }) :=
    State.onStage_moves (.withdraw granted) (by simp [Stage.copyPending_eq, granted])
  simp only [State.withdrawPermit]
  refine (changed.trans ?_).trans (State.give_moves _ _)
  split
  · exact State.replayDeclined_moves _ _
  · exact .refl _

theorem State.decline_moves {s : State} {st : StageId} (granted : (s.stage st).state = .granted) : s.Moves (s.decline st) :=
  (State.withdrawPermit_moves granted).trans (State.bump_moves _ _)

theorem State.confirmStage_moves {s : State} {st : StageId} (granted : (s.stage st).state = .granted) :
    s.Moves (s.confirmStage st) :=
  ((State.onStage_moves (.confirm granted _) (by simp [granted])).trans (State.give_moves _ _)).trans (State.runLoaded_moves _ _)

theorem State.adoptStage_moves {s : State} {st : StageId} (waits : (s.stage st).state = .idle ∨ (s.stage st).state = .queued)
    (watched : (s.unit st.unit).presence ≠ .absent) (token : Option Nat) : s.Moves (s.adoptStage st token) :=
  (((State.onStage_dropCall_moves (.adopt waits watched _ token) (by simp)).trans (State.bump_moves _ _)).trans
    (State.give_moves _ _)).trans (State.runLoaded_moves _ _)

theorem State.releaseStage_moves {s : State} {st : StageId}
    (runs : (s.stage st).state = .running ∨ (s.stage st).state = .stopping ∨ (s.stage st).state = .held) :
    s.Moves (s.releaseStage st) := by
  have unqueued : (s.stage st).state ≠ .queued := by rcases runs with h | h | h <;> simp [h]
  exact ((State.onStage_moves (.release runs _) (by simp [Stage.copyPending_eq, unqueued])).trans (State.give_moves _ _)).trans
    (State.restLoaded_moves _ _)

theorem State.resumeStage_moves {s : State} {st : StageId} (held : (s.stage st).state = .held)
    (watched : (s.unit st.unit).presence ≠ .absent) : s.Moves (s.resumeStage st) :=
  ((State.onStage_moves (.resume held watched) (by simp [held])).trans (State.give_moves _ _)).trans (State.give_moves _ _)

theorem State.holdStage_moves {s : State} {st : StageId} (absent : (s.unit st.unit).presence = .absent) :
    s.Moves (s.holdStage st) := by
  have listed : (s.stage st).state = .granted ∨ (s.stage st).state = .running ∨ (s.stage st).state = .stopping →
      s.Moves ((s.onStage st fun r => { r with state := .held, handshake := 0, run := 0, rosterFlag := false }).give
        (.pass .stageChange)) := fun h =>
    (State.onStage_moves (.hold h absent) (by rcases h with h | h | h <;> simp [h])).trans (State.give_moves _ _)
  unfold State.holdStage
  split
  · next h => exact listed (.inl h)
  · next h => exact listed (.inr (.inl h))
  · next h => exact listed (.inr (.inr h))
  · next h => exact State.onStage_dropCall_moves (.leave (.inr (.inl h))) (by simp)
  all_goals exact .refl s

theorem State.tripStage_moves (cause : Nat) (st : StageId) (s : State) : s.Moves (s.tripStage cause st) := by
  have rests : ∀ b : Prop, [Decidable b] → (if b then StageState.tripped else .idle) = .tripped ∨
      (if b then StageState.tripped else .idle) = .idle := fun b _ => by split <;> simp
  simp only [State.tripStage]
  refine Moves.trans ?_ (State.restLoaded_moves _ _)
  have dropped : s.Moves _ := State.onStage_dropCall_moves (s := s) (st := st) (f := fun r => Stage.copyPending (s.store.profile st)
      { r with state := if (s.stage st).state = .tripped ∨ lockoutCause cause then .tripped else .idle,
               rest := seconds (s.stage st).working.minOff, run := 0, handshake := 0, token := none, withdrawn := none,
               window := 0, rosterFlag := false, withdrawnByReplay := false })
    (.trip _ (rests _) _) (by simp only [Stage.copyPending_eq]; split <;> simp)
  refine dropped.trans ?_
  cases (s.stage st).state
  case granted | running | stopping => exact State.give_moves _ _
  all_goals exact .refl _

theorem State.clearStage_moves (st : StageId) (s : State) : s.Moves (s.clearStage st) := by
  unfold State.clearStage
  split
  · next tripped => exact State.onStage_moves (.clear tripped) (by simp [Stage.copyPending_eq, tripped])
  · exact .refl s

theorem State.profileChange_moves (st : StageId) (s : State) : s.Moves (s.profileChange st) := by
  have replaced : (s.stage st).state.listed = false → s.Moves (s.onStage st fun r => { r with working := s.store.profile st }) :=
    fun h => State.onStage_moves (.profile h) Iff.rfl
  have marked : (s.stage st).state.listed = true → s.Moves (s.onStage st fun r => { r with pendingProfile := true }) :=
    fun h => State.onStage_moves (.keepProfile h) Iff.rfl
  simp only [State.profileChange]
  split
  · next h => exact replaced (by rw [h]; rfl)
  · next h => exact replaced (by rw [h]; rfl)
  · next h =>
    split
    · have deferred := (State.sendDefer_moves st .noProfile
        (s.onStage st fun r => { r with working := s.store.profile st, state := .idle })).steady
      exact State.dropCall_moves (.lose h) (by simp) ((State.Steady.onStage s st _).trans deferred) (by simp; rfl) (by simp)
    · exact replaced (by rw [h]; rfl)
  all_goals next h => exact marked (by rw [h]; rfl)

end Sys2Proof.Machine
end

section
/-! Proofs/DrainMoves.lean: acting on the notices of a command is a chain of changes: the pass grants, the shed check withdraws and
stops, the ageing sorts the queue anew (R70, R82 to R92, R108 to R115). -/

namespace Sys2Proof.Machine

/-! ### The pass -/

theorem State.grantEntry_token (e : CallEntry) (s : State) :
    (s.grantEntry e).arbiter.tokenCounter = nextToken s.arbiter.tokenCounter := by
  have removed : ∀ x : State, (x.removeCall e.stage).arbiter.tokenCounter = x.arbiter.tokenCounter := fun x => by
    simp [State.removeCall, State.clearMarkerOf]
  have marked : ∀ x : State, (if e.replay then x.markRemoved e.stage true else x).arbiter = x.arbiter := fun x => by
    split <;> simp
  simp only [State.grantEntry]
  split <;> simp [marked, removed]

theorem State.grantEntry_link (e : CallEntry) (s : State) :
    (s.grantEntry e).link.queue.length = s.link.queue.length + 1 ∧ (s.grantEntry e).link.failures = s.link.failures := by
  have marked : ∀ x : State, (if e.replay then x.markRemoved e.stage true else x).link = x.link := fun x => by
    split <;> simp
  simp only [State.grantEntry]
  split <;> simp [marked]

theorem nextToken_range (t : Nat) : 1 ≤ nextToken t ∧ nextToken t ≤ 255 := by
  unfold nextToken; split <;> omega

/-- A grant of a stage that is in the queue, or granted already (R19, R87). -/
theorem State.grantEntry_moves {e : CallEntry} {s : State}
    (held : (∃ x ∈ s.calls.entries, x.stage = e.stage) ∨ (s.stage e.stage).state = .granted)
    (present : (s.unit e.stage.unit).presence = .present) (room : s.link.queue.length < noticeCapacity) :
    s.Moves (s.grantEntry e) := by
  obtain ⟨stages, calls⟩ := s.grantEntry_stages_calls e
  obtain ⟨queue, failures⟩ := s.grantEntry_link e
  have capacity : s.withinCapacity → (s.grantEntry e).withinCapacity := fun ⟨_, l, distinct, named, _, _, f⟩ => by
    obtain ⟨low, high⟩ := nextToken_range s.arbiter.tokenCounter
    have orders : (s.grantEntry e).shed.orders = s.shed.orders := by simp
    unfold State.withinCapacity
    rw [s.grantEntry_token e, queue, failures, orders]
    exact ⟨room, l, distinct, named, low, high, f⟩
  have removed : (s.removeCall e.stage).stages = s.stages := by simp
  refine (Move.leave e.stage _ (.of_capacity (by simp) (by simp) capacity) (.grant held present (s.settingTime .confirmTimeout) e.replay)
    (by simp) ?_ (s.grantEntry_calls e) (by rw [calls, State.removeCall_calls])).moves
  rw [stages]
  simp only [State.grantStage, State.onStage, State.onStages_stages, removed]
  have setting : (s.removeCall e.stage).settingTime .confirmTimeout = s.settingTime .confirmTimeout := by
    simp [State.settingTime, State.setting]
  rw [setting]; rfl

theorem State.eligible_present {s : State} {e : CallEntry} (h : s.eligible e = true) :
    (s.unit e.stage.unit).presence = .present := by
  simp only [State.eligible, Bool.and_eq_true, beq_iff_eq] at h
  exact h.1.1.1.1.2

/-- A walk over entries that are in the queue, or whose stages are granted already. -/
theorem walkEntries_moves (onEvaluation : Bool) (guardBand holdBack : Nat) (entries : List CallEntry) (w : Walk)
    (held : ∀ e ∈ entries, (∃ x ∈ w.state.calls.entries, x.stage = e.stage) ∨ (w.state.stage e.stage).state = .granted) :
    w.state.Moves (walkEntries onEvaluation guardBand holdBack entries w).state := by
  induction entries generalizing w with
  | nil => exact .refl _
  | cons e rest ih =>
    have heldRest := fun e' m => held e' (List.mem_cons_of_mem _ m)
    simp only [walkEntries]
    split
    · exact .refl _
    next room =>
    split
    · exact ih w heldRest
    next eligible =>
    split
    · have few : w.state.link.queue.length < noticeCapacity := by
        simp only [noticeMark, noticeCapacity] at room ⊢; omega
      have granted := State.grantEntry_moves (held e (by simp)) (State.eligible_present (by simpa using eligible)) few
      refine granted.trans (ih { w with
        state := w.state.grantEntry e, headroom := w.headroom - (w.state.stage e.stage).working.load, grants := w.grants + 1,
        replayGranted := w.replayGranted || e.replay } fun e' m => ?_)
      simp only [State.grantEntry_calls, State.grantEntry_state]
      by_cases same : e'.stage = e.stage
      · exact .inr (by simp [same])
      · exact (heldRest e' m).imp (fun ⟨x, mem, hx⟩ => ⟨x, by simp [mem, hx, same], hx⟩) (fun h => by simp [same, h])
    · split
      · exact .refl _
      · exact ih { w with named := if onEvaluation then w.named ++ [e.stage] else w.named } heldRest

theorem CallEntry.before_congr {a b a' b' : CallEntry} (ha : a'.cls = a.cls ∧ a'.stamp = a.stamp)
    (hb : b'.cls = b.cls ∧ b'.stamp = b.stamp) : a'.before b' = a.before b := by
  simp only [CallEntry.before, ha, hb]

theorem Requeued.nameEntries (named : List StageId) (l : List CallEntry) : Requeued l (nameEntries named l) := by
  have kept : ∀ e : CallEntry, ∀ e', e' = (if named.contains e.stage then
      { e with passedOver := satAdd max16 e.passedOver 1 } else e) →
      (e'.stage = e.stage ∧ e'.stamp = e.stamp) ∧ e'.cls = e.cls := by
    rintro e _ rfl; split <;> simp
  constructor
  · rw [Machine.nameEntries, List.map_map]
    exact .of_eq (List.map_congr_left fun e _ => by
      obtain ⟨⟨stage, stamp⟩, -⟩ := kept e _ rfl
      exact Prod.ext stage stamp)
  · intro _ ordered
    refine List.pairwise_map.mpr (ordered.imp fun {a b} h => ?_)
    obtain ⟨⟨-, stampA⟩, clsA⟩ := kept a _ rfl
    obtain ⟨⟨-, stampB⟩, clsB⟩ := kept b _ rfl
    rw [CallEntry.before_congr ⟨clsA, stampA⟩ ⟨clsB, stampB⟩]; exact h

/-- The entries of the queue stand anew; nothing else changes. -/
theorem State.requeue_moves {s : State} {f : CallQueue → CallQueue} (entries : Requeued s.calls.entries (f s.calls).entries)
    (arrival : (f s.calls).arrival = s.calls.arrival) : s.Moves (s.onCalls f) :=
  (Move.rest (.of_capacity (s := s) (t := s.onCalls f) rfl rfl id) rfl entries arrival).moves

theorem State.makePass_moves (cause : PassCause) (s : State) : s.Moves (s.makePass cause) := by
  simp only [State.makePass]
  let start : Walk := { state := s, headroom := s.headroom, grants := 0, named := [], blocking := none, replayGranted := false }
  have walked := walkEntries_moves (cause == .evaluation) (s.setting .guardBand) (s.setting .holdBackTime) s.calls.entries start
    fun e m => .inl ⟨e, m, rfl⟩
  generalize walkEntries _ _ _ _ _ = w at walked ⊢
  have passed : s.Moves (((w.state.onArbiter fun a => { a with lastPass :=
      { cause := some cause, headroomAtStart := s.headroom, guardBand := s.setting .guardBand, grants := w.grants,
        headroomAtEnd := w.headroom, blockingHead := w.blocking.map Marker.stage } }).onCalls
      fun q => { q with entries := nameEntries w.named q.entries }).setMarker w.blocking) :=
    ((walked.trans (.of_same (by simp))).trans (State.requeue_moves (.nameEntries _ _) rfl)).trans (State.setMarker_moves _ _)
  split
  · exact passed.trans (State.feed_moves _)
  · exact passed

theorem State.passCause_moves (cause : PassCause) (s : State) : s.Moves (s.passCause cause) := by
  simp only [State.passCause]
  split
  · exact s.makePass_moves cause
  · split
    · exact (s.setMarker_moves none).trans (State.bump_moves _ _)
    · exact s.setMarker_moves none

/-! ### The shed check -/

theorem State.stopRoom_congr {s t : State} (link : t.link = s.link) : t.stopRoom = s.stopRoom := by
  simp only [State.stopRoom, State.noticeRoom, link]

/-- A revoke and a stop each send their STOP only where there is room (R109). -/
theorem State.shedRevoke_moves (st : StageId) (reason : StopReason) (counter : Counter) (s : State) :
    s.Moves (s.shedRevoke st reason counter).1 := by
  unfold State.shedRevoke State.revoke
  by_cases room : s.stopRoom = true
  · by_cases granted : (s.stage st).state = .granted
    · have still : ((s.withdrawPermit st).bump counter).stopRoom = true :=
        (State.stopRoom_congr (by simp)).trans room
      simpa [room, granted] using ((State.withdrawPermit_moves granted).trans (State.bump_moves counter _)).trans
        (State.placeStop_moves _ still)
    · simpa [room, granted] using Moves.refl s
  · simpa [room] using s.bump_moves _

theorem State.stopStage_moves {st : StageId} {s : State} (settled : (s.stage st).settled = true) (handshake : Millis)
    (reason : StopReason) :
    s.Moves (s.onStage st fun r => { r with state := .stopping, handshake := handshake, stopReason := some reason }) := by
  have running : (s.stage st).state = .running := by
    simp only [Stage.settled, Bool.and_eq_true, beq_iff_eq] at settled; exact settled.1
  exact State.onStage_moves (.stop settled _ _) (by simp [running])

theorem State.shedStop_moves (st : StageId) (reason : StopReason) (counter : Counter) (s : State) :
    s.Moves (s.shedStop st reason counter).1 := by
  unfold State.shedStop State.stopStage
  by_cases room : s.stopRoom = true
  · by_cases settled : (s.stage st).settled = true
    · simp only [room, settled, if_true]
      have moved := (State.stopStage_moves settled (s.settingTime .stopTimeout) reason).trans (State.give_moves (.pass .stageChange) _)
      exact (moved.trans (State.bump_moves counter _)).trans (State.placeStop_moves _ ((State.stopRoom_congr rfl).trans room))
    · simpa [room, settled] using Moves.refl s
  · simpa [room] using s.bump_moves _

theorem State.orderStop_moves (st : StageId) (s : State) : s.Moves (s.orderStop st) := by
  unfold State.orderStop
  split
  · split
    · exact State.shedRevoke_moves _ _ _ _
    · split
      · exact State.shedStop_moves _ _ _ _
      · exact .refl s
    all_goals exact .refl s
  · exact .refl s

/-- A fold of operations each of which is a chain of changes, as long as what they rely on is kept. -/
theorem State.foldl_moves {α : Type} {f : State → α → State} (l : List α) (s : State)
    (each : ∀ x a, a ∈ l → s.Moves x → x.Moves (f x a)) : s.Moves (l.foldl f s) := by
  induction l using List.reverseRecOn with
  | nil => exact .refl s
  | append_singleton l a ih =>
    rw [List.foldl_concat]
    have before := ih fun x b hb => each x b (by simp [hb])
    exact before.trans (each _ a (by simp) before)

theorem State.shedOrders_moves (s : State) : s.Moves s.shedOrders :=
  State.foldl_moves _ s fun x st _ _ => x.orderStop_moves st

theorem State.clearPersistence_moves (s : State) : s.Moves s.clearPersistence := s.onAccount_moves _

theorem State.demandShed_moves (s : State) : s.Moves s.demandShed.1 := by
  have cleared : ∀ (x : State) (sent : Bool), s.Moves x → s.Moves (if sent then x.clearPersistence else x) := by
    intro x sent h
    split
    · exact h.trans x.clearPersistence_moves
    · exact h
  unfold State.demandShed
  split
  · exact .refl s
  · refine cleared _ _ ?_
    split
    · exact State.shedRevoke_moves _ _ _ _
    · split
      · exact State.shedStop_moves _ _ _ _
      · exact (s.bump_moves .shedUnavailable).trans (State.clearPersistence_moves _)

theorem State.displacementShed_moves (s : State) : s.Moves s.displacementShed := by
  unfold State.displacementShed
  split
  · exact .refl s
  · split
    · split
      · exact .refl s
      · next st _ =>
        simp only
        have stopped := s.shedStop_moves st .displace .displacementStops
        split
        · exact stopped.trans (.of_same (by simp))
        · exact stopped
    · exact .refl s

theorem State.checkCause_moves (s : State) : s.Moves s.checkCause := by
  unfold State.checkCause
  split
  · simp only
    have shed := s.shedOrders_moves.trans (State.demandShed_moves _)
    split
    · exact shed
    · exact shed.trans (State.displacementShed_moves _)
  · exact .refl s

/-! ### The ageing and the drain -/

theorem CallEntry.ageOrPromote_place (n : Nat) (e : CallEntry) :
    (e.ageOrPromote n).stage = e.stage ∧ (e.ageOrPromote n).stamp = e.stamp := by
  unfold CallEntry.ageOrPromote CallEntry.age
  simp only
  split <;> simp

theorem Requeued.aged (n : Nat) (l : List CallEntry) : Requeued l (sortEntries (l.map (CallEntry.ageOrPromote n))) := by
  have kept : (l.map (CallEntry.ageOrPromote n)).map (fun e => (e.stage, e.stamp)) = l.map fun e => (e.stage, e.stamp) := by
    rw [List.map_map]
    exact List.map_congr_left fun e _ => Prod.ext (e.ageOrPromote_place n).1 (e.ageOrPromote_place n).2
  have stamps : (l.map (CallEntry.ageOrPromote n)).map CallEntry.stamp = l.map CallEntry.stamp := by
    rw [List.map_map]
    exact List.map_congr_left fun e _ => (e.ageOrPromote_place n).2
  exact ⟨kept ▸ (sortEntries_perm _).map _, fun distinct _ => sortEntries_ordered _ (stamps ▸ distinct)⟩

theorem State.bumpTimes_moves (c : Counter) (n : Nat) (s : State) : s.Moves (s.bumpTimes c n) := .of_same (by simp)

theorem State.ageCalls_moves (s : State) : s.Moves s.ageCalls :=
  (State.requeue_moves (f := fun q =>
      { q with entries := sortEntries (q.entries.map (CallEntry.ageOrPromote (s.setting .promoteTime))) })
    (.aged _ _) rfl).trans (State.bumpTimes_moves _ _ _)

theorem State.act_moves (c : Cause) (s : State) : s.Moves (s.act c) := by
  cases c with
  | ageing => exact s.ageCalls_moves
  | pass cause => exact s.passCause_moves cause
  | check _ => exact s.checkCause_moves

theorem State.drainWith_moves (choose : Nat → Nat) (fuel : Nat) (s : State) : s.Moves (State.drainWith choose fuel s) := by
  induction fuel generalizing s with
  | zero => exact .of_same (by simp [State.drainWith])
  | succ n ih =>
    simp only [State.drainWith]
    split
    · exact .refl s
    · exact (Moves.of_same (by simp)).trans ((State.act_moves _ _).trans (ih _))

theorem State.drain_moves (s : State) : s.Moves s.drain := s.drainWith_moves _ _

end Sys2Proof.Machine
end

section
/-! Proofs/StoreValid.lean: what keeps the contents of the store within the ranges of R2 and R168 (O11). -/

namespace Sys2Proof.Machine

theorem mem_settings (x : Setting) : x ∈ Setting.all := by cases x <;> decide

theorem Setting.clampTo_range {lo hi : Nat} (h : lo ≤ hi) (v : Nat) : lo ≤ clampTo lo hi v ∧ clampTo lo hi v ≤ hi := by
  unfold clampTo; omega

theorem Setting.range_ordered (x : Setting) : x.range.1 ≤ x.range.2 := by cases x <;> decide

theorem nearestInterval_allowed (v : Nat) : intervalAllowed (nearestInterval v) := by
  unfold nearestInterval
  split
  · exact .inl rfl
  · split
    · exact .inr (.inl rfl)
    · exact .inr (.inr rfl)

/-- A written setting is clamped into its range (R160, R169). -/
theorem Setting.clamp_allows (x : Setting) (v : Nat) : x.allows (x.clamp v) := by
  unfold Setting.clamp
  split
  · next interval =>
    subst interval
    rcases nearestInterval_allowed v with h | h | h <;> rw [h] <;> decide
  · next other =>
    obtain ⟨low, high⟩ := Setting.clampTo_range x.range_ordered v
    exact ⟨low, high, fun interval => absurd interval other⟩

theorem Setting.default_allows (x : Setting) : x.allows x.default := by cases x <;> decide

theorem Store.valid.profile {store : Store} (h : store.valid) (st : StageId) : (store.profile st).valid st.slot :=
  h.1 st.unit st.slot

theorem Store.valid.setting {store : Store} (h : store.valid) (x : Setting) : x.allows (store.setting x) :=
  h.2.1 x (mem_settings x)

/-- The contents alone count, with what is in flight. -/
theorem Store.valid.congr {a b : Store} (h : a.valid) (profiles : b.profiles = a.profiles) (settings : b.settings = a.settings)
    (item : ∀ item ∈ b.itemInFlight, item.valid = true) : b.valid := by
  refine ⟨fun u k => ?_, fun x hx => ?_, item⟩
  · have := h.1 u k
    simpa only [Store.profile, profiles] using this
  · have := h.2.1 x hx
    simpa only [Store.setting, settings] using this

theorem Store.itemInFlight_none {store : Store} (h : store.flight = none) : store.itemInFlight = none := by
  unfold Store.itemInFlight; rw [h]

theorem Store.valid.of_idle {a b : Store} (h : a.valid) (profiles : b.profiles = a.profiles) (settings : b.settings = a.settings)
    (idle : b.flight = none) : b.valid :=
  h.congr profiles settings (by rw [Store.itemInFlight_none idle]; simp)

theorem Store.profile_set (store : Store) (st st' : StageId) (p : Profile) :
    ({ store with profiles := store.profiles.set st.index p } : Store).profile st' =
      if st' = st then p else store.profile st' := by
  simp only [Store.profile]
  split
  · next same => subst same; simp
  · next other =>
    exact Vector.getElem_set_ne _ _ fun same => other (StageId.index_inj (Fin.ext same)).symm

theorem Store.setting_set (store : Store) (x y : Setting) (v : Nat) :
    ({ store with settings := store.settings.set x.index v } : Store).setting y = if y = x then v else store.setting y := by
  simp only [Store.setting]
  split
  · next same => subst same; simp
  · next other =>
    exact Vector.getElem_set_ne _ _ fun same => other (Setting.index_inj (Fin.ext same)).symm

/-- A stage's cell takes a profile R168 allows. -/
theorem Store.valid.setProfile {store : Store} (h : store.valid) (st : StageId) {p : Profile} (allowed : p.valid st.slot) :
    ({ store with profiles := store.profiles.set st.index p } : Store).valid := by
  refine ⟨fun u k => ?_, h.2⟩
  rw [Store.profile_set]
  split
  · next same => subst same; exact allowed
  · exact h.1 u k

/-- A written value in its cells keeps the store valid (R170). -/
theorem Store.valid.placeIn {store : Store} (h : store.valid) {item : StoreItem} (allowed : item.valid = true) :
    (item.placeIn store).valid := by
  cases item with
  | electrical st kind load surge cls lead =>
    obtain ⟨-, -, -, -, on, off, -⟩ := h.profile st
    simp only [StoreItem.valid, decide_eq_true_eq] at allowed
    obtain ⟨load1, load2, cls1, cls2, lead⟩ := allowed
    exact h.setProfile st ⟨load1, load2, cls1, cls2, on, off, lead⟩
  | timing st on off =>
    obtain ⟨load1, load2, cls1, cls2, -, -, lead⟩ := h.profile st
    simp only [StoreItem.valid, decide_eq_true_eq] at allowed
    exact h.setProfile st ⟨load1, load2, cls1, cls2, allowed.1, allowed.2, lead⟩
  | group u code => exact h
  | setting x v =>
    simp only [StoreItem.valid, decide_eq_true_eq] at allowed
    refine ⟨h.1, fun y hy => ?_, h.2.2⟩
    rw [StoreItem.placeIn, Store.setting_set]
    split
    · next same => subst same; exact allowed
    · exact h.2.1 y hy

theorem Store.valid.complete {store : Store} (h : store.valid) : store.complete.valid := h.of_idle rfl rfl rfl

theorem erasedProfile_valid (k : Slot) : erasedProfile.valid k := by
  refine ⟨?_, ?_, ?_, ?_, ?_, ?_, ?_⟩ <;> simp [erasedProfile]

theorem defaultSettings_get (x : Setting) : defaultSettings[x.index] = x.default := by cases x <;> rfl

theorem Store.erase_profile (store : Store) (st : StageId) : store.erase.profile st = erasedProfile := by
  simp [Store.erase, Store.profile]

theorem Store.erase_setting (store : Store) (x : Setting) : store.erase.setting x = x.default := defaultSettings_get x

theorem Store.complete_profile (store : Store) (st : StageId) : store.complete.profile st = store.profile st := rfl

theorem Store.complete_setting (store : Store) (x : Setting) : store.complete.setting x = store.setting x := rfl

theorem Store.erase_complete_valid (store : Store) : store.erase.complete.valid := by
  refine ⟨fun u k => ?_, fun x _ => ?_, ?_⟩
  · rw [Store.complete_profile, Store.erase_profile]
    exact erasedProfile_valid k
  · rw [Store.complete_setting, Store.erase_setting]
    exact x.default_allows
  · rw [Store.itemInFlight_none rfl]; simp

theorem Store.valid.loseFlight {store : Store} (h : store.valid) (inside : Bool) : (store.loseFlight inside).valid :=
  h.of_idle rfl rfl rfl

theorem Store.valid.afterReset {store : Store} (h : store.valid) : store.afterReset.valid := h.of_idle rfl rfl rfl

/-- A lead slot field that is taken names no stage's own slot (R169). -/
theorem leadOf_other {st : StageId} {lead : Nat} (taken : (leadOf st lead).isSome = true) :
    (leadOf st lead).getD none ≠ some st.slot := by
  unfold leadOf at taken ⊢
  split
  · simp
  · next named =>
    rw [if_neg named] at taken
    split
    · next small =>
      rw [dif_pos small] at taken
      split
      · next own => rw [if_pos own] at taken; simp at taken
      · next other =>
        intro same
        simp only [Option.getD_some, Option.some.injEq] at same
        exact other (congrArg Fin.val same)
    · simp

end Sys2Proof.Machine
end

section
/-! Proofs/CommandMoves.lean: every command that neither changes what the store holds nor a unit's presence or window is a chain of
changes of stage records (`exec_moves`). -/

namespace Sys2Proof.Machine

/-! ### Frames of units -/

theorem State.unitFrame_moves {α : Type} {u : UnitId} {fields : Option α} {invalidSlot : Byte} {slotOfFields : α → Slot}
    {taken : α → State → State} {s : State} (effect : ∀ x, (s.unit u).presence ≠ .absent → s.Moves (taken x s)) :
    s.Moves (s.unitFrame u fields invalidSlot slotOfFields taken) := by
  unfold State.unitFrame
  split
  · exact (s.place_moves _).trans (State.bump_moves _ _)
  · split
    · exact s.sendDefer_moves _ _
    · next x present => exact effect x present

theorem State.acceptCall_moves {st : StageId} {s : State} (idle : (s.stage st).state = .idle)
    (room : s.calls.entries.length < callCapacity) (present : (s.unit st.unit).presence ≠ .absent) : s.Moves (s.acceptCall st) := by
  have entered : s.Moves ((s.onStage st fun r => { r with state := .queued }).enterCall st (s.stage st).working.shedClass false) := by
    have capacity := State.withinCapacity_congr (s := s)
      (t := (s.onStage st fun r => { r with state := .queued }).enterCall st (s.stage st).working.shedClass false)
      (by simp) (by simp) (by simp) (by simp)
    refine (Move.enter st (s.stage st).working.shedClass false (.of_capacity (by simp) (by simp) capacity) idle present room ?_ ?_
      ?_).moves
    · simp; rfl
    · simp [State.enterCall_calls]; rfl
    · simp [State.enterCall_calls]; rfl
  exact (entered.trans (State.sendDefer_moves _ _ _)).trans (State.give_moves _ _)

theorem State.takeCall_moves {st : StageId} {s : State} (present : (s.unit st.unit).presence ≠ .absent) :
    s.Moves (s.takeCall st) := by
  simp only [State.takeCall]
  split
  · next idle =>
    split
    · exact s.sendDefer_moves _ _
    · split
      · exact (s.bump_moves _).trans (State.sendDefer_moves _ _ _)
      · next room => exact State.acceptCall_moves idle (Nat.lt_of_not_le room) present
  case h_3 => exact s.place_moves _
  case h_7 => exact .refl s
  all_goals exact s.sendDefer_moves _ _

theorem State.takeWithdraw_moves (st : StageId) (s : State) : s.Moves (s.takeWithdraw st) := by
  unfold State.takeWithdraw
  split
  · next queued => exact State.onStage_dropCall_moves (.leave (.inr (.inl queued))) (by simp)
  · next granted => exact State.decline_moves granted
  all_goals exact .refl s

theorem State.takeStopped_moves (st : StageId) (s : State) : s.Moves (s.takeStopped st) := by
  unfold State.takeStopped
  split
  · next granted => exact State.decline_moves granted
  · next running => exact State.releaseStage_moves (.inl running)
  · next stopping => exact State.releaseStage_moves (.inr (.inl stopping))
  all_goals exact .refl s

theorem State.unit_onUnit (s : State) (u : UnitId) (f : UnitRec → UnitRec) (v : UnitId) :
    (s.onUnit u f).unit v = if v = u then f (s.unit u) else s.unit v := by
  split
  · next same => rw [same, State.unit_onUnit_self]
  · next other => exact s.unit_onUnit_other f other

/-- A change of unit records that leaves presence, window and errors as they were. -/
theorem State.onUnit_moves {u : UnitId} {f : UnitRec → UnitRec} (s : State)
    (kept : ∀ r, (f r).presence = r.presence ∧ (f r).phase = r.phase ∧ (f r).window = r.window ∧ (f r).errors = r.errors) :
    s.Moves (s.onUnit u f) := by
  have unit := s.unit_onUnit u f
  refine .of_steady ⟨fun v => ?_, fun v => ?_, fun v => ?_, fun v => ?_, rfl, rfl, id, id⟩ rfl ⟨rfl, rfl⟩ <;> rw [unit] <;> split
  · next same => rw [same]; exact (kept _).1
  · rfl
  · next same => rw [same]; exact (kept _).2.1
  · rfl
  · next same => rw [same]; exact (kept _).2.2.1
  · rfl
  · next same => rw [same]; exact (kept _).2.2.2
  · rfl

theorem State.formAttention_moves (s : State) : s.Moves s.formAttention := .of_same (by simp [State.formAttention])

theorem State.takeTrip_moves (u : UnitId) (bitmap : Byte) (cause : Nat) (s : State) : s.Moves (s.takeTrip u bitmap cause) := by
  simp only [State.takeTrip]
  have tripped := State.foldl_moves (f := fun s k => s.tripStage cause { unit := u, slot := k }) (slotsOf bitmap) s
    fun x k _ _ => x.tripStage_moves cause _
  refine ((tripped.trans (State.onUnit_moves _ fun r => ?_)).trans (State.formAttention_moves _)).trans (State.bump_moves _ _)
  unfold UnitRec.recordTrip
  split <;> simp

theorem State.takeTripReset_moves (u : UnitId) (bitmap : Byte) (s : State) : s.Moves (s.takeTripReset u bitmap) :=
  State.foldl_moves _ s fun x _ _ _ => x.clearStage_moves _

/-! ### Gateway frames -/

theorem State.gatewayFrame_moves {α : Type} {kind : Nat} {fields : Option α} {taken : α → State → State} {s : State}
    (effect : ∀ x, fields = some x → s.Moves (taken x s)) : s.Moves (s.gatewayFrame kind fields taken) := by
  unfold State.gatewayFrame
  split
  · exact (s.answer_moves _ _ _).trans (State.bump_moves _ _)
  · next x => exact effect x rfl

theorem State.unlessHalted_moves {kind : Nat} {taken : State → State} {s : State} (effect : s.Moves (taken s)) :
    s.Moves (s.unlessHalted kind taken) := by
  unfold State.unlessHalted
  split
  · exact s.answer_moves _ _ _
  · exact effect

theorem State.formLambda_orders (s : State) : s.formLambda.shed.orders = s.shed.orders := by
  simp only [State.formLambda]; split <;> simp

theorem State.takeCeiling_moves (k : Nat) (s : State) : s.Moves (s.takeCeiling k) :=
  (s.onAccount_moves _).trans (State.answer_moves _ _ _ _)

theorem State.takeCurtail_moves (level : Nat) (s : State) : s.Moves (s.takeCurtail level) :=
  (Moves.of_same (by simp [State.formLambda_orders])).trans (State.answer_moves _ _ _ _)

/-- A change of the order table that keeps it at most four orders with distinct numbers 1..255 (R103). -/
theorem State.onShed_moves {s : State} {f : Shed → Shed} (capacity : s.withinCapacity → (s.onShed f).withinCapacity) :
    s.Moves (s.onShed f) := .of_steady (.of_capacity rfl rfl capacity) rfl ⟨rfl, rfl⟩

theorem State.onShed_filter_moves (s : State) (number : Byte) :
    s.Moves (s.onShed fun d => { d with orders := d.orders.filter fun o => o.number != number }) :=
  State.onShed_moves fun ⟨q, l, distinct, named, rest⟩ =>
    ⟨q, (List.length_filter_le _ _).trans l, distinct.sublist (List.filter_sublist.map _),
      fun o ho => named o (List.mem_of_mem_filter ho), rest⟩

theorem State.orderLeft_moves (s : State) : s.Moves s.orderLeft := s.give_moves _

theorem State.orderTaken_moves (action : OrderAction) (s : State) : s.Moves (s.orderTaken action) := by
  cases action
  · exact .refl s
  · exact s.give_moves _

theorem State.answerOrder_moves (status : Status) (s : State) : s.Moves (s.answerOrder status) := s.answer_moves _ _ _

theorem State.takeOrder_moves {f : OrderFields} (named : f.number ≠ 0) (s : State) : s.Moves (s.takeOrder f) := by
  simp only [State.takeOrder]
  split
  · split
    · exact ((s.onShed_filter_moves _).trans (State.answerOrder_moves _ _)).trans (State.orderLeft_moves _)
    · exact s.answerOrder_moves _
  · split
    · have replaced : s.Moves (s.onShed fun d =>
          { d with orders := d.orders.map fun o => if o.number = f.number then f.order else o }) := by
        refine State.onShed_moves fun ⟨q, l, distinct, all, rest⟩ => ⟨q, by simpa using l, ?_, ?_, rest⟩
        · have numbers : (s.shed.orders.map fun o => if o.number = f.number then f.order else o).map ShedOrder.number =
              s.shed.orders.map ShedOrder.number := by
            rw [List.map_map]
            refine List.map_congr_left fun o _ => ?_
            simp only [Function.comp]
            split
            · next same => exact same.symm
            · rfl
          simpa only [State.onShed_shed, numbers] using distinct
        · intro o ho
          obtain ⟨o', mem, rfl⟩ := List.mem_map.mp ho
          split
          · exact named
          · exact all o' mem
      exact ((replaced.trans (State.answerOrder_moves _ _)).trans (State.orderLeft_moves _)).trans (State.orderTaken_moves _ _)
    · next notHeld =>
      split
      · next room =>
        have entered : s.Moves (s.onShed fun d => { d with orders := d.orders ++ [f.order] }) := by
          refine State.onShed_moves fun ⟨q, l, distinct, all, rest⟩ => ⟨q, by simpa using room, ?_, ?_, rest⟩
          · have new : ∀ o ∈ s.shed.orders, o.number ≠ f.number := by simpa using notHeld
            rw [State.onShed_shed, List.map_append, List.nodup_append]
            refine ⟨distinct, by simp, fun a ha b hb same => ?_⟩
            obtain ⟨o, mem, rfl⟩ := List.mem_map.mp ha
            exact new o mem (same.trans (List.mem_singleton.mp hb))
          · intro o ho
            rcases List.mem_append.mp ho with mem | mem
            · exact all o mem
            · rw [List.mem_singleton.mp mem]; exact named
        exact (entered.trans (State.answerOrder_moves _ _)).trans (State.orderTaken_moves _ _)
      · exact s.answerOrder_moves _

theorem orderFields_named {d : List Byte} {f : OrderFields} (h : orderFields d = some f) : f.number ≠ 0 := by
  unfold orderFields at h
  split at h
  · split at h
    · cases h
    · next good =>
      simp only [Option.map_eq_some_iff] at h
      obtain ⟨_, -, rfl⟩ := h
      exact fun zero => good (.inl zero)
  · cases h

theorem State.orderUnlessHalted_moves {f : OrderFields} (named : f.number ≠ 0) (s : State) : s.Moves (s.orderUnlessHalted f) := by
  unfold State.orderUnlessHalted
  split
  · exact s.answerOrder_moves _
  · exact State.takeOrder_moves named s

/-- An operation in flight carries what R168 allows. -/
theorem State.startOperation_moves {o : Operation} (s : State) (allowed : ∀ item, o = .write item → item.valid = true) :
    s.Moves (s.startOperation o) := by
  refine .of_steady ⟨fun _ => rfl, fun _ => rfl, fun _ => rfl, fun _ => rfl, rfl, rfl, fun valid => ?_, id⟩ rfl ⟨rfl, rfl⟩
  refine valid.congr rfl rfl fun item carried => ?_
  cases o with
  | write item' =>
    simp only [State.startOperation, State.onStore_store, Store.itemInFlight, Option.mem_def, Option.some.injEq] at carried
    exact carried ▸ allowed item' rfl
  | erase => simp [State.startOperation, Store.itemInFlight] at carried

theorem State.takeWrite_moves {kind : Nat} {valid : Bool} {item : StoreItem} {clamped : Bool} {data : List Byte} (s : State)
    (allowed : valid = true → item.valid = true) : s.Moves (s.takeWrite kind valid item clamped data) := by
  unfold State.takeWrite
  split
  · exact s.answer_moves _ _ _
  split
  · exact s.answer_moves _ _ _
  split
  · exact s.answer_moves _ _ _
  · next isValid =>
    refine (s.startOperation_moves fun item' same => ?_).trans (State.answer_moves _ _ _ _)
    obtain rfl := Operation.write.inj same
    exact allowed (by simpa using isValid)

theorem State.takeElectrical_moves (f : ElectricalFields) (s : State) : s.Moves (s.takeElectrical f) := by
  refine s.takeWrite_moves fun lead => ?_
  obtain ⟨load1, load2⟩ := Setting.clampTo_range (show 1 ≤ 600 by decide) f.load
  obtain ⟨cls1, cls2⟩ := Setting.clampTo_range (show 1 ≤ 3 by decide) f.shedClass
  simp only [StoreItem.valid, decide_eq_true_eq]
  exact ⟨load1, load2, cls1, cls2, leadOf_other lead⟩

theorem State.takeTiming_moves (st : StageId) (on off : Nat) (s : State) : s.Moves (s.takeTiming st on off) := by
  refine s.takeWrite_moves fun _ => ?_
  simp only [StoreItem.valid, decide_eq_true_eq]
  exact ⟨(Setting.clampTo_range (by decide) _).2, (Setting.clampTo_range (by decide) _).2⟩

theorem State.takeSetting_moves (number : Nat) (x : Setting) (v : Nat) (s : State) : s.Moves (s.takeSetting number x v) :=
  s.takeWrite_moves fun _ => by
    simp only [StoreItem.valid, decide_eq_true_eq]
    exact x.clamp_allows v

theorem State.takeLock_moves (s : State) : s.Moves s.takeLock := by
  have locked : s.Moves (s.onStore fun d => { d with lock := true }) :=
    .of_steady ⟨fun _ => rfl, fun _ => rfl, fun _ => rfl, fun _ => rfl, rfl, rfl, fun h => h.congr rfl rfl h.2.2, id⟩ rfl
      ⟨rfl, rfl⟩
  exact locked.trans (State.answer_moves _ _ _ _)

theorem State.takeErase_moves (s : State) : s.Moves s.takeErase := by
  unfold State.takeErase
  split
  · exact s.answer_moves _ _ _
  · exact (s.startOperation_moves (by simp)).trans (State.answer_moves _ _ _ _)

/-- An entry that is in the queue, or whose stage an earlier entry made IDLE, is flushed (R75). -/
theorem State.flushEntry_moves {s : State} {e : CallEntry}
    (held : (∃ x ∈ s.calls.entries, x.stage = e.stage) ∨ (s.stage e.stage).state = .idle) : s.Moves (s.flushEntry e) := by
  have removed := State.removeCall_moves (.leave (held.imp_right .inr)) (by simp)
    (.onStage s e.stage fun r => { r with state := .idle }) rfl rfl
  simp only [State.flushEntry]
  have counted := removed.trans (State.bump_moves .flushedEntries _)
  split
  · exact counted.trans (State.markRemoved_moves _ _ _)
  · exact counted.trans (State.sendDefer_moves _ _ _)

theorem State.flushEntry_entries (s : State) (e : CallEntry) :
    (s.flushEntry e).calls.entries = s.calls.entries.filter fun x => x.stage != e.stage := by
  simp only [State.flushEntry]
  split <;> simp [State.removeCall_entries]

theorem State.flushEntry_stage (s : State) (e : CallEntry) (st : StageId) :
    (s.flushEntry e).stage st = if st = e.stage then { s.stage st with state := .idle } else s.stage st := by
  have stages : (s.flushEntry e).stages = (s.onStage e.stage fun r => { r with state := .idle }).stages := by
    simp only [State.flushEntry]
    split <;> simp
  rw [State.stage, stages]
  refine (s.stage_onStage e.stage st _).trans ?_
  split
  · next same => rw [same]
  · rfl

theorem State.flushEntries_moves (l : List CallEntry) (s : State)
    (held : ∀ e ∈ l, (∃ x ∈ s.calls.entries, x.stage = e.stage) ∨ (s.stage e.stage).state = .idle) :
    s.Moves (l.foldl State.flushEntry s) := by
  induction l generalizing s with
  | nil => exact .refl s
  | cons e rest ih =>
    refine (State.flushEntry_moves (held e (by simp))).trans (ih _ fun e' he => ?_)
    rw [State.flushEntry_entries, State.flushEntry_stage]
    by_cases same : e'.stage = e.stage
    · exact .inr (by simp [same])
    · exact (held e' (by simp [he])).imp (fun ⟨x, mem, hx⟩ => ⟨x, by simp [mem, hx, same], hx⟩) (fun h => by simp [same, h])

theorem State.takeFlush_moves (u : Option UnitId) (s : State) : s.Moves (s.takeFlush u) := by
  simp only [State.takeFlush]
  generalize named : (s.calls.entries.filter _) = l
  have inQueue : ∀ e ∈ l, e ∈ s.calls.entries := fun e he => (List.mem_filter.mp (named ▸ he)).1
  have flushed := (State.flushEntries_moves l s fun e he => .inl ⟨e, inQueue e he, rfl⟩).trans
    (State.answer_moves 26 .ok [byteOf l.length] _)
  split
  · exact flushed.trans (State.feed_moves _)
  · exact flushed

theorem State.answerPage_moves (page : Option (List Byte)) (s : State) : s.Moves (s.answerPage page) := by
  cases page <;> exact s.answer_moves _ _ _

theorem State.collectTrips_moves (u : UnitId) (s : State) : s.Moves (s.collectTrips u) := by
  simp only [State.collectTrips]
  have answered := s.answerPage_moves (some (s.tripPage u))
  split
  · exact (answered.trans (State.onUnit_moves (f := UnitRec.collected) _ fun r => ⟨rfl, rfl, rfl, rfl⟩)).trans (State.formAttention_moves _)
  · exact answered

/-! ### The roof link -/

theorem State.frameSent_moves (source : TxSource) (s : State) : s.Moves (s.frameSent source) := by
  cases source with
  | stopSlot =>
    refine Moves.trans (t := (s.onLink fun l => { l with stopSlot := none, failures := 0 }).attemptEnds) ?_ (State.give_moves _ _)
    exact .of_link (by simp [State.attemptEnds]) id (fun _ => by simp [State.attemptEnds, failureLimit])
  | queueHead =>
    have sent : s.Moves (s.onLink fun l => { l with queue := l.queue.tail, failures := 0 }).attemptEnds :=
      .of_link (by simp [State.attemptEnds]) (fun h => by simp [State.attemptEnds]; omega)
        (fun _ => by simp [State.attemptEnds, failureLimit])
    simp only [State.frameSent]
    split
    · exact sent.trans (State.give_moves _ _)
    · split
      · exact sent.trans (State.give_moves _ _)
      · exact sent

theorem State.frameFailed_moves (s : State) : s.Moves s.frameFailed := by
  simp only [State.frameFailed]
  split
  · exact .of_link (by simp [State.goOffBus, State.attemptEnds]) (fun h => by simpa [State.goOffBus, State.attemptEnds] using h)
      (fun _ => by simp [State.goOffBus, failureLimit])
  · next few =>
    exact .of_link (by simp [State.attemptEnds]) (fun h => by simpa [State.attemptEnds] using h) (fun _ => Nat.lt_of_not_le few)

theorem State.attemptEnds_moves (s : State) : s.Moves s.attemptEnds := .of_same (by simp [State.attemptEnds])

theorem State.transmission_moves (source : TxSource) (outcome : TxOutcome) (s : State) :
    s.Moves (s.transmission source outcome) := by
  unfold State.transmission
  split
  · cases outcome with
    | sent => exact s.frameSent_moves source
    | lostArbitration => exact s.attemptEnds_moves
    | failed => exact s.frameFailed_moves
  · exact .refl s

theorem State.returnToBus_moves (s : State) : s.Moves s.returnToBus := by
  unfold State.returnToBus
  split
  · exact .refl s
  · exact .of_same (by simp [State.attemptEnds])

theorem State.siteBeaconDue_moves (s : State) : s.Moves s.siteBeaconDue := by
  simp only [State.siteBeaconDue]
  have reloaded : s.Moves (s.onLink fun l => { l with beaconTimer := siteBeaconTime }) := .of_same (by simp)
  split
  · next room =>
    exact reloaded.trans (State.enqueue_moves _ (by have := room.2; simp only [State.onLink_link, noticeMark, noticeCapacity] at *; omega))
  · exact reloaded.trans (State.bump_moves _ _)

/-! ### Timers -/

theorem State.restExpires_moves (st : StageId) (s : State) : s.Moves (s.restExpires st) := by
  unfold State.restExpires
  split
  · exact (State.onStage_moves .restEnds Iff.rfl).trans (State.give_moves _ _)
  · exact .refl s

theorem State.runExpires_moves (st : StageId) (s : State) : s.Moves (s.runExpires st) := by
  unfold State.runExpires
  split
  · exact (State.onStage_moves .runEnds Iff.rfl).trans (State.give_moves _ _)
  · exact .refl s

theorem State.windowExpires_moves (st : StageId) (s : State) : s.Moves (s.windowExpires st) := by
  unfold State.windowExpires
  split
  · exact State.onStage_moves .windowEnds Iff.rfl
  · exact .refl s

theorem State.boundary_moves (cause : BoundaryCause) (s : State) : s.Moves (s.boundary cause) := .of_same (by simp)

theorem State.closeAtLength_moves (s : State) : s.Moves s.closeAtLength := by
  unfold State.closeAtLength
  split
  · split
    · exact s.boundary_moves _
    · exact ((s.boundary_moves _).trans (State.bump_moves _ _)).trans (State.bump_moves _ _)
  · exact .refl s

theorem State.evaluate_moves (s : State) : s.Moves s.evaluate := by
  have counted : s.Moves (s.onAccount fun a => { a with evaluationTimer := evaluationTime }).advanceInterval :=
    (s.onAccount_moves _).trans (State.onAccount_moves _ _)
  exact (((((counted.trans (State.closeAtLength_moves _)).trans (State.onAccount_moves _ _)).trans (State.onAccount_moves _ _)).trans
    (State.give_moves _ _)).trans (State.give_moves _ _)).trans (State.give_moves _ _)

theorem State.silenceExpires_moves (s : State) : s.Moves s.silenceExpires := by
  simp only [State.silenceExpires]
  split
  · exact .of_same (by simp)
  · exact s.onAccount_moves _

theorem State.supervisionLapses_moves (s : State) : s.Moves s.supervisionLapses := by
  unfold State.supervisionLapses
  split
  · exact (s.onAccount_moves _).trans (State.bump_moves _ _)
  · exact .refl s

theorem State.startSlotExpires_moves (s : State) : s.Moves s.startSlotExpires := by
  unfold State.startSlotExpires
  split
  · exact .of_same (by simp)
  · exact .refl s

theorem State.orderExpires_moves (number : Byte) (s : State) : s.Moves (s.orderExpires number) := by
  unfold State.orderExpires
  split
  · exact ((s.onShed_filter_moves _).trans (State.bump_moves _ _)).trans (State.orderLeft_moves _)
  · exact .refl s

/-! ### The site lines -/

theorem State.pulseStuck_moves (s : State) : s.Moves s.pulseStuck := .of_same (by simp)

theorem State.deliverCurtail_moves (s : State) : s.Moves s.deliverCurtail := by
  refine .of_same ?_
  simp only [State.deliverCurtail]
  split <;> simp [State.formLambda_orders]

theorem State.intervalMark_moves (s : State) : s.Moves s.intervalMark := .of_same (by simp)

theorem State.pulseAsserted_moves (s : State) : s.Moves s.pulseAsserted := by
  unfold State.pulseAsserted
  split
  · exact .of_same (by simp)
  all_goals exact .refl s

theorem State.pulseMinimum_moves (s : State) : s.Moves s.pulseMinimum := by
  unfold State.pulseMinimum
  split
  · exact s.onLines_moves _
  · exact .refl s

theorem State.pulseMaximum_moves (s : State) : s.Moves s.pulseMaximum := by
  unfold State.pulseMaximum
  split
  · exact (s.onLines_moves _).trans (State.pulseStuck_moves _)
  · exact .refl s

theorem State.pulseReleased_moves (s : State) : s.Moves s.pulseReleased := by
  have rested : s.Moves s.pulseAtRest := .of_same (by simp [State.pulseAtRest])
  unfold State.pulseReleased
  split
  · exact .refl s
  · exact rested.trans (State.bump_moves _ _)
  · exact rested.trans (.of_same (by simp))
  · exact rested.trans (.of_same (by simp))

theorem State.markAsserted_moves (s : State) : s.Moves s.markAsserted := by
  unfold State.markAsserted
  split
  · exact .of_same (by simp)
  all_goals exact .refl s

theorem State.markReleased_moves (s : State) : s.Moves s.markReleased := by
  have rested : s.Moves s.markAtRest := .of_same (by simp [State.markAtRest])
  unfold State.markReleased
  split
  · exact .refl s
  · exact rested.trans (State.bump_moves _ _)
  · exact rested

theorem State.markQualifies_moves (s : State) : s.Moves s.markQualifies := by
  unfold State.markQualifies
  split
  · exact (s.onLines_moves _).trans (State.intervalMark_moves _)
  · exact .refl s

theorem State.curtailQualifies_moves (s : State) : s.Moves s.curtailQualifies := by
  unfold State.curtailQualifies
  split
  · exact .refl s
  · exact (s.onLines_moves _).trans (State.deliverCurtail_moves _)

theorem State.debounceStarts_moves (line : DebouncedLine) (level : Bool) (s : State) : s.Moves (s.debounceStarts line level) := by
  cases line
  · exact (.of_same (by simp [State.debounceStarts]))
  · exact (.of_same (by simp [State.debounceStarts]))

theorem State.powerFailRead_moves (asserted : Bool) (s : State) : s.Moves (s.powerFailRead asserted) := by
  have set : ∀ state timer, s.Moves (s.setPowerFail state timer) := fun _ _ => s.onLines_moves _
  unfold State.powerFailRead
  split
  · exact set _ _
  · exact (set _ _).trans (State.bump_moves _ _)
  · exact set _ _
  · exact (set _ _).trans (State.bump_moves _ _)
  all_goals exact .refl s

end Sys2Proof.Machine
end

section
/-! Proofs/Turns.lean: every step is a chain of turns: the changes of stage records, and what else a command does to units, to what the
store holds and to the clock (`step_turns`). -/

namespace Sys2Proof.Machine

/-! ### Units -/

theorem State.anomaly_moves (u : UnitId) (s : State) : s.Moves (s.anomaly u) :=
  ((s.onUnit_moves (f := fun r => { r with anomaly := true }) fun _ => ⟨rfl, rfl, rfl, rfl⟩).trans (State.bump_moves _ _)).trans
    (State.formAttention_moves _)

theorem State.reconcileSlot_moves {s : State} {st : StageId} (bitmap : Byte) (watched : (s.unit st.unit).presence ≠ .absent) :
    s.Moves (s.reconcileSlot bitmap st) := by
  have waiting : (s.stage st).state = .idle ∨ (s.stage st).state = .queued →
      s.Moves (if (s.stage st).working.kind = .none then s.anomaly st.unit else s.adoptStage st none) := fun waits => by
    split
    · exact s.anomaly_moves _
    · exact State.adoptStage_moves waits watched none
  unfold State.reconcileSlot
  simp only
  split
  · split
    · next h => exact waiting (.inl h)
    · next h => exact waiting (.inr h)
    · next h => exact State.confirmStage_moves h
    · next h => exact State.resumeStage_moves h watched
    · exact s.anomaly_moves _
    all_goals exact .refl s
  · split
    · next h => exact State.releaseStage_moves (.inl h)
    · next h => exact State.releaseStage_moves (.inr (.inl h))
    · next h => exact State.releaseStage_moves (.inr (.inr h))
    all_goals exact .refl s

theorem State.reconcile_moves {s : State} {u : UnitId} (bitmap : Byte) (watched : (s.unit u).presence ≠ .absent) :
    s.Moves (s.reconcile u bitmap) :=
  State.foldl_moves _ s fun x st member before => State.reconcileSlot_moves bitmap (by
    rw [before.steady.presence, mem_stagesOf.mp member]; exact watched)

theorem State.holdStages_moves {s : State} {u : UnitId} (absent : (s.unit u).presence = .absent) :
    s.Moves ((stagesOf u).foldl (fun s st => s.holdStage st) s) :=
  State.foldl_moves _ s fun x st member before => State.holdStage_moves (by
    rw [before.steady.presence, mem_stagesOf.mp member]; exact absent)

theorem State.clearOrRelease_moves (st : StageId) (s : State) : s.Moves (s.clearOrRelease st) := by
  unfold State.clearOrRelease
  split
  · exact s.clearStage_moves st
  · next held => exact State.releaseStage_moves (.inr (.inr held))
  all_goals exact .refl s

theorem State.clearOrReleases_moves (u : UnitId) (s : State) : s.Moves ((stagesOf u).foldl State.clearOrRelease s) :=
  State.foldl_moves _ s fun x st _ _ => x.clearOrRelease_moves st

theorem State.resendStop_moves (st : StageId) (s : State) : s.Moves (s.resendStop st) := by
  simp only [State.resendStop]
  split
  · next room => exact State.placeStop_moves _ room
  · exact s.bump_moves _

/-- The STOP of a STOPPING stage goes again, with its timer reloaded (R18). -/
theorem State.reloadStop_moves {s : State} {st : StageId} (stopping : (s.stage st).state = .stopping) :
    s.Moves ((s.onStage st fun r => { r with handshake := s.settingTime .stopTimeout }).resendStop st) :=
  (State.onStage_moves (.reload stopping _) Iff.rfl).trans (State.resendStop_moves _ _)

theorem State.startGate_moves (s : State) : s.Moves s.startGate := .of_same (by simp [State.startGate])

/-! ### Commands that are chains of changes of stage records -/

theorem State.take_moves {f : State → State} {s t : State} (h : s.take f = .next t) (effect : s.Moves (f s)) : s.Moves t := by
  obtain rfl : (if s.supplied then (f s).drain else s) = t := by simpa [State.take] using h
  split
  · exact effect.trans (f s).drain_moves
  · exact .refl s

theorem State.receive_moves {f : State → State} {s t : State} (h : s.receive f = .next t) (effect : s.Moves (f s)) :
    s.Moves t := by
  refine State.take_moves h ?_
  split
  · exact effect
  · exact .refl s

theorem State.pinChange_moves {pins : Pins → Pins} {f : State → State} {s t : State} (h : s.pinChange pins f = .next t)
    (effect : ∀ x : State, x.Moves (f x)) : s.Moves t := by
  obtain rfl : (if s.supplied then (f (s.onPins pins)).drain else s.onPins pins) = t := by simpa [State.pinChange] using h
  have pinned : s.Moves (s.onPins pins) := .of_same (by simp)
  split
  · exact (pinned.trans (effect _)).trans (State.drain_moves _)
  · exact pinned

/-- The commands that also change a unit's presence or window, what the store holds, or reset the part. -/
def Instr.special : Instr → Bool
  | .started .. | .unitBeacon .. | .clearUnit .. | .confirmTimeout .. | .stopTimeout .. | .windowGuardExpiry ..
  | .missedWindow .. | .joinTimerExpiry | .settleTimerExpiry | .powerFailQualificationExpiry | .writeCompletion
  | .eraseCompletion | .powerOnReset | .resetLine .. | .supplyLoss .. => true
  | _ => false

theorem State.gatewayCommand_moves {α : Type} {kind : Nat} {fields : Option α} {taken : α → State → State} {s t : State}
    (h : s.receive (State.gatewayFrame kind fields fun x => State.unlessHalted kind (taken x)) = .next t)
    (effect : ∀ x, s.Moves (taken x s)) : s.Moves t :=
  State.receive_moves h (State.gatewayFrame_moves fun x _ => State.unlessHalted_moves (effect x))

/-- A QUERY is answered with a page and changes no record (R165). -/
theorem State.query_moves {α : Type} {fields : Option α} {taken : α → State → State} {s t : State}
    (h : s.receive (State.gatewayFrame 27 fields taken) = .next t) (effect : ∀ x, s.Moves (taken x s)) : s.Moves t :=
  State.receive_moves h (State.gatewayFrame_moves fun x _ => effect x)

/-- Every other command is a chain of changes of stage records. -/
theorem exec_moves {i : Instr} {s t : State} (plain : Instr.special i = false) (h : exec i s = .next t) : s.Moves t := by
  unfold exec at h
  cases i with
  | call u data => exact State.receive_moves h (State.unitFrame_moves fun _ present => State.takeCall_moves present)
  | withdraw u data => exact State.receive_moves h (State.unitFrame_moves fun _ _ => s.takeWithdraw_moves _)
  | stopped u data => exact State.receive_moves h (State.unitFrame_moves fun _ _ => s.takeStopped_moves _)
  | trip u data => exact State.receive_moves h (State.unitFrame_moves fun _ _ => s.takeTrip_moves _ _ _)
  | tripReset u data => exact State.receive_moves h (State.unitFrame_moves fun _ _ => s.takeTripReset_moves _ _)
  | foreignFrame frame =>
    refine State.receive_moves h ?_
    split
    · exact .refl s
    · exact s.bump_moves _
  | setCeiling data => exact State.gatewayCommand_moves h fun _ => s.takeCeiling_moves _
  | setCurtail data => exact State.gatewayCommand_moves h fun _ => s.takeCurtail_moves _
  | shedOrder data =>
    exact State.receive_moves h (State.gatewayFrame_moves fun f fields => s.orderUnlessHalted_moves (orderFields_named fields))
  | writeStageElectrical data => exact State.gatewayCommand_moves h fun _ => s.takeElectrical_moves _
  | writeStageTiming data => exact State.gatewayCommand_moves h fun _ => s.takeTiming_moves _ _ _
  | writeUnitGroup data => exact State.gatewayCommand_moves h fun _ => s.takeWrite_moves fun _ => rfl
  | writeSetting data =>
    refine State.receive_moves h (State.gatewayFrame_moves fun f _ => ?_)
    split
    · exact s.answer_moves _ _ _
    · exact State.unlessHalted_moves (s.takeSetting_moves _ _ _)
  | lockProfiles data => exact State.gatewayCommand_moves h fun _ => s.takeLock_moves
  | eraseProfiles data => exact State.receive_moves h (State.gatewayFrame_moves fun _ _ => s.takeErase_moves)
  | flushCalls data => exact State.gatewayCommand_moves h fun _ => s.takeFlush_moves _
  | querySite data => exact State.query_moves h fun _ => s.answerPage_moves _
  | queryStage data => exact State.query_moves h fun _ => s.answerPage_moves _
  | queryUnit data => exact State.query_moves h fun _ => s.answerPage_moves _
  | queryQueue data => exact State.query_moves h fun _ => s.answerPage_moves _
  | queryOrder data => exact State.query_moves h fun _ => s.answerPage_moves _
  | queryRoster data => exact State.query_moves h fun _ => s.answerPage_moves _
  | queryCounter data => exact State.query_moves h fun _ => s.answerPage_moves _
  | queryDigest data => exact State.query_moves h fun _ => s.answerPage_moves _
  | queryIdentity data => exact State.query_moves h fun _ => s.answerPage_moves _
  | queryTripCollect data =>
    refine State.query_moves h fun _ => ?_
    split
    · exact s.collectTrips_moves _
    · exact .refl s
  | frameTransmission source outcome => exact State.take_moves h (s.transmission_moves _ _)
  | offBusTimerExpiry => exact State.take_moves h s.returnToBus_moves
  | siteBeaconTimerExpiry => exact State.take_moves h s.siteBeaconDue_moves
  | evaluation => exact State.take_moves h s.evaluate_moves
  | rateWindowExpiry => exact State.take_moves h (s.onAccount_moves _)
  | silenceTimerExpiry => exact State.take_moves h s.silenceExpires_moves
  | supervisionTimerExpiry => exact State.take_moves h s.supervisionLapses_moves
  | restTimerExpiry st => exact State.take_moves h (s.restExpires_moves st)
  | runTimerExpiry st => exact State.take_moves h (s.runExpires_moves st)
  | windowTimerExpiry st => exact State.take_moves h (s.windowExpires_moves st)
  | startSlotExpiry => exact State.take_moves h s.startSlotExpires_moves
  | orderTimerExpiry number => exact State.take_moves h (s.orderExpires_moves number)
  | displacementHoldOffExpiry => exact State.take_moves h (.of_same (by simp [State.holdOffExpires]))
  | debouncePinChange line level =>
    refine State.pinChange_moves h fun x => ?_
    split
    · exact .refl x
    · exact x.debounceStarts_moves _ _
  | pulseAssertionEdge => exact State.take_moves h s.pulseAsserted_moves
  | pulseMinimumWidthReached => exact State.take_moves h s.pulseMinimum_moves
  | pulseMaximumWidthReached => exact State.take_moves h s.pulseMaximum_moves
  | pulseReleaseEdge => exact State.take_moves h s.pulseReleased_moves
  | markAssertionEdge => exact State.take_moves h s.markAsserted_moves
  | markReleaseEdge => exact State.take_moves h s.markReleased_moves
  | markQualified => exact State.take_moves h s.markQualifies_moves
  | curtailCodeChange code =>
    refine State.pinChange_moves h fun x => ?_
    split
    · exact .refl x
    · exact x.onLines_moves _
  | curtailStabilityExpiry => exact State.take_moves h s.curtailQualifies_moves
  | powerFailPinChange asserted => exact State.pinChange_moves h fun x => x.powerFailRead_moves _
  | started | unitBeacon | clearUnit | confirmTimeout | stopTimeout | windowGuardExpiry | missedWindow | joinTimerExpiry
  | settleTimerExpiry | powerFailQualificationExpiry | writeCompletion | eraseCompletion | powerOnReset | resetLine
  | supplyLoss => exact absurd plain (by simp [Instr.special])

/-! ### Turns -/

/-- A change of a stage record, a change that leaves stages, calls and their arrival counter alone, the mains-off reset, a reset or
one millisecond. -/
inductive State.Turn (s t : State) : Prop
  | move (move : s.Move t)
  | side (stages : t.stages = s.stages) (entries : t.calls.entries = s.calls.entries)
      (arrival : t.calls.arrival = s.calls.arrival) (validStore : s.store.valid → t.store.valid)
      (capacity : s.withinCapacity → t.withinCapacity)
  | mainsOff (stages : t.stages = s.mainsOffReset.stages) (entries : t.calls.entries = [])
      (arrival : t.calls.arrival = s.calls.arrival) (store : t.store = s.store) (capacity : s.withinCapacity → t.withinCapacity)
  | reset (store : Store) (pins : Pins) (cause : ResetCause) (drawn : Nat) (pending : List Instr)
      (validStore : s.store.valid → store.valid) (after : t = State.afterReset store pins cause drawn pending)
  | tick (after : t = s.advance)

/-- A chain of turns. -/
def State.Turns : State → State → Prop := Relation.ReflTransGen State.Turn

theorem State.Turns.refl (s : State) : s.Turns s := Relation.ReflTransGen.refl

theorem State.Turns.trans {s t x : State} (a : s.Turns t) (b : t.Turns x) : s.Turns x := Relation.ReflTransGen.trans a b

theorem State.Moves.turns {s t : State} (h : s.Moves t) : s.Turns t :=
  Relation.ReflTransGen.mono (r := Move) (p := Turn) (fun _ _ m => .move m) _ _ h

/-- What leaves stages, calls, store and capacities alone is a turn, whatever it does to the units. -/
theorem State.Turns.of_units {s t : State} (h : t.stages = s.stages ∧ t.calls.entries = s.calls.entries ∧
    t.calls.arrival = s.calls.arrival ∧ t.store = s.store ∧ t.arbiter.tokenCounter = s.arbiter.tokenCounter ∧
    t.shed.orders = s.shed.orders ∧ t.link.queue = s.link.queue ∧ t.link.failures = s.link.failures) : s.Turns t := by
  obtain ⟨stages, entries, arrival, store, token, orders, queue, failures⟩ := h
  exact .single (.side stages entries arrival (store ▸ id) (State.withinCapacity_congr queue failures orders token))

theorem State.onUnit_turns (u : UnitId) (f : UnitRec → UnitRec) (s : State) : s.Turns (s.onUnit u f) := .of_units (by simp)

theorem State.take_turns {f : State → State} {s t : State} (h : s.take f = .next t) (effect : s.Turns (f s)) : s.Turns t := by
  obtain rfl : (if s.supplied then (f s).drain else s) = t := by simpa [State.take] using h
  split
  · exact effect.trans (f s).drain_moves.turns
  · exact .refl s

theorem State.receive_turns {f : State → State} {s t : State} (h : s.receive f = .next t) (effect : s.Turns (f s)) :
    s.Turns t := by
  refine State.take_turns h ?_
  split
  · exact effect
  · exact .refl s

/-- A unit declared ABSENT holds its stages (R128). -/
theorem State.declareAbsent_turns (u : UnitId) (s : State) : s.Turns (s.declareAbsent u) := by
  have absent : (((s.onUnit u fun r => { r with presence := .absent, phase := .none, window := 0 }).bump .absences).unit
      u).presence = .absent := by simp
  exact ((State.onUnit_turns u _ s).trans (State.bump_moves _ _).turns).trans (State.holdStages_moves absent).turns

theorem State.unitError_turns (u : UnitId) (s : State) : s.Turns (s.unitError u) := by
  simp only [State.unitError]
  have counted : s.Turns ((s.onUnit u fun r => { r with errors := r.errors + 1 }).bump .unitErrors) :=
    (State.onUnit_turns u _ s).trans (State.bump_moves _ _).turns
  split
  · split
    · exact counted.trans (State.declareAbsent_turns u _)
    · exact counted
  · exact .refl s

theorem State.badToken_turns (st : StageId) (s : State) : s.Turns (s.badToken st) := by
  simp only [State.badToken]
  have deferred := (s.sendDefer_moves st .badToken).turns
  split
  · exact deferred
  · exact deferred.trans (State.unitError_turns _ _)

/-- A STARTED is a bad token or a chain of changes (R15). -/
theorem State.takeStarted_cases {st : StageId} {s : State} (token : Nat) (present : (s.unit st.unit).presence ≠ .absent) :
    s.takeStarted st token = s.badToken st ∨ s.Moves (s.takeStarted st token) := by
  have adopted : (s.stage st).state = .idle ∨ (s.stage st).state = .queued →
      s.Moves (if (s.stage st).working.kind = .none then s.sendDefer st .noProfile else s.adoptStage st (some token)) :=
    fun waits => by
      split
      · exact s.sendDefer_moves _ _
      · exact State.adoptStage_moves waits present _
  simp only [State.takeStarted]
  split
  · split
    · next h => exact .inr (State.confirmStage_moves h)
    case h_2 | h_3 | h_7 => exact .inr (.refl s)
    all_goals exact .inl rfl
  split
  · split
    · next h => exact .inr (adopted (.inl h))
    · next h => exact .inr (adopted (.inr h))
    · next h => exact .inr (State.confirmStage_moves h)
    case h_6 => exact .inl rfl
    all_goals exact .inr (.refl s)
  · split
    case h_7 => exact .inr (.refl s)
    all_goals exact .inl rfl

theorem State.takeStarted_turns {st : StageId} {s : State} (token : Nat) (present : (s.unit st.unit).presence ≠ .absent) :
    s.Turns (s.takeStarted st token) := by
  rcases State.takeStarted_cases token present with bad | moves
  · rw [bad]; exact s.badToken_turns st
  · exact moves.turns

theorem State.makePresent_turns (u : UnitId) (s : State) : s.Turns (s.makePresent u) := s.onUnit_turns u _

theorem State.makePresent_presence (u : UnitId) (s : State) : ((s.makePresent u).unit u).presence = .present := by
  simp [State.makePresent, UnitRec.startWindow]

theorem State.firstBeacon_turns (u : UnitId) (bitmap : Byte) (s : State) : s.Turns (s.firstBeacon u bitmap) :=
  (s.makePresent_turns u).trans (State.reconcile_moves bitmap (by rw [State.makePresent_presence]; simp)).turns

theorem State.rejoin_turns (u : UnitId) (bitmap : Byte) (s : State) : s.Turns (s.rejoin u bitmap) :=
  ((s.makePresent_turns u).trans (State.bump_moves _ _).turns).trans
    (State.reconcile_moves bitmap (by simp [State.makePresent_presence])).turns

theorem State.acceptBeacon_turns {u : UnitId} {s : State} (bitmap : Byte) (present : (s.unit u).presence ≠ .absent) :
    s.Turns (s.acceptBeacon u bitmap) :=
  (s.onUnit_turns u _).trans (State.reconcile_moves bitmap (by simpa [UnitRec.startWindow] using present)).turns

theorem State.takeBeacon_turns (u : UnitId) (bitmap : Byte) (s : State) : s.Turns (s.takeBeacon u bitmap) := by
  simp only [State.takeBeacon]
  split
  · split
    · exact .refl s
    · exact s.firstBeacon_turns u bitmap
  · next present =>
    split
    · exact (s.bump_moves _).turns.trans (State.unitError_turns _ _)
    · exact State.acceptBeacon_turns bitmap (by rw [present]; simp)
    · exact .refl s
  · exact s.rejoin_turns u bitmap
  · split
    · exact s.firstBeacon_turns u bitmap
    · exact .refl s

theorem State.takeClear_turns (u : UnitId) (s : State) : s.Turns (s.takeClear u) :=
  ((s.clearOrReleases_moves u).turns.trans (State.onUnit_turns u _ _)).trans (State.answer_moves _ _ _ _).turns

theorem State.confirmExpires_turns (st : StageId) (s : State) : s.Turns (s.confirmExpires st) := by
  unfold State.confirmExpires State.lapse
  split
  · next due =>
    refine Turns.trans ?_ (State.bump_moves _ _).turns
    have withdrawn := (State.withdrawPermit_moves due.1).turns
    split
    · exact withdrawn
    · exact withdrawn.trans (State.unitError_turns _ _)
  · exact .refl s

theorem State.stopExpires_turns (st : StageId) (s : State) : s.Turns (s.stopExpires st) := by
  unfold State.stopExpires
  split
  · next due => exact (State.reloadStop_moves due.1).turns.trans (State.unitError_turns _ _)
  · exact .refl s

theorem State.guardExpires_turns (u : UnitId) (s : State) : s.Turns (s.guardExpires u) := by
  unfold State.guardExpires
  split
  · exact s.onUnit_turns u _
  · exact .refl s

theorem State.windowMissed_turns (u : UnitId) (s : State) : s.Turns (s.windowMissed u) := by
  simp only [State.windowMissed]
  split
  · exact ((s.onUnit_turns u _).trans (State.bump_moves _ _).turns).trans (State.unitError_turns _ _)
  · exact .refl s

/-! ### The modes -/

theorem State.mainsOffTail_turns (s : State) : s.Turns s.mainsOffTail :=
  .single (.mainsOff (by simp [State.mainsOffTail]) (by simp [State.mainsOffTail, State.setEntries_calls])
    (by simp [State.mainsOffTail, State.setEntries_calls, State.mainsOffReset])
    (by simp [State.mainsOffTail]) (State.withinCapacity_congr (by simp [State.mainsOffTail]) (by simp [State.mainsOffTail])
      (by simp [State.mainsOffTail]) (by simp [State.mainsOffTail])))

theorem State.mainsOffFresh_turns (s : State) : s.Turns s.mainsOffFresh :=
  (s.onModes_moves _).turns.trans (State.mainsOffTail_turns _)

theorem State.powerFailAsserted_turns (s : State) : s.Turns s.powerFailAsserted := by
  unfold State.powerFailAsserted
  split
  · exact s.mainsOffFresh_turns
  · exact s.mainsOffFresh_turns
  · exact (s.onModes_moves _).turns.trans (State.mainsOffTail_turns _)
  · exact s.mainsOffTail_turns
  all_goals exact .refl s

theorem State.powerFailDeasserted_moves (s : State) : s.Moves s.powerFailDeasserted := by
  unfold State.powerFailDeasserted
  split
  · exact (s.onModes_moves _).trans (State.setMode_moves _ _)
  all_goals exact .refl s

theorem State.powerFailQualifies_turns (s : State) : s.Turns s.powerFailQualifies := by
  unfold State.powerFailQualifies
  split
  · exact (s.onLines_moves _).turns.trans (State.powerFailAsserted_turns _)
  · exact ((s.onLines_moves _).trans (State.powerFailDeasserted_moves _)).turns
  all_goals exact .refl s

theorem State.joinExpires_turns (s : State) : s.Turns s.joinExpires := by
  unfold State.joinExpires
  split
  · split
    · exact s.mainsOffFresh_turns
    · exact ((s.onModes_moves _).trans (State.setMode_moves _ _)).turns
  · exact .refl s

theorem State.settleExpires_turns (s : State) : s.Turns s.settleExpires := by
  simp only [State.settleExpires]
  split
  · have settled : s.Turns ((s.onSupervisor fun v => { v with records := mapTable UnitRec.settled v.records }).onModes
        fun d => { d with timer := 0 }) := .of_units (by simp)
    refine settled.trans ?_
    split
    · exact (((State.setMode_moves _ _).trans (State.bump_moves _ _)).trans
        ((State.startGate_moves _).trans (State.feed_moves _))).turns
    · exact (((State.onModes_moves _ _).trans (State.setMode_moves _ _)).trans (State.startGate_moves _)).turns
  · exact .refl s

/-! ### The completions of the store -/

theorem State.onStore_turns {s : State} {f : Store → Store} (valid : s.store.valid → (f s.store).valid) :
    s.Turns (s.onStore f) := .single (.side rfl rfl rfl valid id)

theorem State.groupChanged_moves (u : UnitId) (s : State) : s.Moves (s.groupChanged u) :=
  s.onUnit_moves fun _ => ⟨rfl, rfl, rfl, rfl⟩

theorem State.settingChanged_moves {x : Setting} (other : x ≠ .errorThreshold) (s : State) : s.Moves (s.settingChanged x) := by
  cases x with
  | errorThreshold => exact absurd rfl other
  | curtailLineLevel => exact s.deliverCurtail_moves
  | congestionThreshold =>
    simp only [State.settingChanged, State.formCongestion]
    split
    · exact .of_same (by simp)
    · exact .of_same (by simp)
  | intervalLength =>
    simp only [State.settingChanged]
    exact s.onAccount_moves _
  | fallbackCeiling =>
    simp only [State.settingChanged]
    split
    · exact s.onAccount_moves _
    · exact .refl s
  | minimumWidthCode =>
    simp only [State.settingChanged]
    split
    · exact s.onLines_moves _
    · exact .refl s
  | maximumWidthCode =>
    simp only [State.settingChanged]
    split
    · exact s.pulseStuck_moves
    · exact .refl s
  | _ => exact .refl s

theorem State.settingChanged_turns (x : Setting) (s : State) : s.Turns (s.settingChanged x) := by
  by_cases threshold : x = .errorThreshold
  · subst threshold
    exact .of_units (by simp [State.settingChanged])
  · exact (State.settingChanged_moves threshold s).turns

theorem State.foldl_turns {α : Type} {f : State → α → State} (l : List α) (s : State) (each : ∀ x a, State.Turns x (f x a)) :
    s.Turns (l.foldl f s) := by
  induction l generalizing s with
  | nil => exact .refl s
  | cons a rest ih => exact (each s a).trans (ih _)

theorem State.notifyChanges_turns (before : Store) (s : State) : s.Turns (s.notifyChanges before) :=
  ((State.foldl_turns _ s fun x st => (x.profileChange_moves st).turns).trans
    (State.foldl_turns _ _ fun x u => (x.groupChanged_moves u).turns)).trans (State.foldl_turns _ _ fun x y => x.settingChanged_turns y)

theorem Store.valid.written {store : Store} (h : store.valid) {item : StoreItem} {f : Flight} (flight : store.flight = some f)
    (operation : f.operation = .write item) : (item.placeIn store).complete.valid := by
  refine (h.placeIn (h.2.2 item ?_)).complete
  obtain ⟨_, _, _⟩ := f
  obtain rfl := operation
  simp [Store.itemInFlight, flight]

theorem State.writeCompletes_turns (s : State) : s.Turns s.writeCompletes := by
  unfold State.writeCompletes
  split
  · next flight =>
    exact ((State.onStore_turns fun h => h.written flight rfl).trans (State.bump_moves _ _).turns).trans
      (State.notifyChanges_turns _ _)
  · exact .refl s

theorem State.endHalt_moves (s : State) : s.Moves s.endHalt := by
  unfold State.endHalt
  split
  · exact (s.onModes_moves _).trans (State.setMode_moves _ _)
  · exact .refl s

theorem State.eraseCompletes_turns (s : State) : s.Turns s.eraseCompletes := by
  unfold State.eraseCompletes
  split
  · have erased : s.Turns (s.onStore fun d => d.erase.complete) := State.onStore_turns fun _ => Store.erase_complete_valid _
    exact ((erased.trans (State.bump_moves _ _).turns).trans (State.notifyChanges_turns _ _)).trans (State.endHalt_moves _).turns
  · exact .refl s

/-! ### Every step -/

theorem exec_turns {i : Instr} {s t : State} (h : exec i s = .next t) : s.Turns t := by
  by_cases plain : Instr.special i = false
  · exact (exec_moves plain h).turns
  unfold exec at h
  cases i with
  | started u data =>
    refine State.receive_turns h ?_
    unfold State.unitFrame
    split
    · exact ((s.place_moves _).trans (State.bump_moves _ _)).turns
    · split
      · exact (s.sendDefer_moves _ _).turns
      · next present => exact State.takeStarted_turns _ present
  | unitBeacon u data =>
    refine State.receive_turns h ?_
    split
    · exact ((s.place_moves _).trans (State.bump_moves _ _)).turns
    · exact s.takeBeacon_turns u _
  | clearUnit data =>
    refine State.receive_turns h ?_
    clear h
    unfold State.gatewayFrame
    split
    · exact ((s.answer_moves _ _ _).trans (State.bump_moves _ _)).turns
    · simp only [State.unlessHalted]
      split
      · exact (s.answer_moves _ _ _).turns
      · exact s.takeClear_turns _
  | confirmTimeout st => exact State.take_turns h (s.confirmExpires_turns st)
  | stopTimeout st => exact State.take_turns h (s.stopExpires_turns st)
  | windowGuardExpiry u => exact State.take_turns h (s.guardExpires_turns u)
  | missedWindow u => exact State.take_turns h (s.windowMissed_turns u)
  | joinTimerExpiry => exact State.take_turns h s.joinExpires_turns
  | settleTimerExpiry => exact State.take_turns h s.settleExpires_turns
  | powerFailQualificationExpiry => exact State.take_turns h s.powerFailQualifies_turns
  | writeCompletion => exact State.take_turns h s.writeCompletes_turns
  | eraseCompletion => exact State.take_turns h s.eraseCompletes_turns
  | powerOnReset =>
    obtain rfl := Host.Outcome.next.inj h
    exact .single (.reset _ _ _ _ _ (fun valid => valid.loseFlight _) rfl)
  | resetLine inside =>
    obtain rfl := Host.Outcome.next.inj h
    split
    · exact .single (.reset _ _ _ _ _ (fun valid => valid.loseFlight _) rfl)
    · exact .refl s
  | supplyLoss inside =>
    obtain rfl := Host.Outcome.next.inj h
    split
    · exact .single (.side rfl rfl rfl (fun valid => valid.loseFlight _) id)
    · exact .refl s
  | _ => exact absurd rfl plain

/-- What every command keeps, and each millisecond's counting, and what neither the commands that wait nor the free values drawn
matter to, every step keeps. -/
theorem step_keeps {P : State → Prop} (free : ∀ (s : State) (pending : List Instr) (drawn : Nat), P s →
      P { s with pending := pending, drawn := drawn })
    (advance : ∀ s : State, P s → P s.advance) (command : ∀ i s t, exec i s = .next t → P s → P t) {s t : State}
    (h : step s = .next t) (holds : P s) : P t := by
  have takes : ∀ (fuel : Nat) (waiting : List Instr) (x y : State),
      takeDue Config.dueChoice fuel waiting x = .next y → P x → P y := by
    intro fuel
    induction fuel with
    | zero =>
      intro waiting x y h hx
      obtain rfl := Host.Outcome.next.inj h
      exact hx
    | succ fuel ih =>
      intro waiting x y h hx
      by_cases due : waiting.filter (x.dueAhead 0).contains = []
      · rw [takeDue_none _ _ _ _ due] at h
        obtain rfl := Host.Outcome.next.inj h
        exact hx
      · obtain ⟨c, rest, draws, -, -, taken⟩ := takeDue_some Config.dueChoice fuel waiting x due
        have drawn : P { x with drawn := x.drawn + draws.toNat } := free x x.pending _ hx
        rcases taken with ⟨x', ran, next⟩ | ⟨stops, stopped⟩
        · exact ih rest x' y (next ▸ h) (command c _ _ ran drawn)
        · exact absurd (stopped ▸ h) (stops y)
  unfold step at h
  split at h
  · unfold tick at h
    split at h
    · exact takes _ _ _ _ h (advance s holds)
    · obtain rfl := Host.Outcome.next.inj h
      exact holds
  · exact command _ _ _ h (free s _ s.drawn holds)

theorem step_turns {s t : State} (h : step s = .next t) : s.Turns t := by
  refine step_keeps (P := fun x => s.Turns x) (fun x pending drawn hx => hx.trans (.of_units (by simp)))
    (fun x hx => hx.trans (.single (.tick rfl))) (fun i x y ran hx => hx.trans (exec_turns ran)) h (.refl s)

/-- What every turn keeps, every step keeps. -/
theorem step_keeps_of_turn {P : State → Prop} (turn : ∀ x y : State, x.Turn y → P x → P y) {s t : State} (h : step s = .next t)
    (holds : P s) : P t := by
  have turns := step_turns h
  clear h
  induction turns with
  | refl => exact holds
  | tail _ last ih => exact turn _ _ last ih

end Sys2Proof.Machine
end

section
/-! Proofs/TableKept.lean: every step keeps the committed sums and the run order list exact (O9) and the store valid (O11). -/

namespace Sys2Proof.Machine

theorem Stage.afterReset_unlisted (p : Profile) : (Stage.afterReset p).state.listed = false := rfl

theorem Stage.mainsOff_state (p : Profile) (r : Stage) :
    (r.mainsOff p).state = if r.state = .tripped then .tripped else .idle := by
  simp [Stage.mainsOff, Stage.copyPending_eq]

/-- With no stage in a listed state the sums are 0 and the run order list is empty (R10, R11). -/
theorem StageTable.exact_of_unlisted {t : StageTable} (unlisted : ∀ r ∈ t.records.toList, r.state.listed = false)
    (cRun : t.cRun = 0) (cPend : t.cPend = 0) (runOrder : t.runOrder = []) : t.sumsExact ∧ t.runOrderExact := by
  have zero : ∀ f : Stage → Nat, (∀ r : Stage, r.state.listed = false → f r = 0) → (t.records.toList.map f).sum = 0 :=
    fun f none => List.sum_eq_zero fun _ hx => by
      obtain ⟨r, mem, rfl⟩ := List.mem_map.mp hx
      exact none r (unlisted r mem)
  refine ⟨⟨?_, ?_⟩, by simp [runOrder], fun u k => ?_⟩
  · rw [cRun, zero _ fun _ => Stage.runLoad_unlisted]
  · rw [cPend, zero _ fun _ => Stage.pendLoad_unlisted]
  · rw [runOrder, unlisted _ (by simp [StageTable.get])]; simp

theorem StageTable.afterReset_exact (store : Store) :
    (StageTable.afterReset store).sumsExact ∧ (StageTable.afterReset store).runOrderExact := by
  refine StageTable.exact_of_unlisted (fun r mem => ?_) rfl rfl rfl
  simp only [StageTable.afterReset, mapTable, Vector.toList_mk, List.mem_map] at mem
  obtain ⟨p, -, rfl⟩ := mem
  exact Stage.afterReset_unlisted p

theorem State.mainsOffReset_exact (s : State) : s.mainsOffReset.stages.sumsExact ∧ s.mainsOffReset.stages.runOrderExact := by
  refine StageTable.exact_of_unlisted (fun r mem => ?_) rfl rfl rfl
  simp only [State.mainsOffReset, State.onStages_stages, Vector.toList_mk, List.mem_map] at mem
  obtain ⟨p, -, rfl⟩ := mem
  rw [Stage.mainsOff_state]
  split <;> rfl

/-- The counting of the timers changes no load and no state. -/
theorem State.advance_exact {s : State} (h : s.stages.sumsExact ∧ s.stages.runOrderExact) :
    s.advance.stages.sumsExact ∧ s.advance.stages.runOrderExact := by
  obtain ⟨⟨run, pend⟩, nodup, listed⟩ := h
  have records : s.advance.stages.records.toList = s.stages.records.toList.map Stage.tick := by
    simp [State.advance, mapTable]
  refine ⟨⟨?_, ?_⟩, nodup, fun u k => ?_⟩
  · rw [records, List.map_map]; exact run
  · rw [records, List.map_map]; exact pend
  · have := s.advance_stage { unit := u, slot := k }
    rw [State.stage] at this
    rw [this]
    exact listed u k

theorem StageTable.put_exact {t : StageTable} (h : t.sumsExact ∧ t.runOrderExact) (st : StageId) (r : Stage) :
    (t.put st r).sumsExact ∧ (t.put st r).runOrderExact :=
  ⟨StageTable.put_sumsExact h.1 st r, StageTable.put_runOrderExact h.2 st r⟩

theorem State.Turn.exact {s t : State} (turn : s.Turn t) (h : s.stages.sumsExact ∧ s.stages.runOrderExact) :
    t.stages.sumsExact ∧ t.stages.runOrderExact := by
  cases turn with
  | move move =>
    cases move with
    | rest steady stages => rwa [stages]
    | stay st r steady change same stages => rw [stages]; exact StageTable.put_exact h st r
    | leave st r steady change out stages => rw [stages]; exact StageTable.put_exact h st r
    | enter st cls replay steady idle watched room stages => rw [stages]; exact StageTable.put_exact h st _
  | side stages => rwa [stages]
  | mainsOff stages => rw [stages]; exact s.mainsOffReset_exact
  | reset store pins cause drawn pending validStore after => rw [after]; exact StageTable.afterReset_exact _
  | tick after => rw [after]; exact State.advance_exact h

/-- A millisecond leaves in its place what the operation in flight carries. -/
theorem State.advance_validStore {s : State} (h : s.store.valid) : s.advance.store.valid := by
  refine h.congr rfl rfl fun item carried => h.2.2 item ?_
  simp only [State.advance, Store.itemInFlight] at carried ⊢
  cases flight : s.store.flight with
  | none => simp [flight] at carried
  | some f =>
    obtain ⟨operation, elapsed, drawn⟩ := f
    rw [flight] at carried
    cases operation with
    | write item' => exact carried
    | erase => cases carried

theorem State.Turn.validStore {s t : State} (turn : s.Turn t) (h : s.store.valid) : t.store.valid := by
  cases turn with
  | move move => exact move.steady.validStore h
  | side _ _ _ validStore => exact validStore h
  | mainsOff _ _ _ store => rwa [store]
  | reset store pins cause drawn pending validStore after => rw [after]; exact (validStore h).afterReset
  | tick after => rw [after]; exact State.advance_validStore h

theorem State.afterReset_withinCapacity (store : Store) (pins : Pins) (cause : ResetCause) (drawn : Nat) (pending : List Instr) :
    (State.afterReset store pins cause drawn pending).withinCapacity := by
  unfold State.withinCapacity
  simp [State.afterReset, Link.afterReset, Shed.afterReset, Arbiter.afterReset, failureLimit]

theorem State.advance_withinCapacity {s : State} (h : s.withinCapacity) : s.advance.withinCapacity := by
  obtain ⟨queue, length, distinct, named, low, high, failures⟩ := h
  have token : s.advance.arbiter.tokenCounter = s.arbiter.tokenCounter := by
    rw [State.advance_arbiter, Arbiter.tick_eq]
  refine ⟨queue, by simpa [Shed.tick] using length, ?_, ?_, token ▸ low, token ▸ high, failures⟩
  · have numbers : s.advance.shed.orders.map ShedOrder.number = s.shed.orders.map ShedOrder.number := by
      simp [Shed.tick]
    rw [numbers]; exact distinct
  · intro o ho
    obtain ⟨o', mem, rfl⟩ := List.mem_map.mp (show o ∈ s.shed.orders.map _ from ho)
    exact named o' mem

theorem State.Turn.withinCapacity {s t : State} (turn : s.Turn t) (h : s.withinCapacity) : t.withinCapacity := by
  cases turn with
  | move move => exact move.steady.capacity h
  | side _ _ _ _ capacity => exact capacity h
  | mainsOff _ _ _ _ capacity => exact capacity h
  | reset store pins cause drawn pending validStore after => rw [after]; exact State.afterReset_withinCapacity ..
  | tick after => rw [after]; exact State.advance_withinCapacity h

end Sys2Proof.Machine

namespace Sys2Proof.Proofs
open Sys2Proof.Machine

/-- Settles O9: a step is a chain of turns (`step_turns`), each of which puts a record, empties the table or leaves the loads and
states alone. -/
theorem sumsAndRunOrderKept : Obligations.SumsAndRunOrderKept := fun _ _ stepped h =>
  step_keeps_of_turn (fun _ _ turn => turn.exact) stepped h

/-- Settles O11: what an operation starts with is clamped into R168's ranges (`State.takeWrite_moves`) and what its completion
places is what it carried (`Store.valid.written`). -/
theorem storeKept : Obligations.StoreKept := fun _ _ stepped h =>
  step_keeps_of_turn (fun _ _ turn => turn.validStore) stepped h

end Sys2Proof.Proofs
end

section
/-! Proofs/QueueKept.lean: every step keeps the call queue exact (O13). -/

namespace Sys2Proof.Machine

/-- The call queue holds one entry for each stage for which `queued` holds: `State.callsExact` of a queue and a table's states. -/
def CallQueue.Exact (q : CallQueue) (queued : StageId → Prop) : Prop :=
  (q.entries.map CallEntry.stage).Nodup ∧ (q.entries.map CallEntry.stamp).Nodup ∧
    (∀ st, st ∈ q.entries.map CallEntry.stage ↔ queued st) ∧ q.entries.Pairwise (fun a b => a.before b = true) ∧
    (∀ e ∈ q.entries, e.stamp < q.arrival) ∧ q.arrival ≤ max32 ∧ q.entries.length ≤ callCapacity

theorem State.callsExact_iff (s : State) : s.callsExact ↔ s.calls.Exact fun st => (s.stage st).state = .queued :=
  ⟨fun ⟨a, b, c, d⟩ => ⟨a, b, fun st => c st.unit st.slot, d⟩, fun ⟨a, b, c, d⟩ => ⟨a, b, fun u k => c ⟨u, k⟩, d⟩⟩

theorem CallQueue.Exact.congr {q q' : CallQueue} {p p' : StageId → Prop} (h : q.Exact p) (entries : q'.entries = q.entries)
    (arrival : q'.arrival = q.arrival) (queued : ∀ st, p' st ↔ p st) : q'.Exact p' := by
  obtain ⟨a, b, c, d⟩ := h
  unfold CallQueue.Exact
  rw [entries, arrival]
  exact ⟨a, b, fun st => (c st).trans (queued st).symm, d⟩

/-- The entries may stand anew with their stages and stamps (R70, R90). -/
theorem CallQueue.Exact.requeued {q q' : CallQueue} {p : StageId → Prop} (h : q.Exact p) (entries : Requeued q.entries q'.entries)
    (arrival : q'.arrival = q.arrival) : q'.Exact p := by
  obtain ⟨stages, stamps, queued, ordered, below, top, room⟩ := h
  have sameStages : (q'.entries.map CallEntry.stage).Perm (q.entries.map CallEntry.stage) := by
    simpa [Function.comp_def] using entries.same.map Prod.fst
  have sameStamps : (q'.entries.map CallEntry.stamp).Perm (q.entries.map CallEntry.stamp) := by
    simpa [Function.comp_def] using entries.same.map Prod.snd
  refine ⟨sameStages.nodup_iff.mpr stages, sameStamps.nodup_iff.mpr stamps, fun st => sameStages.mem_iff.trans (queued st),
    entries.ordered stamps ordered, fun e he => ?_, arrival ▸ top, ?_⟩
  · obtain ⟨e', mem, same⟩ := List.mem_map.mp (sameStamps.mem_iff.mp (List.mem_map_of_mem he))
    rw [← same, arrival]
    exact below e' mem
  · have := sameStages.length_eq
    simp only [List.length_map] at this
    omega

/-- A stage's entry leaves (R73). -/
theorem CallQueue.Exact.leave {q q' : CallQueue} {p p' : StageId → Prop} (h : q.Exact p) {st : StageId}
    (entries : q'.entries = q.entries.filter fun e => e.stage != st) (arrival : q'.arrival = q.arrival) (out : ¬ p' st)
    (others : ∀ st', st' ≠ st → (p' st' ↔ p st')) : q'.Exact p' := by
  obtain ⟨stages, stamps, queued, ordered, below, top, room⟩ := h
  unfold CallQueue.Exact
  rw [entries, arrival]
  have fewer := List.filter_sublist (p := fun e : CallEntry => e.stage != st) (l := q.entries)
  refine ⟨stages.sublist (fewer.map _), stamps.sublist (fewer.map _), fun st' => ?_, ordered.sublist fewer,
    fun e he => below e (List.mem_of_mem_filter he), top, fewer.length_le.trans room⟩
  by_cases same : st' = st
  · subst same
    simp [out]
  · rw [others st' same, ← queued st']
    simp only [List.mem_map, List.mem_filter, bne_iff_ne]
    exact ⟨fun ⟨e, ⟨mem, _⟩, at'⟩ => ⟨e, mem, at'⟩, fun ⟨e, mem, at'⟩ => ⟨e, ⟨mem, at' ▸ same⟩, at'⟩⟩

theorem renumber_stamps (l : List CallEntry) : (renumber l).map CallEntry.stamp = List.range l.length := by
  calc (renumber l).map CallEntry.stamp = l.zipIdx.map Prod.snd := by rw [renumber, List.map_map]; rfl
    _ = List.range l.length := by rw [List.zipIdx_map_snd, List.range_eq_range']

/-- The classes stand as they did and the stamps rise: entries in order stay in order when they are numbered anew (R66). -/
theorem renumber_ordered (l : List CallEntry) (ordered : l.Pairwise fun a b => a.before b = true) :
    (renumber l).Pairwise fun a b => a.before b = true := by
  rw [List.pairwise_iff_getElem] at ordered ⊢
  intro i j hi hj less
  have hi' : i < l.length := by simpa [renumber] using hi
  have hj' : j < l.length := by simpa [renumber] using hj
  have was := ordered i j hi' hj' less
  simp only [CallEntry.before, Bool.or_eq_true, Bool.and_eq_true, decide_eq_true_eq, beq_iff_eq, renumber, List.getElem_map,
    List.getElem_zipIdx] at was ⊢
  omega

/-- An IDLE stage's entry is placed (R65, R66). -/
theorem CallQueue.Exact.enter {s : State} {q' : CallQueue} {p p' : StageId → Prop} (h : s.calls.Exact p) {st : StageId}
    (cls : Nat) (replay : Bool) (entries : q'.entries = (s.enterCall st cls replay).calls.entries)
    (arrival : q'.arrival = (s.enterCall st cls replay).calls.arrival) (room : s.calls.entries.length < callCapacity)
    (was : ¬ p st) (now : p' st) (others : ∀ st', st' ≠ st → (p' st' ↔ p st')) : q'.Exact p' := by
  obtain ⟨stages, stamps, queued, ordered, below, top, -⟩ := h
  obtain ⟨entered, arrived⟩ := s.enterCall_calls st cls replay
  generalize new : ({ stage := st, cls := cls, stamp := s.calls.arrival, waitAge := 0, passedOver := 0, replay := replay } :
    CallEntry) = e at entered
  obtain ⟨stage, stamp⟩ : e.stage = st ∧ e.stamp = s.calls.arrival := by subst new; exact ⟨rfl, rfl⟩
  have perm := insertEntry_perm e s.calls.entries
  have fresh : ∀ x ∈ s.calls.entries, x.stamp ≠ e.stamp := fun x mem same => by
    have := below x mem
    rw [same, stamp] at this
    exact this.false
  have placed := insertEntry_ordered e _ fresh ordered
  have nodup : ((insertEntry e s.calls.entries).map CallEntry.stage).Nodup := by
    rw [(perm.map _).nodup_iff, List.map_cons, List.nodup_cons, stage, queued]
    exact ⟨was, stages⟩
  have distinct : ((insertEntry e s.calls.entries).map CallEntry.stamp).Nodup := by
    rw [(perm.map _).nodup_iff, List.map_cons, List.nodup_cons]
    exact ⟨fun mem => by
      obtain ⟨x, inQueue, same⟩ := List.mem_map.mp mem
      exact fresh x inQueue same, stamps⟩
  have named : ∀ st', st' ∈ (insertEntry e s.calls.entries).map CallEntry.stage ↔ p' st' := fun st' => by
    rw [(perm.map _).mem_iff, List.map_cons, List.mem_cons, stage, queued]
    by_cases same : st' = st
    · simp [same, now]
    · simp [same, others st' same]
  have length : (insertEntry e s.calls.entries).length = s.calls.entries.length + 1 := perm.length_eq
  have small : callCapacity < max32 := by decide
  unfold CallQueue.Exact
  rw [entries, arrival, entered, arrived]
  split
  · rw [map_stage_renumber, renumber_stamps]
    refine ⟨nodup, List.nodup_range, named, renumber_ordered _ placed, fun x hx => ?_, by omega, by
      simp only [renumber, List.length_map, List.length_zipIdx]; omega⟩
    have : x.stamp ∈ (renumber (insertEntry e s.calls.entries)).map CallEntry.stamp := List.mem_map_of_mem hx
    rw [renumber_stamps, List.mem_range] at this
    omega
  · refine ⟨nodup, distinct, named, placed, fun x hx => ?_, by omega, by omega⟩
    rcases List.mem_cons.mp (perm.mem_iff.mp hx) with rfl | mem
    · omega
    · exact (below x mem).trans (Nat.lt_succ_self _)

theorem State.stage_of_put {s t : State} {st : StageId} {r : Stage} (stages : t.stages = s.stages.put st r) :
    t.stage st = r ∧ ∀ st', st' ≠ st → t.stage st' = s.stage st' := by
  simp only [State.stage, stages]
  exact ⟨StageTable.get_put_self _ _ _, fun st' other => StageTable.get_put_other _ _ other⟩

theorem State.Move.callsExact {s t : State} (move : s.Move t) (h : s.callsExact) : t.callsExact := by
  rw [State.callsExact_iff] at h ⊢
  cases move with
  | rest steady stages entries arrival =>
    exact (h.requeued entries arrival).congr rfl rfl fun st => by rw [State.stage, stages, State.stage]
  | stay st r steady change same stages calls =>
    obtain ⟨self, others⟩ := State.stage_of_put stages
    refine h.congr (by rw [calls]) (by rw [calls]) fun st' => ?_
    by_cases at' : st' = st
    · rw [at', self]; exact same
    · rw [others st' at']
  | leave st r steady change out stages entries arrival =>
    obtain ⟨self, others⟩ := State.stage_of_put stages
    exact h.leave entries arrival (self ▸ out) fun st' other => by rw [others st' other]
  | enter st cls replay steady idle watched room stages entries arrival =>
    obtain ⟨self, others⟩ := State.stage_of_put stages
    exact h.enter cls replay entries arrival room (by rw [idle]; simp) (by rw [self]) fun st' other => by rw [others st' other]

theorem State.callsExact_of_empty {s : State} (entries : s.calls.entries = []) (arrival : s.calls.arrival ≤ max32)
    (none : ∀ st, (s.stage st).state ≠ .queued) : s.callsExact := by
  rw [State.callsExact_iff, CallQueue.Exact, entries]
  exact ⟨by simp, by simp, fun st => by simp [none st], by simp, by simp, arrival, by simp⟩

/-- A stage of a mapped table is some record mapped. -/
theorem StageTable.get_mem (t : StageTable) (st : StageId) : t.get st ∈ t.records.toList := by simp [StageTable.get]

theorem State.mainsOffReset_stage (s : State) (st : StageId) :
    s.mainsOffReset.stage st = (s.stage st).mainsOff (s.store.profile st) := by
  simp [State.mainsOffReset, State.stage, StageTable.get, Store.profile]

theorem State.afterReset_stage (store : Store) (pins : Pins) (cause : ResetCause) (drawn : Nat) (pending : List Instr)
    (st : StageId) : (State.afterReset store pins cause drawn pending).stage st = Stage.afterReset (store.profile st) := by
  simp [State.afterReset, State.stage, StageTable.afterReset, StageTable.get, mapTable, Store.profile, Store.afterReset]

theorem State.Turn.callsExact {s t : State} (turn : s.Turn t) (h : s.callsExact) : t.callsExact := by
  cases turn with
  | move move => exact move.callsExact h
  | side stages entries arrival =>
    rw [State.callsExact_iff] at h ⊢
    exact h.congr entries arrival fun st => by rw [State.stage, stages, State.stage]
  | mainsOff stages entries arrival =>
    refine State.callsExact_of_empty entries (arrival ▸ h.2.2.2.2.2.1) fun st => ?_
    rw [State.stage, stages]
    refine ne_of_eq_of_ne (congrArg Stage.state (s.mainsOffReset_stage st)) ?_
    rw [Stage.mainsOff_state]
    split <;> simp
  | reset store pins cause drawn pending validStore after =>
    rw [after]
    refine State.callsExact_of_empty rfl (Nat.zero_le _) fun st => ?_
    rw [State.afterReset_stage]
    exact nofun
  | tick after =>
    rw [after]
    rw [State.callsExact_iff] at h ⊢
    exact h.congr rfl rfl fun st => by rw [State.advance_stage]; rfl

end Sys2Proof.Machine

namespace Sys2Proof.Proofs
open Sys2Proof.Machine

/-- Settles O13: a record and its entry change together (`State.Move`), so that a stage is in the queue exactly while QUEUED. -/
theorem callQueueKept : Obligations.CallQueueKept := fun _ _ stepped h =>
  step_keeps_of_turn (fun _ _ turn => turn.callsExact) stepped h

end Sys2Proof.Proofs
end

section
/-! Proofs/StagesKept.lean: every step keeps each stage record in agreement with its state (O14). -/

namespace Sys2Proof.Machine

/-- A record agrees with its state and holds a profile R168 allows (R2, R5 to R9). -/
def Stage.sound (k : Slot) (r : Stage) : Prop := r.valid ∧ r.working.valid k

theorem StageTable.valid_iff (t : StageTable) : t.valid ↔ ∀ st : StageId, (t.get st).sound st.slot :=
  ⟨fun h st => h st.unit st.slot, fun h u k => h ⟨u, k⟩⟩

/-- A time of the store that R168 keeps above 0 is a time above 0. -/
theorem Store.valid.settingTime {s : State} (h : s.store.valid) {x : Setting} (positive : 0 < x.range.1) : s.settingTime x ≠ 0 := by
  have low : x.range.1 ≤ s.setting x := (h.setting x).1
  show 1000 * s.setting x ≠ 0
  omega

/-- A pending profile copied leaves its flag clear (R3). -/
theorem Stage.sound_copyPending {k : Slot} {stored : Profile} {r : Stage} (allowed : stored.valid k) (working : r.working.valid k)
    (valid : ({ r with pendingProfile := false } : Stage).valid) : (r.copyPending stored).sound k := by
  rw [Stage.copyPending_eq]
  refine ⟨valid, ?_⟩
  simp only
  split
  · exact allowed
  · exact working

/-- What a change does to a record agrees with the new state: the store is valid, the token counter in 1..255 (R88), and a stage in
the queue QUEUED (R12). -/
theorem State.Change.sound {s : State} {st : StageId} {r : Stage} (change : s.Change st r) (store : s.store.valid)
    (token : 1 ≤ s.arbiter.tokenCounter ∧ s.arbiter.tokenCounter ≤ 255)
    (queue : ∀ e ∈ s.calls.entries, (s.stage e.stage).state = .queued) (h : (s.stage st).sound st.slot) : r.sound st.slot := by
  have stored := store.profile st
  have confirm := store.settingTime (x := .confirmTimeout) (by decide)
  have isQueued : (∃ e ∈ s.calls.entries, e.stage = st) → (s.stage st).state = .queued := fun ⟨e, mem, same⟩ =>
    same ▸ queue e mem
  obtain ⟨valid, working⟩ := h
  obtain ⟨rest, run, handshake, held, bare, window, replayed, flag, pending⟩ := valid
  cases change with
  | withdraw granted =>
    have some : (s.stage st).token ≠ none := fun none => by simp [none] at held; exact held granted
    refine Stage.sound_copyPending stored working ?_
    grind [StageState.listed]
  | grant isHeld =>
    refine ⟨?_, working⟩
    grind [StageState.listed]
  | stop settled =>
    simp only [Stage.settled, Bool.and_eq_true, beq_iff_eq] at settled
    refine ⟨?_, working⟩
    grind [StageState.listed]
  | confirm granted | adopt waits | resume was | hold listed | leave queued =>
    refine ⟨?_, working⟩
    grind [StageState.listed]
  | release runs | trip next rests | clear tripped =>
    refine Stage.sound_copyPending stored working ?_
    grind [StageState.listed]
  | lose queued | profile unlisted =>
    refine ⟨?_, stored⟩
    grind [StageState.listed]
  | restEnds | runEnds | windowEnds | reload stopping | keepProfile listed =>
    refine ⟨?_, working⟩
    grind [StageState.listed]

/-- A QUEUED stage's record agrees with its state as an IDLE one's does (R12). -/
theorem Stage.sound.queued {k : Slot} {r : Stage} (idle : r.state = .idle) (h : r.sound k) :
    ({ r with state := .queued } : Stage).sound k := by
  obtain ⟨⟨rest, run, handshake, held, bare, window, replayed, flag, pending⟩, working⟩ := h
  refine ⟨?_, working⟩
  grind [StageState.listed]

theorem Stage.sound_mainsOff {k : Slot} {stored : Profile} {r : Stage} (allowed : stored.valid k) (h : r.sound k) :
    (r.mainsOff stored).sound k := by
  refine Stage.sound_copyPending allowed h.2 ?_
  simp only
  refine ⟨?_, fun _ => rfl, fun _ => rfl, ?_, fun _ => rfl, by simp, nofun, nofun, nofun⟩ <;> split <;> simp

theorem Stage.sound_afterReset {k : Slot} {p : Profile} (allowed : p.valid k) : (Stage.afterReset p).sound k :=
  ⟨⟨by simp [Stage.afterReset], fun _ => rfl, fun _ => rfl, nofun, fun _ => rfl, by simp [Stage.afterReset], nofun, nofun, nofun⟩,
    allowed⟩

theorem countDown_eq_zero {t : Millis} : countDown t = 0 ↔ t = 0 := by
  have nat : ∀ n : Nat, (if n ≤ 1 then n else n - 1) = 0 ↔ n = 0 := fun n => by split <;> omega
  exact nat t

/-- A timer that stands at zero stays there (R5 to R9). -/
theorem Stage.sound.tick {k : Slot} {r : Stage} (h : r.sound k) : r.tick.sound k := by
  obtain ⟨⟨rest, run, handshake, held, bare, window, replayed, flag, pending⟩, working⟩ := h
  exact ⟨⟨fun s => countDown_eq_zero.mpr (rest s), fun s => countDown_eq_zero.mpr (run s),
    fun s => countDown_eq_zero.mpr (handshake s), held, bare, window.trans countDown_eq_zero.symm, replayed, flag, pending⟩, working⟩

theorem State.Move.sound {s t : State} (move : s.Move t) (store : s.store.valid) (capacity : s.withinCapacity)
    (calls : s.callsExact) (h : ∀ st, (s.stage st).sound st.slot) (st : StageId) : (t.stage st).sound st.slot := by
  obtain ⟨-, -, -, -, low, high, -⟩ := capacity
  have queued : ∀ e ∈ s.calls.entries, (s.stage e.stage).state = .queued := fun e mem =>
    (calls.2.2.1 e.stage.unit e.stage.slot).mp (List.mem_map_of_mem mem)
  have changed : ∀ (x : StageId) (r : Stage), s.Change x r → t.stages = s.stages.put x r → (t.stage st).sound st.slot :=
    fun x r change stages => by
      obtain ⟨self, others⟩ := State.stage_of_put stages
      by_cases same : st = x
      · rw [same, self]; exact change.sound store ⟨low, high⟩ queued (h x)
      · rw [others st same]; exact h st
  cases move with
  | rest steady stages => rw [State.stage, stages]; exact h st
  | stay x r steady change same stages => exact changed x r change stages
  | leave x r steady change out stages => exact changed x r change stages
  | enter x cls replay steady idle watched room stages =>
    obtain ⟨self, others⟩ := State.stage_of_put stages
    by_cases same : st = x
    · rw [same, self]; exact (h x).queued idle
    · rw [others st same]; exact h st

theorem State.Turn.sound {s t : State} (turn : s.Turn t) (store : s.store.valid) (capacity : s.withinCapacity)
    (calls : s.callsExact) (h : ∀ st, (s.stage st).sound st.slot) (st : StageId) : (t.stage st).sound st.slot := by
  cases turn with
  | move move => exact move.sound store capacity calls h st
  | side stages => rw [State.stage, stages]; exact h st
  | mainsOff stages =>
    have reset : t.stage st = s.mainsOffReset.stage st := by rw [State.stage, stages, State.stage]
    rw [reset, State.mainsOffReset_stage]
    exact Stage.sound_mainsOff (store.profile st) (h st)
  | reset store' pins cause drawn pending validStore after =>
    rw [after, State.afterReset_stage]
    exact Stage.sound_afterReset ((validStore store).profile st)
  | tick after => rw [after, State.advance_stage]; exact (h st).tick

end Sys2Proof.Machine

namespace Sys2Proof.Proofs
open Sys2Proof.Machine

/-- Settles O14: each change of a record agrees with its new state (`State.Change.sound`). -/
theorem stagesKept : Obligations.StagesKept := fun _ _ stepped holds => by
  refine step_keeps_of_turn (P := fun x => x.store.valid ∧ x.withinCapacity ∧ x.callsExact ∧ x.stages.valid) ?_ stepped holds
  rintro x y turn ⟨store, capacity, calls, stages⟩
  exact ⟨turn.validStore store, turn.withinCapacity capacity, turn.callsExact calls,
    y.stages.valid_iff.mpr (turn.sound store capacity calls (x.stages.valid_iff.mp stages))⟩

end Sys2Proof.Proofs
end

section
/-! Proofs/UnitsKept.lean: every step keeps the unit records valid, and stages HELD only in ABSENT units (O15). -/

namespace Sys2Proof.Machine

/-- A stage is HELD only in an ABSENT unit, and there every stage is IDLE, HELD or TRIPPED (R23, R24). -/
def State.fits (s : State) (st : StageId) : Prop :=
  ((s.stage st).state = .held → (s.unit st.unit).presence = .absent) ∧
    ((s.unit st.unit).presence = .absent →
      (s.stage st).state = .idle ∨ (s.stage st).state = .held ∨ (s.stage st).state = .tripped)

/-- A stage is not HELD, and in an ABSENT unit IDLE or TRIPPED: its unit may come to be watched. -/
def State.released (s : State) (st : StageId) : Prop :=
  (s.stage st).state ≠ .held ∧
    ((s.unit st.unit).presence = .absent → (s.stage st).state = .idle ∨ (s.stage st).state = .tripped)

/-- Every unit record agrees with its presence, for an error threshold of n (R127). -/
def State.recordsFit (n : Nat) (s : State) : Prop := ∀ u, (s.unit u).valid n

theorem State.fits_congr {s t : State} {st : StageId} (h : s.fits st) (state : (t.stage st).state = (s.stage st).state)
    (presence : (t.unit st.unit).presence = (s.unit st.unit).presence) : t.fits st := by
  unfold State.fits
  rw [state, presence]
  exact h

/-! ### Changes of stage records -/

theorem State.Change.fits {s : State} {st : StageId} {r : Stage} (change : s.Change st r) (h : s.fits st) :
    (r.state = .held → (s.unit st.unit).presence = .absent) ∧
      ((s.unit st.unit).presence = .absent → r.state = .idle ∨ r.state = .held ∨ r.state = .tripped) := by
  obtain ⟨held, absent⟩ := h
  cases change with
  | withdraw granted | release runs | clear tripped => simp [Stage.copyPending_eq]
  | trip next rests => rcases rests with rfl | rfl <;> simp [Stage.copyPending_eq]
  | grant isHeld present => simp [present]
  | stop settled =>
    have running : (s.stage st).state = .running := by
      simp only [Stage.settled, Bool.and_eq_true, beq_iff_eq] at settled; exact settled.1
    exact ⟨nofun, fun gone => by simpa [running] using absent gone⟩
  | confirm granted => exact ⟨nofun, fun gone => by simpa [granted] using absent gone⟩
  | adopt waits watched => exact ⟨nofun, fun gone => absurd gone watched⟩
  | resume was watched => exact ⟨nofun, fun gone => absurd gone watched⟩
  | hold listed gone => exact ⟨fun _ => gone, fun _ => .inr (.inl rfl)⟩
  | leave queued => exact ⟨nofun, fun _ => .inl rfl⟩
  | lose queued => exact ⟨nofun, fun _ => .inl rfl⟩
  | restEnds | runEnds | windowEnds | reload | profile | keepProfile => exact ⟨held, absent⟩

theorem State.Change.released {s : State} {st : StageId} {r : Stage} (change : s.Change st r) (h : s.released st) :
    r.state ≠ .held ∧ ((s.unit st.unit).presence = .absent → r.state = .idle ∨ r.state = .tripped) := by
  obtain ⟨free, rests⟩ := h
  cases change with
  | withdraw granted | release runs | clear tripped => simp [Stage.copyPending_eq]
  | trip next rests => rcases rests with rfl | rfl <;> simp [Stage.copyPending_eq]
  | grant isHeld present => simp [present]
  | stop settled =>
    have running : (s.stage st).state = .running := by
      simp only [Stage.settled, Bool.and_eq_true, beq_iff_eq] at settled; exact settled.1
    exact ⟨nofun, fun gone => by simpa [running] using rests gone⟩
  | confirm granted => exact ⟨nofun, fun gone => by simpa [granted] using rests gone⟩
  | adopt waits watched => exact ⟨nofun, fun gone => absurd gone watched⟩
  | resume was watched => exact ⟨nofun, fun gone => absurd gone watched⟩
  | hold listed gone =>
    rcases rests gone with idle | tripped
    · simp [idle] at listed
    · simp [tripped] at listed
  | leave queued => exact ⟨nofun, fun _ => .inl rfl⟩
  | lose queued => exact ⟨nofun, fun _ => .inl rfl⟩
  | restEnds | runEnds | windowEnds | reload | profile | keepProfile => exact ⟨free, rests⟩

/-- What a stage's change keeps, and the QUEUED state of a watched unit has, a move keeps of every stage. -/
theorem State.Move.keeps {K : StageState → Presence → Prop} {s t : State} (move : s.Move t) (st : StageId)
    (changed : ∀ r, s.Change st r → K r.state (s.unit st.unit).presence)
    (queued : (s.unit st.unit).presence ≠ .absent → K .queued (s.unit st.unit).presence)
    (h : K (s.stage st).state (s.unit st.unit).presence) : K (t.stage st).state (t.unit st.unit).presence := by
  rw [move.steady.presence]
  have put : ∀ (x : StageId) (r : Stage), t.stages = s.stages.put x r → (x = st → K r.state (s.unit st.unit).presence) →
      K (t.stage st).state (s.unit st.unit).presence := fun x r stages self => by
    obtain ⟨at', others⟩ := State.stage_of_put stages
    by_cases same : st = x
    · rw [same, at', ← same]; exact self same.symm
    · rw [others st same]; exact h
  cases move with
  | rest steady stages => rw [State.stage, stages]; exact h
  | stay x r steady change same stages => exact put x r stages (by rintro rfl; exact changed r change)
  | leave x r steady change out stages => exact put x r stages (by rintro rfl; exact changed r change)
  | enter x cls replay steady idle watched room stages => exact put x _ stages (by rintro rfl; exact queued watched)

theorem State.Move.fits {s t : State} (move : s.Move t) {st : StageId} (h : s.fits st) : t.fits st :=
  move.keeps (K := fun state presence => (state = .held → presence = .absent) ∧
    (presence = .absent → state = .idle ∨ state = .held ∨ state = .tripped)) st (fun _ change => change.fits h)
    (fun watched => ⟨nofun, fun gone => absurd gone watched⟩) h

theorem State.Move.released {s t : State} (move : s.Move t) {st : StageId} (h : s.released st) : t.released st :=
  move.keeps (K := fun state presence => state ≠ .held ∧ (presence = .absent → state = .idle ∨ state = .tripped)) st
    (fun _ change => change.released h) (fun watched => ⟨nofun, fun gone => absurd gone watched⟩) h

theorem State.Moves.fits {s t : State} (moves : s.Moves t) {st : StageId} (h : s.fits st) : t.fits st := by
  induction moves with
  | refl => exact h
  | tail _ last ih => exact last.fits ih

theorem State.Moves.released {s t : State} (moves : s.Moves t) {st : StageId} (h : s.released st) : t.released st := by
  induction moves with
  | refl => exact h
  | tail _ last ih => exact last.released ih

theorem State.Moves.recordsFit {n : Nat} {s t : State} (moves : s.Moves t) (h : s.recordsFit n) : t.recordsFit n := fun u => by
  have steady := moves.steady
  unfold UnitRec.valid
  rw [steady.presence, steady.phase, steady.window, steady.errors]
  exact h u

theorem State.released.fits {s : State} {st : StageId} (h : s.released st) : s.fits st :=
  ⟨fun held => absurd held h.1, fun gone => (h.2 gone).imp_right .inr⟩

/-- In a unit that is not ABSENT no stage is HELD. -/
theorem State.fits.released {s : State} {st : StageId} (h : s.fits st) (watched : (s.unit st.unit).presence ≠ .absent) :
    s.released st := ⟨fun held => watched (h.1 held), fun gone => absurd gone watched⟩

/-- Each stage of a list comes to have what its own step gives it and later steps keep. -/
theorem State.foldl_reaches {Q : State → StageId → Prop} {f : State → StageId → State} (l : List StageId) (s : State)
    (moves : ∀ x st, st ∈ l → s.Moves x → x.Moves (f x st)) (gives : ∀ x st, st ∈ l → s.Moves x → Q (f x st) st)
    (kept : ∀ x y st, x.Moves y → Q x st → Q y st) : ∀ st ∈ l, Q (l.foldl f s) st := by
  induction l using List.reverseRecOn with
  | nil => simp
  | append_singleton l a ih =>
    have before : s.Moves (l.foldl f s) := State.foldl_moves l s fun x st mem => moves x st (by simp [mem])
    intro st mem
    rw [List.foldl_concat]
    rcases List.mem_append.mp mem with earlier | last
    · exact kept _ _ st (moves _ a (by simp) before)
        (ih (fun x st mem => moves x st (by simp [mem])) (fun x st mem => gives x st (by simp [mem])) st earlier)
    · rw [List.mem_singleton.mp last]
      exact gives _ a (by simp) before

/-! ### Units -/

/-- The unit records agree with the threshold, and the stages with their units (R23, R24, R127). -/
structure State.UnitsFit (n : Nat) (s : State) : Prop where
  threshold : s.setting .errorThreshold = n
  records : s.recordsFit n
  stages : ∀ st, s.fits st

theorem State.unitsValid_iff (s : State) : s.unitsValid ↔ ∃ n, s.UnitsFit n :=
  ⟨fun h => ⟨_, rfl, fun u => (h u).1, fun st => (h st.unit).2 st.slot⟩, fun ⟨_, threshold, records, stages⟩ u =>
    ⟨threshold ▸ records u, fun k => stages ⟨u, k⟩⟩⟩

theorem State.Moves.unitsFit {n : Nat} {s t : State} (moves : s.Moves t) (h : s.UnitsFit n) : t.UnitsFit n :=
  ⟨(moves.steady.setting _).trans h.threshold, moves.recordsFit h.records, fun st => moves.fits (h.stages st)⟩

theorem State.recordsFit_onUnit {n : Nat} {s : State} (h : s.recordsFit n) {u : UnitId} {f : UnitRec → UnitRec}
    (fit : (f (s.unit u)).valid n) : (s.onUnit u f).recordsFit n := fun v => by
  rw [State.unit_onUnit]
  split
  · exact fit
  · exact h v

/-- A unit's record changes, and its presence does not. -/
theorem State.UnitsFit.onUnit {n : Nat} {s : State} (h : s.UnitsFit n) {u : UnitId} {f : UnitRec → UnitRec}
    (fit : (f (s.unit u)).valid n) (presence : (f (s.unit u)).presence = (s.unit u).presence) : (s.onUnit u f).UnitsFit n := by
  refine ⟨h.threshold, State.recordsFit_onUnit h.records fit, fun st => State.fits_congr (h.stages st) rfl ?_⟩
  rw [State.unit_onUnit]
  split
  · next same => rw [same, presence]
  · rfl

/-- All agree but the stages of one unit, and changes bring those to agree. -/
theorem State.UnitsFit.of_unit {n : Nat} {s t : State} {u : UnitId} (threshold : s.setting .errorThreshold = n)
    (records : s.recordsFit n) (others : ∀ st, st.unit ≠ u → s.fits st) (moves : s.Moves t)
    (stages : ∀ st ∈ stagesOf u, t.fits st) : t.UnitsFit n := by
  refine ⟨(moves.steady.setting _).trans threshold, moves.recordsFit records, fun st => ?_⟩
  by_cases same : st.unit = u
  · exact stages st (mem_stagesOf.mpr same)
  · exact moves.fits (others st same)

/-- A removed entry leaves the stage where it was, or FED in a unit that is PRESENT. -/
theorem State.dropCall_fits {x : State} {st : StageId} (h : x.fits st) : (x.dropCall st).fits st := by
  have removed : (x.removeCall st).fits st := State.fits_congr h (by simp [State.stage]) (by simp [State.unit])
  rcases x.dropCall_cases st with ⟨-, eq⟩ | ⟨e, -, -, eq⟩ | ⟨e, -, -, -, eq⟩ <;> rw [eq]
  · exact h
  · exact removed
  · exact ((State.markRemoved_moves _ _ _).trans (State.feed_moves _)).fits removed

theorem State.holdStage_fits {s : State} {st : StageId} (absent : (s.unit st.unit).presence = .absent) :
    (s.holdStage st).fits st := by
  have held : ∀ f : Stage → Stage, (f (s.stage st)).state = .held → ((s.onStage st f).give (.pass .stageChange)).fits st :=
    fun f state => ⟨fun _ => absent, fun _ => .inr (.inl (by simpa using state))⟩
  unfold State.holdStage
  split
  · exact held _ rfl
  · exact held _ rfl
  · exact held _ rfl
  · exact State.dropCall_fits ⟨by simp, by simp⟩
  · next idle => exact ⟨fun _ => absent, fun _ => .inl idle⟩
  · next was => exact ⟨fun _ => absent, fun _ => .inr (.inl was)⟩
  · next was => exact ⟨fun _ => absent, fun _ => .inr (.inr was)⟩

/-- The record of a unit that has become ABSENT (R128), and of one with one more error (R127). -/
def UnitRec.gone (r : UnitRec) : UnitRec := { r with presence := .absent, phase := .none, window := 0 }
def UnitRec.failed (r : UnitRec) : UnitRec := { r with errors := r.errors + 1 }

theorem State.declareAbsent_eq (u : UnitId) (s : State) : s.declareAbsent u =
    (stagesOf u).foldl (fun s st => s.holdStage st) ((s.onUnit u UnitRec.gone).bump .absences) := rfl

theorem State.unitError_eq (u : UnitId) (s : State) : s.unitError u =
    if (s.unit u).presence = .present then
      if (s.unit u).errors + 1 = s.setting .errorThreshold then
        ((s.onUnit u UnitRec.failed).bump .unitErrors).declareAbsent u
      else (s.onUnit u UnitRec.failed).bump .unitErrors
    else s := by
  have errors : (((s.onUnit u UnitRec.failed).bump .unitErrors).unit u).errors = (s.unit u).errors + 1 := by
    simp [UnitRec.failed]
  rw [← errors]
  rfl

theorem State.unit_bump_onUnit (s : State) (u : UnitId) (f : UnitRec → UnitRec) (c : Counter) (v : UnitId) :
    ((s.onUnit u f).bump c).unit v = if v = u then f (s.unit u) else s.unit v := s.unit_onUnit u f v

/-- A unit declared ABSENT holds or releases each stage of it (R23, R128). -/
theorem State.declareAbsent_unitsFit {n : Nat} {s : State} {u : UnitId} (threshold : s.setting .errorThreshold = n)
    (records : ∀ v, v ≠ u → (s.unit v).valid n) (errors : (s.unit u).errors = n) (others : ∀ st, st.unit ≠ u → s.fits st) :
    (s.declareAbsent u).UnitsFit n := by
  have unit := s.unit_bump_onUnit u UnitRec.gone .absences
  have fit : ∀ st, st.unit ≠ u → ((s.onUnit u UnitRec.gone).bump .absences).fits st := fun st other =>
    State.fits_congr (others st other) rfl (by rw [unit, if_neg other])
  have setting : ((s.onUnit u UnitRec.gone).bump .absences).setting .errorThreshold = n := threshold
  rw [State.declareAbsent_eq]
  generalize ((s.onUnit u UnitRec.gone).bump .absences) = x at unit fit setting
  have absent : (x.unit u).presence = .absent := by rw [unit, if_pos rfl]; rfl
  have still : ∀ (y : State) (st : StageId), st ∈ stagesOf u → x.Moves y → (y.unit st.unit).presence = .absent :=
    fun y st member before => by rw [before.steady.presence, mem_stagesOf.mp member]; exact absent
  refine State.UnitsFit.of_unit (u := u) setting (fun v => ?_) fit (State.holdStages_moves absent)
    (State.foldl_reaches (stagesOf u) x (fun y st member before => State.holdStage_moves (still y st member before))
      (fun y st member before => State.holdStage_fits (still y st member before)) fun y z st moves h => moves.fits h)
  rw [unit]
  split
  · exact ⟨nofun, fun _ => ⟨rfl, rfl⟩, fun _ => errors⟩
  · next other => exact records v other

theorem State.unitError_unitsFit {n : Nat} {s : State} (h : s.UnitsFit n) (u : UnitId) : (s.unitError u).UnitsFit n := by
  rw [State.unitError_eq, h.threshold]
  split
  · next present =>
    obtain ⟨watched, -, -⟩ := h.records u
    obtain ⟨phase, below⟩ := watched present
    split
    · next full =>
      have unit := s.unit_bump_onUnit u UnitRec.failed .unitErrors
      refine State.declareAbsent_unitsFit h.threshold (fun v other => ?_) ?_ fun st other => ?_
      · rw [unit, if_neg other]; exact h.records v
      · rw [unit, if_pos rfl]; exact full
      · exact State.fits_congr (h.stages st) rfl (by rw [unit, if_neg other])
    · next few =>
      refine (State.bump_moves _ _).unitsFit (h.onUnit ⟨fun _ => ⟨phase, Nat.lt_of_le_of_ne below few⟩,
        fun gone => absurd present gone, fun gone => absurd (present.symm.trans gone) (by simp)⟩ rfl)
  · exact h

/-! ### Beacons and clears -/

theorem State.releaseStage_idle (st : StageId) (s : State) : ((s.releaseStage st).stage st).state = .idle := by
  simp only [State.releaseStage, State.restLoaded]
  split <;> simp [Stage.copyPending_eq]

theorem State.reconcileSlot_released {s : State} {st : StageId} (bitmap : Byte)
    (present : (s.unit st.unit).presence = .present) : (s.reconcileSlot bitmap st).released st := by
  have watched : (s.unit st.unit).presence ≠ .absent := by rw [present]; simp
  have moves := State.reconcileSlot_moves bitmap watched
  have still : ((s.reconcileSlot bitmap st).unit st.unit).presence = .present :=
    (moves.steady.presence _).trans present
  by_cases held : (s.stage st).state = .held
  · refine ⟨?_, fun gone => absurd (still.symm.trans gone) (by simp)⟩
    simp only [State.reconcileSlot, held]
    split
    · simp [State.resumeStage]
    · simp [State.releaseStage_idle]
  · exact moves.released ⟨held, fun gone => absurd gone watched⟩

theorem State.reconcile_unitsFit {n : Nat} {s : State} {u : UnitId} (bitmap : Byte) (threshold : s.setting .errorThreshold = n)
    (records : s.recordsFit n) (others : ∀ st, st.unit ≠ u → s.fits st) (present : (s.unit u).presence = .present) :
    (s.reconcile u bitmap).UnitsFit n := by
  have still : ∀ (y : State) (st : StageId), st ∈ stagesOf u → s.Moves y → (y.unit st.unit).presence = .present :=
    fun y st member before => by rw [before.steady.presence, mem_stagesOf.mp member]; exact present
  exact .of_unit threshold records others (State.reconcile_moves bitmap (by rw [present]; simp))
    (State.foldl_reaches (Q := State.fits) (stagesOf u) s
      (fun y st member before => State.reconcileSlot_moves bitmap (by rw [still y st member before]; simp))
      (fun y st member before => (State.reconcileSlot_released bitmap (still y st member before)).fits)
      fun y z st moves h => moves.fits h)

theorem State.makePresent_unitsFit {n : Nat} {s : State} (h : s.UnitsFit n) (positive : 0 < n) (u : UnitId) {t : State}
    (same : t.supervisor = (s.makePresent u).supervisor ∧ t.stages = s.stages ∧ t.store = s.store) (bitmap : Byte) :
    (t.reconcile u bitmap).UnitsFit n := by
  obtain ⟨supervisor, stages, store⟩ := same
  have unit : ∀ v, t.unit v = (s.makePresent u).unit v := fun v => by rw [State.unit, supervisor, State.unit]
  refine State.reconcile_unitsFit bitmap ?_ (fun v => ?_) (fun st other => ?_) ?_
  · rw [State.setting, store]; exact h.threshold
  · rw [unit]
    exact State.recordsFit_onUnit h.records ⟨fun _ => ⟨by simp [UnitRec.startWindow], positive⟩,
      fun gone => absurd rfl gone, by simp [UnitRec.startWindow]⟩ v
  · exact State.fits_congr (h.stages st) (by rw [State.stage, stages, State.stage])
      (by rw [unit, State.makePresent, State.unit_onUnit_other _ _ other])
  · rw [unit, State.makePresent_presence]

theorem State.takeBeacon_unitsFit {n : Nat} {s : State} (h : s.UnitsFit n) (positive : 0 < n) (u : UnitId) (bitmap : Byte) :
    (s.takeBeacon u bitmap).UnitsFit n := by
  have first : (s.firstBeacon u bitmap).UnitsFit n := State.makePresent_unitsFit h positive u (by simp) bitmap
  simp only [State.takeBeacon]
  split
  · split
    · exact h
    · exact first
  · next present =>
    split
    · exact State.unitError_unitsFit ((s.bump_moves _).unitsFit h) u
    · obtain ⟨watched, -, -⟩ := h.records u
      obtain ⟨-, below⟩ := watched present
      refine (State.reconcile_moves bitmap ?_).unitsFit (h.onUnit ⟨fun _ => ⟨nofun, ?_⟩, fun gone => absurd present gone,
        fun gone => absurd (present.symm.trans gone) (by simp)⟩ rfl)
      · simp [UnitRec.startWindow, present]
      · exact Nat.lt_of_le_of_lt (Nat.sub_le _ _) below
    · exact h
  · exact State.makePresent_unitsFit h positive u (by simp) bitmap
  · split
    · exact first
    · exact h

theorem State.clearOrRelease_released {s : State} {st : StageId} (h : s.fits st) : (s.clearOrRelease st).released st := by
  unfold State.clearOrRelease
  split
  · next tripped => simp [State.clearStage, tripped, State.released, Stage.copyPending_eq]
  · exact ⟨by simp [State.releaseStage_idle], fun _ => .inl (State.releaseStage_idle st s)⟩
  case h_3 idle => exact ⟨by simp [idle], fun _ => .inl idle⟩
  all_goals next state =>
    exact h.released fun gone => by simpa [state] using h.2 gone

theorem State.takeClear_unitsFit {n : Nat} {s : State} (h : s.UnitsFit n) (u : UnitId) : (s.takeClear u).UnitsFit n := by
  have cleared := (s.clearOrReleases_moves u).unitsFit h
  have released : ∀ st ∈ stagesOf u, ((stagesOf u).foldl State.clearOrRelease s).released st :=
    State.foldl_reaches (stagesOf u) s (fun x st _ _ => x.clearOrRelease_moves st)
      (fun x st _ before => State.clearOrRelease_released (before.fits (h.stages st))) fun x y st moves h => moves.released h
  simp only [State.takeClear]
  generalize (stagesOf u).foldl State.clearOrRelease s = x at cleared released
  have unit := x.unit_onUnit u UnitRec.cleared
  have unwatched : (x.onUnit u UnitRec.cleared).UnitsFit n := by
    refine ⟨cleared.threshold, State.recordsFit_onUnit cleared.records ⟨nofun, fun _ => ⟨rfl, rfl⟩, nofun⟩, fun st => ?_⟩
    by_cases same : st.unit = u
    · refine ⟨fun held => absurd held (released st (mem_stagesOf.mpr same)).1, fun gone => ?_⟩
      rw [unit, if_pos same] at gone
      cases gone
    · exact State.fits_congr (cleared.stages st) rfl (by rw [unit, if_neg same])
  exact (State.answer_moves _ _ _ _).unitsFit unwatched

theorem State.guardExpires_unitsFit {n : Nat} {s : State} (h : s.UnitsFit n) (u : UnitId) : (s.guardExpires u).UnitsFit n := by
  unfold State.guardExpires
  split
  · next due =>
    obtain ⟨watched, unwatched, absent⟩ := h.records u
    refine h.onUnit ⟨fun present => ⟨nofun, (watched present).2⟩, fun other => ?_, absent⟩ rfl
    exact absurd (due.1.symm.trans (unwatched other).1) nofun
  · exact h

theorem State.windowMissed_unitsFit {n : Nat} {s : State} (h : s.UnitsFit n) (u : UnitId) : (s.windowMissed u).UnitsFit n := by
  simp only [State.windowMissed]
  split
  · next due =>
    obtain ⟨watched, -, absent⟩ := h.records u
    exact State.unitError_unitsFit ((State.bump_moves _ _).unitsFit
      (h.onUnit ⟨watched, fun other => absurd due.1 other, absent⟩ rfl)) u
  · exact h

theorem State.badToken_unitsFit {n : Nat} {s : State} (h : s.UnitsFit n) (st : StageId) : (s.badToken st).UnitsFit n := by
  have deferred := (s.sendDefer_moves st .badToken).unitsFit h
  simp only [State.badToken]
  split
  · exact deferred
  · exact State.unitError_unitsFit deferred _

theorem State.confirmExpires_unitsFit {n : Nat} {s : State} (h : s.UnitsFit n) (st : StageId) :
    (s.confirmExpires st).UnitsFit n := by
  unfold State.confirmExpires State.lapse
  split
  · next due =>
    have withdrawn := (State.withdrawPermit_moves due.1).unitsFit h
    refine (State.bump_moves _ _).unitsFit ?_
    split
    · exact withdrawn
    · exact State.unitError_unitsFit withdrawn _
  · exact h

theorem State.stopExpires_unitsFit {n : Nat} {s : State} (h : s.UnitsFit n) (st : StageId) : (s.stopExpires st).UnitsFit n := by
  unfold State.stopExpires
  split
  · next due => exact State.unitError_unitsFit ((State.reloadStop_moves due.1).unitsFit h) _
  · exact h

/-! ### The modes -/

theorem mapTable_get {α β : Type} {n : Nat} (f : α → β) (v : Vector α n) (i : Nat) (h : i < n) : (mapTable f v)[i] = f v[i] := by
  simp [mapTable]

theorem UnitRec.mainsOff_valid {n : Nat} {r : UnitRec} (h : r.valid n) :
    r.mainsOff.valid n ∧ r.mainsOff.presence ≠ .absent := by
  obtain ⟨presence, -⟩ := id r
  unfold UnitRec.mainsOff
  cases was : r.presence with
  | unknown | awaiting => exact ⟨h, by simp [was]⟩
  | present | absent => exact ⟨⟨nofun, fun _ => ⟨rfl, rfl⟩, nofun⟩, nofun⟩

theorem UnitRec.settled_valid {n : Nat} {r : UnitRec} (h : r.valid n) :
    r.settled.valid n ∧ (r.settled.presence = .absent ↔ r.presence = .absent) := by
  obtain ⟨watched, unwatched, absent⟩ := h
  unfold UnitRec.settled
  cases was : r.presence with
  | awaiting => exact ⟨⟨nofun, fun _ => unwatched (by simp [was]), nofun⟩, by simp⟩
  | unknown | present | absent => exact ⟨⟨watched, unwatched, absent⟩, by simp [was]⟩

/-- A PRESENT unit is left below the new threshold, and an ABSENT unit at it (R129). -/
theorem UnitRec.newThreshold_valid {n m : Nat} {r : UnitRec} (h : r.valid n) (positive : 0 < m) :
    (r.newThreshold m).valid m ∧ (r.newThreshold m).presence = r.presence := by
  obtain ⟨watched, unwatched, absent⟩ := h
  unfold UnitRec.newThreshold
  cases was : r.presence with
  | unknown | awaiting => exact ⟨⟨by simp [was], unwatched, by simp [was]⟩, was⟩
  | absent => exact ⟨⟨nofun, fun _ => unwatched (by simp [was]), fun _ => rfl⟩, rfl⟩
  | present =>
    simp only
    split
    · exact ⟨⟨fun _ => ⟨(watched was).1, Nat.sub_lt positive Nat.one_pos⟩, fun other => absurd rfl other, nofun⟩, rfl⟩
    · next few => exact ⟨⟨fun _ => ⟨(watched was).1, Nat.lt_of_not_le few⟩, unwatched, by simp [was]⟩, was⟩

theorem State.mainsOffTail_unitsFit {n : Nat} {s : State} (h : s.UnitsFit n) : s.mainsOffTail.UnitsFit n := by
  have unit : ∀ u, s.mainsOffTail.unit u = (s.unit u).mainsOff := fun u => by
    simp [State.mainsOffTail, State.unit, mapTable_get]
  have stage : ∀ st, s.mainsOffTail.stage st = s.mainsOffReset.stage st := fun st => by
    simp [State.mainsOffTail, State.stage]
  refine ⟨by simpa [State.mainsOffTail, State.setting] using h.threshold, fun u => ?_, fun st => ?_⟩
  · rw [unit]; exact (UnitRec.mainsOff_valid (h.records u)).1
  · refine State.released.fits ⟨?_, fun gone => ?_⟩
    · rw [stage, State.mainsOffReset_stage, Stage.mainsOff_state]
      split <;> simp
    · rw [unit] at gone
      exact absurd gone (UnitRec.mainsOff_valid (h.records st.unit)).2

theorem State.powerFailAsserted_unitsFit {n : Nat} {s : State} (h : s.UnitsFit n) : s.powerFailAsserted.UnitsFit n := by
  have fresh : s.mainsOffFresh.UnitsFit n := State.mainsOffTail_unitsFit ((s.onModes_moves _).unitsFit h)
  unfold State.powerFailAsserted
  split
  · exact fresh
  · exact fresh
  · exact State.mainsOffTail_unitsFit ((s.onModes_moves _).unitsFit h)
  · exact State.mainsOffTail_unitsFit h
  all_goals exact h

theorem State.powerFailQualifies_unitsFit {n : Nat} {s : State} (h : s.UnitsFit n) : s.powerFailQualifies.UnitsFit n := by
  have read : ∀ state, (s.setPowerFail state 0).UnitsFit n := fun state => (s.onLines_moves _).unitsFit h
  unfold State.powerFailQualifies
  split
  · exact State.powerFailAsserted_unitsFit (read _)
  · exact (State.powerFailDeasserted_moves _).unitsFit (read _)
  all_goals exact h

theorem State.joinExpires_unitsFit {n : Nat} {s : State} (h : s.UnitsFit n) : s.joinExpires.UnitsFit n := by
  unfold State.joinExpires
  split
  · split
    · exact State.mainsOffTail_unitsFit ((s.onModes_moves _).unitsFit h)
    · exact ((s.onModes_moves _).trans (State.setMode_moves _ _)).unitsFit h
  · exact h

theorem State.settleExpires_unitsFit {n : Nat} {s : State} (h : s.UnitsFit n) : s.settleExpires.UnitsFit n := by
  simp only [State.settleExpires]
  split
  · let x := (s.onSupervisor fun v => { v with records := mapTable UnitRec.settled v.records }).onModes
      fun d => { d with timer := 0 }
    have unit : ∀ u, x.unit u = (s.unit u).settled := fun u => by simp [x, State.unit, mapTable_get]
    have settled : x.UnitsFit n := by
      refine ⟨h.threshold, fun u => ?_, fun st => ?_⟩
      · rw [unit]; exact (UnitRec.settled_valid (h.records u)).1
      · have := (UnitRec.settled_valid (h.records st.unit)).2
        obtain ⟨held, absent⟩ := h.stages st
        unfold State.fits
        rw [unit]
        exact ⟨fun is => this.mpr (held is), fun gone => absent (this.mp gone)⟩
    refine Moves.unitsFit ?_ settled
    split
    · exact ((State.setMode_moves _ _).trans (State.bump_moves _ _)).trans
        ((State.startGate_moves _).trans (State.feed_moves _))
    · exact ((State.onModes_moves _ _).trans (State.setMode_moves _ _)).trans (State.startGate_moves _)
  · exact h

/-! ### The completions of the store -/

/-- The error threshold's owner brings the records to agree with it (R129); the other settings leave them alone. -/
theorem State.settingsChanged_unitsFit (l : List Setting) (s : State) {n m : Nat} (threshold : s.setting .errorThreshold = m)
    (positive : 0 < m) (records : s.recordsFit n) (stages : ∀ st, s.fits st) (same : .errorThreshold ∉ l → n = m) :
    (l.foldl (fun s x => s.settingChanged x) s).UnitsFit m := by
  induction l generalizing s n with
  | nil =>
    obtain rfl := same (by simp)
    exact ⟨threshold, records, stages⟩
  | cons x rest ih =>
    by_cases isThreshold : x = .errorThreshold
    · subst isThreshold
      have unit : ∀ u, (s.settingChanged .errorThreshold).unit u = (s.unit u).newThreshold m := fun u => by
        simp [State.settingChanged, State.unit, mapTable_get, threshold]
      refine ih _ (n := m) threshold (fun u => ?_) (fun st => ?_) fun _ => rfl
      · rw [unit]; exact (UnitRec.newThreshold_valid (records u) positive).1
      · exact State.fits_congr (stages st) rfl (by rw [unit]; exact (UnitRec.newThreshold_valid (records st.unit) positive).2)
    · have moves := State.settingChanged_moves isThreshold s
      exact ih _ ((moves.steady.setting _).trans threshold) (moves.recordsFit records) (fun st => moves.fits (stages st))
        fun out => same (by simp [out, Ne.symm isThreshold])

/-- The owners of what has changed are told (R170, R172). -/
theorem State.notifyChanges_unitsFit {n : Nat} {before : Store} {s : State} (was : before.setting .errorThreshold = n)
    (store : s.store.valid) (records : s.recordsFit n) (stages : ∀ st, s.fits st) :
    (s.notifyChanges before).UnitsFit (s.setting .errorThreshold) := by
  have told : s.Moves ((units.filter fun u => s.store.group u != before.group u).foldl (fun s u => s.groupChanged u)
      ((allStages.filter fun st => s.store.profile st != before.profile st).foldl (fun s st => s.profileChange st) s)) :=
    (State.foldl_moves _ s fun x st _ _ => x.profileChange_moves st).trans
      (State.foldl_moves _ _ fun x u _ _ => x.groupChanged_moves u)
  refine State.settingsChanged_unitsFit _ _ (told.steady.setting _) ?_ (told.recordsFit records)
    (fun st => told.fits (stages st)) fun unchanged => ?_
  · have low : Setting.errorThreshold.range.1 ≤ s.setting .errorThreshold := (store.setting _).1
    exact Nat.lt_of_lt_of_le (by decide) low
  · have same : s.store.setting .errorThreshold = before.setting .errorThreshold := by
      simpa [List.mem_filter, mem_settings] using unchanged
    exact was.symm.trans same.symm

theorem State.writeCompletes_unitsFit {n : Nat} {s : State} (h : s.UnitsFit n) (store : s.store.valid) :
    ∃ m, s.writeCompletes.UnitsFit m := by
  unfold State.writeCompletes
  split
  · next item elapsed drawn flight =>
    exact ⟨_, State.notifyChanges_unitsFit (s := (s.onStore fun d => (item.placeIn d).complete).bump .writesCompleted)
      h.threshold (store.written flight rfl) h.records h.stages⟩
  · exact ⟨n, h⟩

theorem State.eraseCompletes_unitsFit {n : Nat} {s : State} (h : s.UnitsFit n) : ∃ m, s.eraseCompletes.UnitsFit m := by
  unfold State.eraseCompletes
  split
  · refine ⟨_, (State.endHalt_moves _).unitsFit (State.notifyChanges_unitsFit
      (s := (s.onStore fun d => d.erase.complete).bump .erasesCompleted) h.threshold ?_ h.records h.stages)⟩
    exact s.store.erase_complete_valid
  · exact ⟨n, h⟩

/-! ### Every step -/

theorem State.afterReset_unitsFit (store : Store) (pins : Pins) (cause : ResetCause) (drawn : Nat) (pending : List Instr) :
    (State.afterReset store pins cause drawn pending).UnitsFit (store.setting .errorThreshold) := by
  have unit : ∀ u, ∃ g, (State.afterReset store pins cause drawn pending).unit u = UnitRec.afterReset store.afterReset g :=
    fun u => ⟨_, mapTable_get _ _ _ u.isLt⟩
  refine ⟨rfl, fun u => ?_, fun st => ⟨?_, ?_⟩⟩
  · obtain ⟨g, eq⟩ := unit u
    rw [eq]
    exact ⟨nofun, fun _ => ⟨rfl, rfl⟩, nofun⟩
  · rw [State.afterReset_stage]; exact nofun
  · obtain ⟨g, eq⟩ := unit st.unit
    rw [eq]; exact nofun

theorem State.advance_unitsFit {n : Nat} {s : State} (h : s.UnitsFit n) : s.advance.UnitsFit n := by
  refine ⟨h.threshold, fun u => ?_, fun st => ?_⟩
  · obtain ⟨watched, unwatched, absent⟩ := h.records u
    rw [State.advance_unit]
    refine ⟨watched, fun other => ⟨(unwatched other).1, countDown_eq_zero.mpr (unwatched other).2⟩, absent⟩
  · exact State.fits_congr (h.stages st) (by rw [State.advance_stage]; rfl) (by rw [State.advance_unit]; rfl)

theorem State.take_unitsFit {f : State → State} {s t : State} (h : s.take f = .next t) (effect : ∃ n, (f s).UnitsFit n)
    (was : ∃ n, s.UnitsFit n) : ∃ n, t.UnitsFit n := by
  obtain rfl : (if s.supplied then (f s).drain else s) = t := by simpa [State.take] using h
  split
  · exact effect.imp fun _ fit => (f s).drain_moves.unitsFit fit
  · exact was

theorem State.receive_unitsFit {f : State → State} {n : Nat} {s t : State} (h : s.receive f = .next t)
    (was : s.UnitsFit n) (effect : (f s).UnitsFit n) : ∃ n, t.UnitsFit n := by
  refine State.take_unitsFit h ⟨n, ?_⟩ ⟨n, was⟩
  split
  · exact effect
  · exact was

theorem exec_unitsFit {i : Instr} {s t : State} (h : exec i s = .next t) (store : s.store.valid) {n : Nat}
    (fit : s.UnitsFit n) : ∃ n, t.UnitsFit n := by
  by_cases plain : Instr.special i = false
  · exact ⟨n, (exec_moves plain h).unitsFit fit⟩
  have positive : 0 < n := by
    have low : Setting.errorThreshold.range.1 ≤ s.setting .errorThreshold := (store.setting _).1
    rw [fit.threshold] at low
    exact Nat.lt_of_lt_of_le (by decide) low
  unfold exec at h
  cases i with
  | started u data =>
    refine State.receive_unitsFit h fit ?_
    unfold State.unitFrame
    split
    · exact ((s.place_moves _).trans (State.bump_moves _ _)).unitsFit fit
    · split
      · exact (s.sendDefer_moves _ _).unitsFit fit
      · next f _ present =>
        rcases State.takeStarted_cases (st := { unit := u, slot := f.1 }) f.2 present with bad | moves
        · simp only [bad]; exact State.badToken_unitsFit fit _
        · exact moves.unitsFit fit
  | unitBeacon u data =>
    refine State.receive_unitsFit h fit ?_
    split
    · exact ((s.place_moves _).trans (State.bump_moves _ _)).unitsFit fit
    · exact State.takeBeacon_unitsFit fit positive u _
  | clearUnit data =>
    refine State.receive_unitsFit h fit ?_
    clear h
    unfold State.gatewayFrame
    split
    · exact ((s.answer_moves _ _ _).trans (State.bump_moves _ _)).unitsFit fit
    · simp only [State.unlessHalted]
      split
      · exact (s.answer_moves _ _ _).unitsFit fit
      · exact State.takeClear_unitsFit fit _
  | confirmTimeout st => exact State.take_unitsFit h ⟨n, State.confirmExpires_unitsFit fit st⟩ ⟨n, fit⟩
  | stopTimeout st => exact State.take_unitsFit h ⟨n, State.stopExpires_unitsFit fit st⟩ ⟨n, fit⟩
  | windowGuardExpiry u => exact State.take_unitsFit h ⟨n, State.guardExpires_unitsFit fit u⟩ ⟨n, fit⟩
  | missedWindow u => exact State.take_unitsFit h ⟨n, State.windowMissed_unitsFit fit u⟩ ⟨n, fit⟩
  | joinTimerExpiry => exact State.take_unitsFit h ⟨n, State.joinExpires_unitsFit fit⟩ ⟨n, fit⟩
  | settleTimerExpiry => exact State.take_unitsFit h ⟨n, State.settleExpires_unitsFit fit⟩ ⟨n, fit⟩
  | powerFailQualificationExpiry => exact State.take_unitsFit h ⟨n, State.powerFailQualifies_unitsFit fit⟩ ⟨n, fit⟩
  | writeCompletion => exact State.take_unitsFit h (State.writeCompletes_unitsFit fit store) ⟨n, fit⟩
  | eraseCompletion => exact State.take_unitsFit h (State.eraseCompletes_unitsFit fit) ⟨n, fit⟩
  | powerOnReset =>
    obtain rfl := Host.Outcome.next.inj h
    exact ⟨_, State.afterReset_unitsFit ..⟩
  | resetLine inside =>
    obtain rfl := Host.Outcome.next.inj h
    split
    · exact ⟨_, State.afterReset_unitsFit ..⟩
    · exact ⟨n, fit⟩
  | supplyLoss inside =>
    obtain rfl := Host.Outcome.next.inj h
    split
    · exact ⟨n, fit.threshold, fit.records, fit.stages⟩
    · exact ⟨n, fit⟩
  | _ => exact absurd rfl plain

theorem exec_validStore {i : Instr} {s t : State} (h : exec i s = .next t) (store : s.store.valid) : t.store.valid := by
  have turns := exec_turns h
  clear h
  induction turns with
  | refl => exact store
  | tail _ last ih => exact last.validStore ih

end Sys2Proof.Machine

namespace Sys2Proof.Proofs
open Sys2Proof.Machine

/-- Settles O15: a change of a stage's record leaves it fitting its unit (`State.Move.fits`); the commands that change a unit's
presence bring its stages to fit (`State.declareAbsent_unitsFit`, `State.reconcile_unitsFit`, `State.takeClear_unitsFit`). -/
theorem unitsKept : Obligations.UnitsKept := fun s t stepped holds => by
  refine step_keeps (P := fun x => x.store.valid ∧ x.unitsValid) ?_ ?_ ?_ stepped holds
  · exact fun _ _ _ h => h
  · rintro x ⟨store, units⟩
    obtain ⟨n, fit⟩ := x.unitsValid_iff.mp units
    exact ⟨State.advance_validStore store, x.advance.unitsValid_iff.mpr ⟨n, State.advance_unitsFit fit⟩⟩
  · rintro i x y ran ⟨store, units⟩
    obtain ⟨n, fit⟩ := x.unitsValid_iff.mp units
    exact ⟨exec_validStore ran store, y.unitsValid_iff.mpr (exec_unitsFit ran store fit)⟩

end Sys2Proof.Proofs
end

section
/-! Proofs/Reset.lean: what a reset leaves (O6, O7), and that it is safe (O8). -/

namespace Sys2Proof.Machine

theorem State.afterReset_unit (store : Store) (pins : Pins) (cause : ResetCause) (drawn : Nat) (pending : List Instr)
    (u : UnitId) : (State.afterReset store pins cause drawn pending).unit u = UnitRec.afterReset store (store.group u) :=
  mapTable_get _ _ _ u.isLt

theorem countersAfterReset_get (store : Store) (c : Counter) :
    (countersAfterReset store)[c.index] = if c = .haltedStarts ∧ store.checkPasses = false then 1 else 0 := by
  unfold countersAfterReset
  by_cases passes : store.checkPasses = true
  · simp [passes]
  · by_cases halted : c = .haltedStarts
    · simp [passes, halted]
    · have other : Counter.haltedStarts.index.val ≠ c.index.val := fun same => halted (Counter.index_inj (Fin.ext same)).symm
      simp [passes, halted, other]

theorem Lines.afterReset_eq (pins : Pins) : Lines.afterReset pins =
    { pulse := { level := false, debounce := if pins.pulse then 5 else 0, state := .released, width := 0 },
      mark := { level := false, debounce := if pins.mark then 5 else 0, state := .released, timer := 0 },
      curtail := { qualified := 0, candidate := if pins.curtail = 0 then none else some pins.curtail,
                   stability := if pins.curtail = 0 then 0 else 1000, delivered := 0 },
      powerFail := { state := if pins.powerFail then .failPending else .normal,
                     timer := if pins.powerFail then 500 else 0 } } := by
  have powerFail : (if pins.powerFail then { state := .failPending, timer := failTime } else { state := .normal, timer := 0 } :
      PowerFailLine) = { state := if pins.powerFail then .failPending else .normal, timer := if pins.powerFail then 500 else 0 } := by
    split <;> rfl
  unfold Lines.afterReset
  rw [powerFail]
  rfl

theorem Modes.afterReset_eq (store : Store) (cause : ResetCause) : Modes.afterReset store cause =
    { mode := if store.checkPasses then .startup else .halted,
      timer := if store.checkPasses then 3000 * store.setting .beaconPeriod else 0,
      roster := [], readPosition := 0, fedCount := 0, resetCause := cause, fallback := true } := by
  have join : store.joinTime = 3000 * store.setting .beaconPeriod := by
    rw [Store.joinTime, seconds, ← Nat.mul_assoc]
  rw [← join]
  rfl

/-- A reset command leaves the reset state of the store as it then stands (R156, R174). -/
theorem exec_reset {s : State} {c : Instr} {inside : Bool} {cause : ResetCause}
    (reset : (c = .powerOnReset ∧ inside = false ∧ cause = .powerOn) ∨
      (c = .resetLine inside ∧ cause = .resetLine ∧ s.supplied = true)) :
    exec c s = .next (State.afterReset (s.store.loseFlight inside) s.pins cause s.drawn s.pending) := by
  rcases reset with ⟨rfl, rfl, rfl⟩ | ⟨rfl, rfl, supplied⟩
  · rfl
  · exact congrArg Host.Outcome.next (if_pos supplied)

/-! ### The state after reset -/

theorem erasedStore_profile (st : StageId) : erasedStore.profile st = erasedProfile := by simp [erasedStore, Store.profile]

theorem erasedStore_setting (x : Setting) : erasedStore.setting x = x.default := defaultSettings_get x

theorem erasedStore_group (u : UnitId) : erasedStore.group u = 0 := by simp [erasedStore, Store.group]

theorem erasedStore_digest : erasedStore.contentsDigest = 61252 := by decide +kernel

theorem erasedStore_afterReset : erasedStore.afterReset = erasedStore := by
  rw [Store.afterReset, erasedStore_digest]
  rfl

theorem erasedStore_valid : erasedStore.valid := by
  refine ⟨fun u k => ?_, fun x _ => ?_, by simp [Store.itemInFlight, erasedStore]⟩
  · rw [erasedStore_profile]; exact erasedProfile_valid k
  · rw [erasedStore_setting]; exact x.default_allows

theorem erasedStore_checkPasses : erasedStore.checkPasses = true := rfl

theorem reset_eq : State.reset =
    { supplied := true, pins := .atRest, stages := .afterReset erasedStore, calls := .afterReset,
      arbiter := .afterReset erasedStore, account := .afterReset erasedStore, shed := .afterReset,
      supervisor := .afterReset erasedStore, lines := .afterReset .atRest, modes := .afterReset erasedStore .powerOn,
      link := .afterReset, store := erasedStore, counters := countersAfterReset erasedStore, causes := [], drawn := 0,
      pending := [] } := by
  rw [State.reset, State.afterReset, erasedStore_afterReset]

theorem reset_stage (st : StageId) : State.reset.stage st =
    { working := { kind := .none, load := 1, surge := false, shedClass := 3, lead := none, minOn := 180, minOff := 300 },
      pendingProfile := false, state := .idle, rest := 0, run := 0, handshake := 0, token := none, withdrawn := none,
      window := 0, withdrawnByReplay := false, rosterFlag := false, stopReason := none } := by
  rw [State.reset, State.afterReset_stage, erasedStore_profile]; rfl

theorem reset_unit (u : UnitId) : State.reset.unit u =
    { presence := .unknown, phase := .none, window := 0, period := 5, errors := 0, tripSlot := none, furtherTrips := 0,
      anomaly := false, group := 0 } := by
  rw [State.reset, State.afterReset_unit, erasedStore_group, UnitRec.afterReset, erasedStore_setting]; rfl

theorem reset_setting (x : Setting) : State.reset.setting x = x.default := by
  rw [State.setting, reset_eq, erasedStore_setting]

theorem reset_counter (c : Counter) : State.reset.counter c = 0 := by
  rw [State.counter, reset_eq, countersAfterReset_get, erasedStore_checkPasses]; simp

theorem reset_account : State.reset.account =
    { intervalLength := 900, pendingLength := none, elapsed := 0, energy := 0,
      closed := { energy := 0, elapsed := 0, cause := .clock }, rateWindow := 60000, windowEnergy := 0,
      windowMetered := true, measured := 0, uncontrolled := 500, ceiling := 2000, supervision := .standalone,
      supervisionTimer := 0, metering := .metered, stuckStanding := false, silence := 120000, effectiveCeiling := 2000,
      allowance := 2000, persistence := 0, evaluationTimer := 1000 } := by
  rw [reset_eq, Account.afterReset]
  simp only [erasedStore_setting]
  rfl

theorem reset_modes : State.reset.modes =
    { mode := .startup, timer := 15000, roster := [], readPosition := 0, fedCount := 0, resetCause := .powerOn,
      fallback := true } := by
  rw [reset_eq, Modes.afterReset_eq, erasedStore_setting, erasedStore_checkPasses]; rfl

theorem reset_records (r : UnitRec) (h : r ∈ State.reset.supervisor.records.toList) : r.tripSlot = none ∧ r.anomaly = false := by
  rw [reset_eq] at h
  simp only [Supervisor.afterReset, mapTable, Vector.toList_mk, List.mem_map] at h
  obtain ⟨g, -, rfl⟩ := h
  exact ⟨rfl, rfl⟩

end Sys2Proof.Machine

namespace Sys2Proof.Proofs
open Sys2Proof.Machine

/-- Settles O7: both resets leave `State.afterReset` of the store without its operation in flight (`exec_reset`). -/
theorem resetFromStore : Obligations.ResetFromStore := by
  refine ⟨fun s c inside cause reset => ⟨_, exec_reset reset, rfl, rfl, rfl, rfl, rfl, rfl, fun st => ?_, rfl, rfl, rfl, rfl, rfl,
    rfl, rfl, fun u => ?_, rfl, Lines.afterReset_eq _, ?_, rfl, fun x => ?_⟩, fun s inside supplied => ?_⟩
  · rw [State.afterReset_stage]; rfl
  · rw [State.afterReset_unit]; rfl
  · exact Modes.afterReset_eq _ cause
  · exact countersAfterReset_get _ x
  · exact congrArg Host.Outcome.next (if_pos supplied)

/-- Settles O6: the erased store's contents (`reset_eq`) read through the reset tables. -/
theorem resetValues : Obligations.ResetValues := by
  refine ⟨reset_stage, rfl, rfl, rfl, rfl, ?_, reset_account, ?_, rfl, reset_unit, rfl, rfl, reset_modes, rfl, rfl, ?_, ?_, reset_setting,
    ?_, rfl, rfl, reset_counter, rfl, rfl, rfl⟩
  · rw [reset_eq, Arbiter.afterReset, erasedStore_setting]; rfl
  · rw [State.headroom, reset_account]; rfl
  · exact fun st => (congrArg (Store.profile · st) (congrArg State.store reset_eq)).trans (erasedStore_profile st)
  · exact fun u => (congrArg (Store.group · u) (congrArg State.store reset_eq)).trans (erasedStore_group u)
  · rw [reset_eq]; rfl

/-- Settles O8: nothing runs, waits or is due, and the store is erased (`erasedStore_valid`). -/
theorem resetIsSafe : Obligations.ResetIsSafe where
  sums := (StageTable.afterReset_exact _).1
  runOrder := (StageTable.afterReset_exact _).2
  stages := State.reset.stages.valid_iff.mpr fun st => by
    rw [show State.reset.stages.get st = Stage.afterReset (erasedStore.profile st) from State.afterReset_stage _ _ _ _ _ st]
    exact Stage.sound_afterReset (erasedStore_valid.profile st)
  store := erasedStore_valid.afterReset
  calls := State.callsExact_of_empty rfl (Nat.zero_le _) fun st => by rw [reset_stage]; exact nofun
  capacity := State.afterReset_withinCapacity ..
  flags := by
    refine ⟨?_, ?_, rfl, rfl⟩
    · rw [reset_setting]; rfl
    · rw [show State.reset.supervisor.attention = false from rfl, eq_comm, List.any_eq_false]
      intro r mem
      simp [reset_records r mem]
  units := State.reset.unitsValid_iff.mpr ⟨_, State.afterReset_unitsFit ..⟩
  account := by rw [reset_account]; decide
  lines := ⟨rfl, rfl, by decide, by decide, rfl, rfl, by decide, rfl, nofun⟩
  modes := by
    have mode : State.reset.mode = .startup := by rw [State.mode, reset_modes]
    refine ⟨?_, ?_, ?_, ?_, ?_⟩
    · rw [mode]; decide
    · exact fun _ => rfl
    · rw [mode, reset_modes]; decide
    · rw [mode]; exact nofun
    · rw [mode]; exact nofun
  roster := by
    refine ⟨by simp [reset_modes], by simp [reset_modes], by simp [reset_modes], by simp [reset_modes], by simp [reset_modes],
      fun u k => ⟨?_, ?_⟩, fun _ => nofun, fun _ => by rw [reset_modes]⟩
    · rintro ⟨e, mem, -⟩; exact absurd mem (List.not_mem_nil (a := e))
    · rw [reset_modes]; exact nofun
  marker := ⟨nofun, fun _ => rfl⟩
  settled := rfl

end Sys2Proof.Proofs
end

section
/-! Proofs/SharedUpdates.lean: what the shared updates do (O21). -/

namespace Sys2Proof.Machine

theorem State.bump_counter (s : State) (c d : Counter) :
    (s.bump c).counter d = if d = c then min 65535 (s.counter c + 1) else s.counter d := by
  split
  · next same => subst same; exact s.bump_counter_self d
  · next other => exact s.bump_counter_other c d (Ne.symm other)

theorem State.place_eq_enqueue {s : State} (room : s.link.queue.length < 24) (n : Notice) : s.place n = s.enqueue n :=
  if_pos (decide_eq_true room)

theorem State.place_eq_bump {s : State} (full : 24 ≤ s.link.queue.length) (n : Notice) : s.place n = s.bump .noticesDropped :=
  if_neg fun room => Nat.not_lt_of_le full (of_decide_eq_true room)

theorem State.placeStop_empty {s : State} (empty : s.link.stopSlot = none) (f : StopFrame) :
    s.placeStop f = { s with link := { s.link with stopSlot := some f } } :=
  if_pos (by rw [empty]; rfl)

theorem State.placeStop_taken {s : State} (taken : s.link.stopSlot ≠ none) (f : StopFrame) :
    s.placeStop f = s.enqueue (.stop f) :=
  if_neg (by simpa using taken)

/-- There is room for a STOP in an empty slot or a queue of fewer than 24 (R109). -/
theorem State.stopRoom_iff (s : State) : s.stopRoom = true ↔ s.link.stopSlot = none ∨ s.link.queue.length < 24 := by
  simp only [State.stopRoom, State.noticeRoom, Bool.or_eq_true, Option.isNone_iff_eq_none, decide_eq_true_iff]
  rfl

/-- The data of an ANSWER is padded with zeros to six bytes (R158). -/
theorem answerData_eq {d : List Byte} (short : d.length ≤ 6) : answerData d = d ++ List.replicate (6 - d.length) 0 := by
  unfold answerData
  rw [List.take_append, List.take_of_length_le short, List.take_replicate]
  congr 2
  omega

theorem StageState.listed_iff (state : StageState) : state.listed = true ↔
    state = .granted ∨ state = .running ∨ state = .stopping ∨ state = .held := by
  rw [StageState.listed_eq, decide_eq_true_iff]

/-- A stage joins the run order list's end, leaves it, or stands where it stood (R11). -/
theorem StageTable.put_runOrder (t : StageTable) (st : StageId) (r : Stage) : (t.put st r).runOrder =
    if r.state.listed then (if (t.get st).state.listed then t.runOrder else t.runOrder ++ [st])
    else if (t.get st).state.listed then t.runOrder.filter (fun x => x != st) else t.runOrder := rfl

end Sys2Proof.Machine

namespace Sys2Proof.Proofs
open Sys2Proof.Machine

/-- Settles O21: each update read from its definition. -/
theorem noticesArePlaced : Obligations.NoticesArePlaced := by
  intro s
  refine ⟨fun n room => ?_, fun n full => State.place_eq_bump full n, fun f empty => State.placeStop_empty empty f,
    fun f taken => State.placeStop_taken taken f, fun kind status d short => ?_, s.bump_counter, fun c => rfl, fun c => rfl,
    fun table st r => ⟨table.get_put_self st r, fun x other => table.get_put_other r other, ?_, ?_, ?_, ?_, ?_⟩⟩
  · rw [State.place_eq_enqueue room]
    refine ⟨rfl, ?_⟩
    simp [State.enqueue]
  · rw [State.answer, answerData_eq short]
  · simp only [StageTable.put, Stage.runLoad_eq]
  · rfl
  · intro now was
    rw [StageTable.put_runOrder, if_pos ((StageState.listed_iff _).mpr now), if_neg fun h => was ((StageState.listed_iff _).mp h)]
  · intro now was
    rw [StageTable.put_runOrder, if_neg fun h => now ((StageState.listed_iff _).mp h), if_pos ((StageState.listed_iff _).mpr was)]
  · intro same
    simp only [← StageState.listed_iff] at same
    rw [StageTable.put_runOrder]
    by_cases was : (table.get st).state.listed = true
    · rw [if_pos (same.mpr was), if_pos was]
    · rw [if_neg fun now => was (same.mp now), if_neg was]

end Sys2Proof.Proofs
end

section
/-! Proofs/StageCommands.lean: the frames about one stage and the expiries of its timers: TRIP RESET, CALL, STOPPED, WITHDRAW and the
timers (O25, O26, O28, O36, O37). -/

namespace Sys2Proof.Machine

/-! ### How a frame is taken -/

theorem slotFields_slot (k : Slot) : slotFields [byteOf k.val] = some k := by
  have small : (byteOf k.val).toNat = k.val := by simp [byteOf]; omega
  simp [slotFields, slotOf, small]

/-- A well-formed frame of a unit that is not ABSENT is taken (R122). -/
theorem State.receive_unitFrame {α : Type} {s : State} {u : UnitId} {fields : Option α} {x : α} (listening : s.listening)
    (present : (s.unit u).presence ≠ .absent) (formed : fields = some x) (invalidSlot : Byte) (slotOfFields : α → Slot)
    (taken : α → State → State) :
    s.receive (State.unitFrame u fields invalidSlot slotOfFields taken) = .next (taken x s).drain := by
  subst formed
  obtain ⟨⟨supplied, -⟩, onBus⟩ := listening
  exact (State.receive_onBus _ s supplied onBus).trans (by simp only [State.unitFrame, present, if_false])

section
variable {s : State} {st : StageId} (listening : s.listening) (present : (s.unit st.unit).presence ≠ .absent)
include listening present

theorem State.exec_call : exec (.call st.unit [byteOf st.slot.val]) s = .next (s.takeCall st).drain :=
  State.receive_unitFrame listening present (slotFields_slot _) _ _ _

theorem State.exec_withdraw : exec (.withdraw st.unit [byteOf st.slot.val]) s = .next (s.takeWithdraw st).drain :=
  State.receive_unitFrame listening present (slotFields_slot _) _ _ _

theorem State.exec_stopped : exec (.stopped st.unit [byteOf st.slot.val]) s = .next (s.takeStopped st).drain :=
  State.receive_unitFrame listening present (slotFields_slot _) _ _ _

end

/-- With no notice left, a drain changes nothing. -/
theorem State.next_drain {s : State} (settled : s.causes = []) :
    (.next s.drain : Host.Outcome State Fault Refusal) = .next s := congrArg _ (s.drain_none settled)

theorem State.give_settled {s : State} (settled : s.causes = []) (c : Cause) : s.give c = { s with causes := [c] } := by
  unfold State.give; rw [settled]; rfl

/-- The pacing period of the mode (R93, R95). -/
theorem State.pacingPeriod_eq (s : State) : s.pacingPeriod =
    1000 * if s.mode = .replay then s.setting .restartStaggerPeriod else s.setting .staggerPeriod := by
  unfold State.pacingPeriod
  split <;> rfl

/-! ### Releases and withdrawals -/

/-- The record a release leaves (R16, R24, R3). -/
def Stage.releasedBy (stored : Profile) (r : Stage) : Stage :=
  { r with state := .idle, rest := 1000 * r.working.minOff, run := 0, handshake := 0, token := none,
           working := if r.pendingProfile then stored else r.working, pendingProfile := false }

theorem State.releaseStage_eq (st : StageId) (s : State) : s.releaseStage st =
    { s with stages := s.stages.put st ((s.stage st).releasedBy (s.store.profile st)),
             causes := s.causes ++ (s.stage st).releaseNotices } := by
  simp only [State.releaseStage, State.restLoaded_eq]
  rw [State.onStage_congr (g := Stage.releasedBy (s.store.profile st)) (by simp only [Stage.copyPending_eq]; rfl)]
  simp [State.give, Stage.releaseNotices]
  rfl

/-- The record a withdrawal leaves: the token inside a window of the confirm timeout (R9, R14). -/
def Stage.withdrawnBy (stored : Profile) (window : Nat) (r : Stage) : Stage :=
  { r with state := .idle, run := 0, handshake := 0, withdrawn := r.token, token := none, window := 1000 * window,
           withdrawnByReplay := r.rosterFlag, rosterFlag := false,
           working := if r.pendingProfile then stored else r.working, pendingProfile := false }

/-- The state with a stage's permit withdrawn, before the notices (R9). -/
def State.withdrawn (s : State) (st : StageId) : State :=
  { s with stages := s.stages.put st ((s.stage st).withdrawnBy (s.store.profile st) (s.setting .confirmTimeout)) }

theorem State.withdrawPermit_eq (st : StageId) (s : State) : s.withdrawPermit st =
    (if (s.stage st).rosterFlag then (s.withdrawn st).replayDeclined st else s.withdrawn st).give (.pass .stageChange) := by
  simp only [State.withdrawPermit]
  rw [State.onStage_congr (g := Stage.withdrawnBy (s.store.profile st) (s.setting .confirmTimeout))
    (by simp only [Stage.copyPending_eq]; rfl)]
  rfl

/-- Outside REPLAY, or for a permit of a unit's call, a withdrawal changes the record and gives one notice (R14, R153). -/
theorem State.withdrawPermit_plain {s : State} {st : StageId} (plain : (s.stage st).rosterFlag = false ∨ s.mode ≠ .replay) :
    s.withdrawPermit st = (s.withdrawn st).give (.pass .stageChange) := by
  rw [State.withdrawPermit_eq]
  split
  · next flag =>
    have notReplay : (s.withdrawn st).mode ≠ .replay := plain.resolve_left (by simp [flag])
    rw [State.replayDeclined, if_neg notReplay]
  · rfl

/-- The roster once a stage's replay permit has been withdrawn (R153). -/
def State.declineRoster (s : State) (st : StageId) : State :=
  s.onModes fun d => { d with roster := markRoster st .restored .dropped d.roster }

/-- In REPLAY the withdrawal of a replay permit marks the roster, and the feeder feeds (R153). -/
theorem State.withdrawPermit_replay {s : State} {st : StageId} (flag : (s.stage st).rosterFlag = true) (replay : s.mode = .replay) :
    s.withdrawPermit st =
      ((((s.withdrawn st).declineRoster st).bump .replayDeclines).feed).give (.pass .stageChange) := by
  have inReplay : (s.withdrawn st).mode = .replay := replay
  rw [State.withdrawPermit_eq, if_pos flag, State.replayDeclined, if_pos inReplay]
  rfl

/-! ### A DROPPED roster entry and the feeder -/

/-- Feeding leaves a resolved entry as it stands, its stage, and what the queue holds for it (R150). -/
theorem feedEntries_resolved {R : List RosterEntry} {d : RosterEntry} (x : State) (mem : d ∈ R) (resolved : d.resolved)
    (distinct : (R.map RosterEntry.stage).Nodup) :
    d ∈ (feedEntries 0 R x).1 ∧ (feedEntries 0 R x).2.stage d.stage = x.stage d.stage ∧
      ∀ c ∈ (feedEntries 0 R x).2.calls.entries, c.stage = d.stage → ∃ e ∈ x.calls.entries, e.stage = d.stage := by
  have unwaiting : d.outcome ≠ .waiting := fun h => by simp [RosterEntry.resolved, h] at resolved
  have other : ∀ {done rest e}, d ∈ done ++ e :: rest → ((done ++ e :: rest).map RosterEntry.stage).Nodup →
      e.outcome = .waiting → (∀ e' : RosterEntry, d ∈ done ++ e' :: rest) ∧ d.stage ≠ e.stage := by
    intro done rest e mem distinct waiting
    have rest' : d ∈ done ++ rest := by
      rcases List.mem_append.mp mem with h | h
      · exact List.mem_append.mpr (.inl h)
      · rcases List.mem_cons.mp h with rfl | h
        · exact absurd waiting unwaiting
        · exact List.mem_append.mpr (.inr h)
    refine ⟨fun e' => ?_, fun same => ?_⟩
    · simp only [List.mem_append, List.mem_cons] at rest' ⊢
      exact rest'.imp_right .inr
    · have moved := (List.perm_middle.map RosterEntry.stage).nodup_iff.mp distinct
      exact (List.nodup_cons.mp moved).1 (same ▸ List.mem_map_of_mem rest')
  have kept := feedEntries_induction (fun R' y => (d ∈ R' ∧ (R'.map RosterEntry.stage).Nodup) ∧ y.stage d.stage = x.stage d.stage ∧
      ∀ c ∈ y.calls.entries, c.stage = d.stage → ∃ e ∈ x.calls.entries, e.stage = d.stage)
    (fun done e rest y ⟨⟨mem, distinct⟩, stage, calls⟩ ⟨waiting, _⟩ _ => by
      obtain ⟨stays, apart⟩ := other mem distinct waiting
      refine ⟨⟨stays _, by simpa using distinct⟩, ?_, fun c hc same => ?_⟩
      · rw [State.stage_fedBy, if_neg apart, stage]
      · rcases (y.fedBy_entries e.stage).1 c hc with eq | ⟨e', he, eq⟩
        · exact absurd (same.symm.trans (congrArg CallEntry.stage eq)) apart
        · exact calls e' he ((congrArg CallEntry.stage eq).symm.trans same))
    (fun done e rest y ⟨⟨mem, distinct⟩, stage, calls⟩ ⟨waiting, _⟩ _ =>
      ⟨⟨(other mem distinct waiting).1 _, by simpa using distinct⟩, stage, calls⟩)
    [] R x ⟨⟨mem, distinct⟩, rfl, fun c hc same => ⟨c, hc, same⟩⟩
  exact ⟨kept.1.1, kept.2⟩

/-- The feeder leaves a resolved entry as it stands, or finishes the roster; its stage, and what the queue holds for it, it leaves
alone (R150, R152). -/
theorem State.feed_resolved {x : State} {d : RosterEntry} (replay : x.mode = .replay) (mem : d ∈ x.modes.roster)
    (resolved : d.resolved) (distinct : (x.modes.roster.map RosterEntry.stage).Nodup) :
    x.feed.stage d.stage = x.stage d.stage ∧
      (∀ c ∈ x.feed.calls.entries, c.stage = d.stage → ∃ e ∈ x.calls.entries, e.stage = d.stage) ∧
      ((x.feed.mode = .replay ∧ d ∈ x.feed.modes.roster) ∨ (x.feed.mode = .coordinating ∧ x.feed.modes.roster = [])) := by
  obtain ⟨stays, stage, calls⟩ := feedEntries_resolved x mem resolved distinct
  have modes := feedEntries_modes x.modes.roster x
  rw [State.feed_replay replay]
  generalize (feedEntries 0 x.modes.roster x).1 = R at *
  generalize (feedEntries 0 x.modes.roster x).2 = y at *
  let z := y.onModes fun d => { d with roster := R }
  refine ⟨?_, ?_, ?_⟩
  · rw [← stage]; simp [State.stage]
  · simpa using calls
  · rcases z.advanceRead_cases with ⟨⟨_, after⟩, -⟩ | ⟨passed, later, -, -, after⟩
    · exact .inr ⟨by rw [State.mode, after], by rw [after]⟩
    · exact .inl ⟨by rw [State.mode, after]; exact (congrArg Modes.mode modes).trans replay, by rw [after]; exact stays⟩

theorem mem_markRoster {st : StageId} {now next : RosterOutcome} {R : List RosterEntry}
    (mem : ({ stage := st, outcome := now } : RosterEntry) ∈ R) :
    ({ stage := st, outcome := next } : RosterEntry) ∈ markRoster st now next R :=
  List.mem_map.mpr ⟨_, mem, if_pos ⟨rfl, rfl⟩⟩

theorem markRoster_stages (st : StageId) (now next : RosterOutcome) (R : List RosterEntry) :
    (markRoster st now next R).map RosterEntry.stage = R.map RosterEntry.stage := by
  rw [markRoster, List.map_map]
  refine List.map_congr_left fun e _ => ?_
  simp only [Function.comp]
  split <;> rfl

/-- What the withdrawal of a replay permit leaves in REPLAY (R153). -/
theorem State.declineRoster_feed {s : State} {st : StageId} (replay : s.mode = .replay)
    (distinct : (s.modes.roster.map RosterEntry.stage).Nodup)
    (restored : ({ stage := st, outcome := .restored } : RosterEntry) ∈ s.modes.roster) :
    let p := ((s.withdrawn st).declineRoster st).bump .replayDeclines |>.feed
    p.stage st = (s.stage st).withdrawnBy (s.store.profile st) (s.setting .confirmTimeout) ∧
      ((p.mode = .replay ∧ ({ stage := st, outcome := .dropped } : RosterEntry) ∈ p.modes.roster) ∨
        (p.mode = .coordinating ∧ p.modes.roster = [])) := by
  intro p
  obtain ⟨stage, -, roster⟩ := State.feed_resolved (x := ((s.withdrawn st).declineRoster st).bump .replayDeclines)
    (d := { stage := st, outcome := .dropped }) replay (mem_markRoster restored) (.inr rfl)
    ((markRoster_stages _ _ _ _).symm ▸ distinct)
  exact ⟨stage.trans (StageTable.get_put_self _ _ _), roster⟩

/-! ### Calls -/

/-- What placing a notice makes of the link and the counters depends on these alone (R161). -/
theorem State.place_eq (n : Notice) {s x : State} (link : x.link = s.link) (counters : x.counters = s.counters) :
    x.place n = { x with link := (s.place n).link, counters := (s.place n).counters } := by
  have room : x.noticeRoom = s.noticeRoom := by unfold State.noticeRoom; rw [link]
  simp only [State.place, room]
  split
  · simp [State.enqueue, State.onLink, link, counters]
  · simp [State.bump, link, counters]

theorem State.place_link (n : Notice) {s x : State} (link : x.link = s.link) : (x.place n).link = (s.place n).link := by
  have room : x.noticeRoom = s.noticeRoom := by unfold State.noticeRoom; rw [link]
  simp only [State.place, room]
  split <;> simp [State.enqueue, link]

/-- The newest entry stands after every entry of its class or a more important one and before the rest (R65). -/
theorem insertEntry_newest {e : CallEntry} {l : List CallEntry} (ordered : l.Pairwise fun a b => a.before b = true)
    (newest : ∀ x ∈ l, x.stamp < e.stamp) :
    insertEntry e l = l.filter (fun x => decide (x.cls ≤ e.cls)) ++ [e] ++ l.filter fun x => decide (e.cls < x.cls) := by
  induction l with
  | nil => simp [insertEntry]
  | cons x rest ih =>
    obtain ⟨first, ordered⟩ := List.pairwise_cons.mp ordered
    have stamp := newest x (by simp)
    have before : e.before x = true ↔ e.cls < x.cls := by
      simp only [CallEntry.before, Bool.or_eq_true, Bool.and_eq_true, decide_eq_true_eq, beq_iff_eq]
      omega
    by_cases more : e.cls < x.cls
    · have all : ∀ y ∈ rest, e.cls < y.cls := fun y hy => by
        have := first y hy
        simp only [CallEntry.before, Bool.or_eq_true, Bool.and_eq_true, decide_eq_true_eq, beq_iff_eq] at this
        omega
      have none : (x :: rest).filter (fun y => decide (y.cls ≤ e.cls)) = [] := by
        rw [List.filter_eq_nil_iff]
        simpa [more] using all
      have rest' : (x :: rest).filter (fun y => decide (e.cls < y.cls)) = x :: rest := by
        rw [List.filter_eq_self]
        simpa [more] using all
      rw [insertEntry, if_pos (before.mpr more), none, rest']
      rfl
    · rw [insertEntry, if_neg (fun h => more (before.mp h)), ih ordered fun y hy => newest y (by simp [hy])]
      simp [more, Nat.le_of_not_lt more]

/-- The counters once the congestion flag has come to be set or clear: an onset where it was clear and is set (R76). -/
def State.onsetCounters (s : State) (congested : Bool) : Vector Nat 54 :=
  if congested = true ∧ s.calls.congested = false then (s.bump .congestionOnsets).counters else s.counters

/-- Whether a queue of so many entries is congested (R76). -/
def State.congestedAt (s : State) (length : Nat) : Bool := decide (s.setting .congestionThreshold ≤ length)

/-- Entries set form the congestion flag and count its onset (R76). -/
theorem State.setEntries_eq (entries : List CallEntry) (s : State) : s.setEntries entries =
    { s with
      calls := { s.calls with entries := entries, congested := s.congestedAt entries.length }
      counters := s.onsetCounters (s.congestedAt entries.length) } := by
  simp only [State.setEntries, State.formCongestion, State.onsetCounters, Bool.and_eq_true, Bool.not_eq_true']
  split
  · next onset => rw [if_pos (show s.congestedAt entries.length = true ∧ s.calls.congested = false from onset)]; rfl
  · next none => rw [if_neg (show ¬ (s.congestedAt entries.length = true ∧ s.calls.congested = false) from none)]; rfl

/-- The entry a call makes (R65, R67). -/
def State.newEntry (s : State) (st : StageId) (cls : Nat) (replay : Bool) : CallEntry :=
  { stage := st, cls := cls, stamp := s.calls.arrival, waitAge := 0, passedOver := 0, replay := replay }

/-- The queue with an entry made: at the largest stamp all entries are restamped in order (R66). -/
def State.entered (s : State) (st : StageId) (cls : Nat) (replay : Bool) : CallQueue :=
  let placed := insertEntry (s.newEntry st cls replay) s.calls.entries
  if s.calls.arrival = max32 then
    { entries := renumber placed, arrival := s.calls.entries.length + 1, congested := s.congestedAt (s.calls.entries.length + 1) }
  else { entries := placed, arrival := s.calls.arrival + 1, congested := s.congestedAt (s.calls.entries.length + 1) }

theorem State.entered_congested (s : State) (st : StageId) (cls : Nat) (replay : Bool) :
    (s.entered st cls replay).congested = s.congestedAt (s.calls.entries.length + 1) := by
  simp only [State.entered]
  split <;> rfl

theorem State.entered_below {s : State} {st : StageId} {cls : Nat} {replay : Bool} (below : s.calls.arrival ≠ max32) :
    s.entered st cls replay = { entries := insertEntry (s.newEntry st cls replay) s.calls.entries
                                arrival := s.calls.arrival + 1
                                congested := s.congestedAt (s.calls.entries.length + 1) } :=
  if_neg below

theorem State.entered_top {s : State} {st : StageId} {cls : Nat} {replay : Bool} (top : s.calls.arrival = max32) :
    s.entered st cls replay = { entries := renumber (insertEntry (s.newEntry st cls replay) s.calls.entries)
                                arrival := s.calls.entries.length + 1
                                congested := s.congestedAt (s.calls.entries.length + 1) } :=
  if_pos top

theorem State.enterCall_eq (st : StageId) (cls : Nat) (replay : Bool) (s : State) : s.enterCall st cls replay =
    { s with calls := s.entered st cls replay,
             counters := s.onsetCounters (s.congestedAt (s.calls.entries.length + 1)) } := by
  have length : (insertEntry (s.newEntry st cls replay) s.calls.entries).length = s.calls.entries.length + 1 :=
    (insertEntry_perm _ _).length_eq
  have renumbered : ∀ l, (renumber l).length = l.length := fun l => by simp [renumber]
  have entered : s.enterCall st cls replay = if s.calls.arrival = max32 then
      (s.onCalls fun q => { q with arrival := (insertEntry (s.newEntry st cls replay) s.calls.entries).length }).setEntries
        (renumber (insertEntry (s.newEntry st cls replay) s.calls.entries))
      else (s.onCalls fun q => { q with arrival := q.arrival + 1 }).setEntries
        (insertEntry (s.newEntry st cls replay) s.calls.entries) := rfl
  rw [entered]
  simp only [State.entered]
  generalize insertEntry (s.newEntry st cls replay) s.calls.entries = placed at length
  split
  · rw [State.setEntries_eq, renumbered, length]; rfl
  · rw [State.setEntries_eq, length]; rfl

/-- An accepted CALL (R12). -/
theorem State.acceptCall_eq (st : StageId) (s : State) : s.acceptCall st =
    State.give (.pass .entry) (State.place (.defer st.unit (byteOf st.slot.val) .queued)
      { s with
        stages := s.stages.put st { s.stage st with state := .queued }
        calls := s.entered st (s.stage st).working.shedClass false
        counters := s.onsetCounters (s.congestedAt (s.calls.entries.length + 1)) }) := by
  rw [State.acceptCall, State.enterCall_eq]
  rfl

end Sys2Proof.Machine

namespace Sys2Proof.Proofs
open Sys2Proof.Machine

/-- Settles O37: each expiry acts where its timer runs, and otherwise not. -/
theorem timersExpire : Obligations.TimersExpire := by
  intro s st ⟨supplied, settled⟩ r period
  have idle : (.next s.drain : Host.Outcome State Fault Refusal) = .next s := State.next_drain settled
  refine ⟨fun runs => ?_, fun stops => ?_, fun running runs => ?_, fun stops => ?_, fun runs => ?_, fun stops => ?_,
    fun gate runs => ?_, fun stops => ?_, ?_⟩
  · refine (State.take_supplied _ s supplied).trans ?_
    rw [State.restExpires, if_pos runs, State.give_settled (by exact settled)]; rfl
  · refine (State.take_supplied _ s supplied).trans ?_
    rw [State.restExpires, if_neg (by exact stops.symm ▸ Nat.lt_irrefl 0)]; exact idle
  · refine (State.take_supplied _ s supplied).trans ?_
    rw [State.runExpires, if_pos ⟨running, runs⟩, State.give_settled (by exact settled)]; rfl
  · refine (State.take_supplied _ s supplied).trans ?_
    rw [State.runExpires, if_neg fun h => stops.elim (fun h' => h' h.1) (fun h' => absurd h' (Nat.ne_of_gt h.2))]
    exact idle
  · refine (State.take_quiet _ s supplied ?_).trans ?_
    · rw [State.windowExpires, if_pos runs]; exact settled
    · rw [State.windowExpires, if_pos runs]; rfl
  · refine (State.take_supplied _ s supplied).trans ?_
    rw [State.windowExpires, if_neg (by exact stops.symm ▸ Nat.lt_irrefl 0)]; exact idle
  · refine (State.take_supplied _ s supplied).trans ?_
    rw [State.startSlotExpires, if_pos ⟨gate, runs⟩, State.give_settled (by exact settled)]
    rw [s.pacingPeriod_eq]; rfl
  · refine (State.take_supplied _ s supplied).trans ?_
    rw [State.startSlotExpires, if_neg fun h => stops.elim (fun h' => by rw [h'] at h; exact nomatch h.1)
      (fun h' => absurd h' (Nat.ne_of_gt h.2))]
    exact idle
  · exact State.take_quiet _ s supplied settled

/-- Settles O28: a release of a RUNNING or STOPPING stage (`State.releaseStage_eq`), a decline of a GRANTED one. -/
theorem stopsAreTaken : Obligations.StopsAreTaken := by
  intro s st listening present r stopped released
  have taken := State.exec_stopped listening present
  have settled : s.causes = [] := listening.1.2
  have release : s.releaseStage st = { s with stages := s.stages.put st released, causes := r.releaseNotices } := by
    rw [State.releaseStage_eq, settled]; rfl
  refine ⟨fun runs => ?_, fun granted => ?_, fun rests => ?_⟩
  · have eq : s.takeStopped st = s.releaseStage st := by
      rcases runs with h | h <;> simp only [State.takeStopped, h, r]
    rw [taken, eq, release]; rfl
  · have granted' : (s.stage st).state = .granted := granted
    rw [taken, State.exec_withdraw listening present]
    simp only [State.takeStopped, State.takeWithdraw, granted']
  · have eq : s.takeStopped st = s := by
      rcases rests with h | h | h <;> simp only [State.takeStopped, h, r]
    rw [taken, eq]; exact State.next_drain settled

/-- Settles O36: a lapse is a withdrawal with a unit error unless the roster flag was set; a STOP goes again before its error. -/
theorem handshakesTimeOut : Obligations.HandshakesTimeOut := by
  intro s st ⟨supplied, settled⟩ r declined again reloaded
  have idle : (.next s.drain : Host.Outcome State Fault Refusal) = .next s := State.next_drain settled
  have given : (s.withdrawn st).give (.pass .stageChange) =
      { s with stages := s.stages.put st declined, causes := [.pass .stageChange] } :=
    State.give_settled (s := s.withdrawn st) settled _
  have lapses : r.state = .granted → 0 < r.handshake →
      exec (.confirmTimeout st) s = .next (s.lapse st).drain := fun granted runs =>
    (State.take_supplied _ s supplied).trans (by rw [State.confirmExpires, if_pos ⟨granted, runs⟩])
  have resends : r.state = .stopping → 0 < r.handshake →
      exec (.stopTimeout st) s = .next ((reloaded.resendStop st).unitError st.unit).drain := fun stopping runs =>
    (State.take_supplied _ s supplied).trans (by rw [State.stopExpires, if_pos ⟨stopping, runs⟩]; rfl)
  have same : reloaded.stage st = { r with handshake := 1000 * s.setting .stopTimeout } := s.stage_onStage_self st _
  have resend : reloaded.resendStop st =
      if reloaded.stopRoom then reloaded.placeStop again else reloaded.bump .stopResendsDropped := by
    simp only [State.resendStop, same]; rfl
  refine ⟨fun granted runs flag => ?_, fun granted runs flag notReplay => ?_, fun granted runs flag replay roster restored => ?_,
    fun stops => ?_, fun stopping runs empty => ?_, fun stopping runs taken room => ?_, fun stopping runs taken full => ?_,
    fun stops => ?_⟩
  · rw [lapses granted runs, State.lapse, State.withdrawPermit_plain (.inl flag), given]
    simp only [show (s.stage st).rosterFlag = false from flag]
    rfl
  · rw [lapses granted runs, State.lapse, State.withdrawPermit_plain (.inr notReplay), given]
    simp only [show (s.stage st).rosterFlag = true from flag]
    rfl
  · obtain ⟨stage, rosterAfter⟩ := State.declineRoster_feed replay roster.1 restored
    refine ⟨_, ?_, rfl, stage, ?_, rosterAfter⟩
    · rw [lapses granted runs, State.lapse, State.withdrawPermit_replay flag replay, if_pos flag]; rfl
    · simp
  · refine (State.take_supplied _ s supplied).trans ?_
    rw [State.confirmExpires, if_neg fun h => stops.elim (fun h' => h' h.1) (fun h' => absurd h' (Nat.ne_of_gt h.2))]
    exact idle
  · rw [resends stopping runs, resend, if_pos (reloaded.stopRoom_iff.mpr (.inl empty)),
      State.placeStop_empty (s := reloaded) empty]
    rfl
  · have placed : reloaded.placeStop again = reloaded.place (.stop again) :=
      (State.placeStop_taken (s := reloaded) taken again).trans (State.place_eq_enqueue (s := reloaded) room _).symm
    rw [resends stopping runs, resend, if_pos (reloaded.stopRoom_iff.mpr (.inr room)), placed]
  · have closed : ¬ reloaded.stopRoom = true := fun room =>
      (reloaded.stopRoom_iff.mp room).elim taken (Nat.not_lt_of_le full)
    rw [resends stopping runs, resend, if_neg closed]
  · refine (State.take_supplied _ s supplied).trans ?_
    rw [State.stopExpires, if_neg fun h => stops.elim (fun h' => h' h.1) (fun h' => absurd h' (Nat.ne_of_gt h.2))]
    exact idle

/-- Settles O25: the stage's state decides the DEFER; an entry made is the newest of its class (`insertEntry_newest`). -/
theorem callsAreTaken : Obligations.CallsAreTaken := by
  intro s st listening present r call answered
  have settled : s.causes = [] := listening.1.2
  have taken : exec call s = .next (s.takeCall st).drain := State.exec_call listening present
  have placed : ∀ (n : Notice) (x : State), x.causes = [] → s.takeCall st = x.place n → exec call s = .next (x.place n) :=
    fun n x none eq => by
      rw [taken, eq]
      exact State.next_drain (by simpa using none)
  refine ⟨fun idle none => ?_, fun idle kind full => ?_, fun h => ?_, fun h => ?_, fun h => ?_, fun h => ?_, fun h => ?_,
    fun idle kind room exact_ => ?_⟩
  · exact placed _ _ settled (by simp only [State.takeCall, show (s.stage st).state = _ from idle,
      if_pos (show (s.stage st).working.kind = .none from none)]; rfl)
  · exact placed _ (s.bump .queueFullRefusals) settled (by simp only [State.takeCall, show (s.stage st).state = _ from idle,
      if_neg (show (s.stage st).working.kind ≠ .none from kind), if_pos (show callCapacity ≤ s.calls.entries.length from full)]; rfl)
  · exact placed _ _ settled (by simp only [State.takeCall, show (s.stage st).state = _ from h]; rfl)
  · exact placed _ _ settled (by simp only [State.takeCall, show (s.stage st).state = _ from h]; rfl)
  · exact placed _ _ settled (by simp only [State.takeCall, show (s.stage st).state = _ from h]; rfl)
  · exact placed _ _ settled (by simp only [State.takeCall, show (s.stage st).state = _ from h]; rfl)
  · exact placed _ _ settled (by simp only [State.takeCall, show (s.stage st).state = _ from h]; rfl)
  · obtain ⟨-, -, -, ordered, below, -, -⟩ := exact_
    have accepted : s.takeCall st = s.acceptCall st := by
      simp only [State.takeCall, show (s.stage st).state = _ from idle, if_neg (show (s.stage st).working.kind ≠ .none from kind),
        if_neg (Nat.not_le_of_lt (show s.calls.entries.length < callCapacity from room))]
    have placed := insertEntry_newest (e := s.newEntry st r.working.shedClass false) ordered below
    have flag := s.entered_congested st r.working.shedClass false
    let onset := if (s.entered st r.working.shedClass false).congested = true ∧ s.calls.congested = false then
      s.bump .congestionOnsets else s
    have onsetLink : onset.link = s.link := by simp only [onset]; split <;> rfl
    have onsetCounters : s.onsetCounters (s.congestedAt (s.calls.entries.length + 1)) = onset.counters := by
      simp only [onset, State.onsetCounters, flag]; split <;> rfl
    have eq : s.acceptCall st = { s with
        stages := s.stages.put st { r with state := .queued }
        calls := s.entered st r.working.shedClass false
        link := (answered .queued s).link
        counters := (answered .queued onset).counters
        causes := [.pass .entry] } := by
      have sent := State.place_eq (.defer st.unit (byteOf st.slot.val) .queued) (s := onset) (x := { s with
        stages := s.stages.put st { r with state := .queued }
        calls := s.entered st r.working.shedClass false
        counters := s.onsetCounters (s.congestedAt (s.calls.entries.length + 1)) }) onsetLink.symm onsetCounters
      rw [State.place_link _ onsetLink] at sent
      rw [State.acceptCall_eq]
      exact (congrArg (State.give (.pass .entry)) sent).trans (State.give_settled (by exact settled) _)
    refine ⟨s.acceptCall st, by rw [taken, accepted], by rw [eq], by rw [eq], by rw [eq]; exact flag, fun below' => ?_,
      fun top => ?_⟩
    · rw [eq]
      have entered := State.entered_below (st := st) (cls := r.working.shedClass) (replay := false) (Nat.ne_of_lt below')
      exact ⟨(congrArg CallQueue.entries entered).trans placed, congrArg CallQueue.arrival entered⟩
    · rw [eq]
      have entered := State.entered_top (st := st) (cls := r.working.shedClass) (replay := false) top
      exact ⟨(congrArg CallQueue.entries entered).trans (congrArg renumber placed), congrArg CallQueue.arrival entered⟩

end Sys2Proof.Proofs
end

section
/-! Proofs/TripResets.lean: TRIP RESET and the clearing of TRIPPED stages (O30). -/

namespace Sys2Proof.Machine

theorem StageTable.ext {t t' : StageTable} (records : t.records = t'.records) (run : t.cRun = t'.cRun)
    (pend : t.cPend = t'.cPend) (order : t.runOrder = t'.runOrder) : t = t' := by
  obtain ⟨_, _, _, _⟩ := t
  subst records run pend order
  rfl

/-- A change of record between unlisted states changes the records alone (R10, R11). -/
theorem State.onStage_records (x : State) {st : StageId} {f : Stage → Stage} (now : (f (x.stage st)).state.listed = false)
    (was : (x.stage st).state.listed = false) :
    x.onStage st f = { x with stages := { x.stages with records := (x.onStage st f).stages.records } } := by
  obtain ⟨run, pend, order⟩ := x.stages.put_unlisted_unlisted st (f (x.stage st)) now was
  have table : (x.onStage st f).stages = { x.stages with records := (x.onStage st f).stages.records } :=
    StageTable.ext rfl run pend order
  exact congrArg (fun t => { x with stages := t }) table

/-- The record a TRIP RESET leaves of a stage it names: a TRIPPED one is cleared, its rest running on (R26, R3). -/
def Stage.resetBy (stored : Profile) (r : Stage) : Stage := if r.state = .tripped then r.clearedBy stored else r

/-- From s to x the TRIPPED stages of l have been cleared, and nothing else has changed. -/
structure State.TripsReset (s x : State) (l : List StageId) : Prop where
  frame : x = { s with stages := { s.stages with records := x.stages.records } }
  stage : ∀ st, x.stage st = if st ∈ l then (s.stage st).resetBy (s.store.profile st) else s.stage st

/-- One more stage is named. -/
theorem State.TripsReset.next {s x : State} {l : List StageId} (c : s.TripsReset x l) {st : StageId} (new : st ∉ l) :
    s.TripsReset (x.clearStage st) (l ++ [st]) := by
  have was : x.stage st = s.stage st := by rw [c.stage, if_neg new]
  have store : x.store = s.store := by rw [c.frame]
  by_cases tripped : (s.stage st).state = .tripped
  · have is : (x.stage st).state = .tripped := was ▸ tripped
    have eq : x.clearStage st = x.onStage st (Stage.resetBy (s.store.profile st)) := by
      rw [State.clearStage, if_pos is]
      refine State.onStage_congr ?_
      rw [Stage.copyPending_eq, Stage.resetBy, if_pos is, Stage.clearedBy, is, store]
    have unlisted : ((x.stage st).resetBy (s.store.profile st)).state.listed = false := by
      rw [Stage.resetBy, if_pos is]; exact Stage.clearedBy_unlisted _ (.inl is)
    have table := x.onStage_records (f := Stage.resetBy (s.store.profile st)) unlisted (by rw [is]; rfl)
    rw [eq]
    refine ⟨?_, fun st' => ?_⟩
    · rw [table, c.frame]
    · rw [State.stage_onStage]
      by_cases same : st' = st
      · simp [same, was]
      · simp [same, c.stage]
  · have eq : x.clearStage st = x := if_neg (was ▸ tripped)
    rw [eq]
    refine ⟨c.frame, fun st' => ?_⟩
    by_cases same : st' = st
    · subst same; simp [was, Stage.resetBy, tripped]
    · simp [c.stage, same]

/-- The stages of a list that names none twice, cleared one after another. -/
theorem State.clearStage_foldl (s : State) (l : List StageId) (distinct : l.Nodup) :
    s.TripsReset (l.foldl (fun s st => s.clearStage st) s) l := by
  induction l using List.reverseRecOn with
  | nil => exact ⟨rfl, by simp⟩
  | append_singleton l st ih =>
    obtain ⟨new, distinct⟩ := List.nodup_cons.mp (List.perm_append_singleton st l |>.nodup_iff.mp distinct)
    rw [List.foldl_concat]
    exact (ih distinct).next new

end Sys2Proof.Machine

namespace Sys2Proof.Proofs
open Sys2Proof.Machine

/-- Settles O30: the named stages are cleared one after another (`State.clearStage_foldl`), and CLEAR UNIT clears a TRIPPED stage
in the same way (`State.clearOrRelease_foldl`). -/
theorem trippedStagesAreCleared : Obligations.TrippedStagesAreCleared := by
  refine ⟨fun s u bitmap listening present small => ⟨fun none => ?_, fun some => ?_⟩, fun s u k listening notHalted tripped => ?_⟩
  · obtain ⟨⟨supplied, settled⟩, onBus⟩ := listening
    have unformed : tripResetFields [bitmap] = Option.none := if_neg (by omega)
    have taken : exec (.tripReset u [bitmap]) s = .next ((s.place (.defer u 0 .invalid)).bump .malformedUnitFrames).drain :=
      (State.receive_onBus _ s supplied onBus).trans (by simp only [State.unitFrame, unformed])
    rw [taken]
    exact State.next_drain (by simpa using settled)
  · have cleared := s.clearStage_foldl (namedStages u bitmap) (namedStages_nodup u bitmap)
    have fold : s.takeTripReset u bitmap = (namedStages u bitmap).foldl (fun s st => s.clearStage st) s := by
      rw [namedStages, List.foldl_map]; rfl
    rw [← fold] at cleared
    have taken : exec (.tripReset u [bitmap]) s = .next (s.takeTripReset u bitmap).drain :=
      State.receive_unitFrame listening present (if_pos ⟨by omega, small⟩) _ _ _
    have settled : (s.takeTripReset u bitmap).causes = [] := by rw [cleared.frame]; exact listening.1.2
    refine ⟨_, taken.trans (State.next_drain settled), cleared.frame, fun st => ?_⟩
    simp only [cleared.stage]
    by_cases named : st ∈ namedStages u bitmap
    · obtain ⟨own, bit⟩ := mem_namedStages.mp named
      by_cases tripped : (s.stage st).state = .tripped
      · simp [named, own, bit, tripped, Stage.resetBy, Stage.clearedBy]
      · simp [named, tripped, Stage.resetBy]
    · rw [if_neg named, if_neg fun h => named (mem_namedStages.mpr ⟨h.1, h.2.1⟩)]
  · have cleared := (s.clearOrRelease_foldl (stagesOf u) (stagesOf_nodup u)).stage { unit := u, slot := k }
    rw [if_pos (mem_stagesOf (st := { unit := u, slot := k }).mpr rfl), Stage.clearedBy] at cleared
    refine ⟨_, State.exec_clearUnit listening notHalted u, ?_⟩
    have kept : (s.takeClear u).stage { unit := u, slot := k } =
        ((stagesOf u).foldl State.clearOrRelease s).stage { unit := u, slot := k } := by
      simp [State.takeClear, State.stage]
    rw [kept, cleared]
    simp only [tripped]

end Sys2Proof.Proofs
end

section
/-! Proofs/LeavingCalls.lean: WITHDRAW and STARTED, with which a stage's call leaves the queue (O26, O27). -/

namespace Sys2Proof.Machine

/-! ### A call that leaves -/

/-- An entry removed: the others in order, the congestion flag formed, the marker cleared if it named the stage (R73, R76, R92). -/
theorem State.removeCall_eq (st : StageId) (x : State) : x.removeCall st =
    { x with
      calls := { x.calls with
        entries := x.calls.entries.filter fun e => e.stage != st
        congested := x.congestedAt (x.calls.entries.filter fun e => e.stage != st).length }
      arbiter := { x.arbiter with marker := x.arbiter.marker.filter fun m => m.stage != st }
      counters := x.onsetCounters (x.congestedAt (x.calls.entries.filter fun e => e.stage != st).length) } := by
  rw [State.removeCall, State.setEntries_eq]; rfl

section
variable {x : State} {st : StageId} {e : CallEntry} (call : x.callOf st = some e)
include call

/-- The entry of a unit's call leaves, and in REPLAY alone a replay entry does more (R73, R151). -/
theorem State.dropCall_plain (plain : e.replay = false ∨ x.mode ≠ .replay) : x.dropCall st = x.removeCall st := by
  rcases x.dropCall_cases st with ⟨none, -⟩ | ⟨-, -, -, eq⟩ | ⟨e', call', replay, inReplay, -⟩
  · rw [call] at none; cases none
  · exact eq
  · cases Option.some.inj (call.symm.trans call')
    exact plain.elim (fun h => by rw [replay] at h; cases h) (fun h => absurd inReplay h)

/-- In REPLAY a replay entry leaves for good: its roster entry is marked, and the feeder feeds (R74, R151). -/
theorem State.dropCall_replay (replay : e.replay = true) (inReplay : x.mode = .replay) :
    x.dropCall st = ((x.removeCall st).markRemoved st false).feed := by
  rcases x.dropCall_cases st with ⟨none, -⟩ | ⟨e', call', plain, -⟩ | ⟨-, -, -, -, eq⟩
  · rw [call] at none; cases none
  · cases Option.some.inj (call.symm.trans call')
    exact plain.elim (fun h => by rw [replay] at h; cases h) (fun h => absurd inReplay h)
  · exact eq

end

/-- A stage without an entry drops none. -/
theorem State.dropCall_none {x : State} {st : StageId} (none : x.callOf st = none) : x.dropCall st = x := by
  simp only [State.dropCall, none]

/-- In an exact queue a QUEUED stage has an entry, and no other stage has (R65). -/
theorem State.callOf_queued {s : State} {st : StageId} (calls : s.callsExact) (queued : (s.stage st).state = .queued) :
    ∃ e, s.callOf st = some e := by
  obtain ⟨-, -, entry, -⟩ := calls
  obtain ⟨e, he, own⟩ := List.mem_map.mp ((entry st.unit st.slot).mpr queued)
  cases call : s.callOf st with
  | some e => exact ⟨e, rfl⟩
  | none => exact absurd own (State.callOf_eq_none.mp call e he)

theorem State.callOf_unqueued {s : State} {st : StageId} (calls : s.callsExact) (unqueued : (s.stage st).state ≠ .queued) :
    s.callOf st = none := by
  obtain ⟨-, -, entry, -⟩ := calls
  refine State.callOf_eq_none.mpr fun e he own => unqueued ((entry st.unit st.slot).mp ?_)
  exact List.mem_map.mpr ⟨e, he, own⟩

theorem State.markRemoved_replay {x : State} (st : StageId) (inReplay : x.mode = .replay) : x.markRemoved st false =
    ({ x with modes := { x.modes with
        roster := markRoster st .fed .dropped x.modes.roster, fedCount := x.modes.fedCount - 1 } }).bump .rosterDropped :=
  if_pos inReplay

/-- A replay entry that has left in REPLAY: its stage keeps its record, the queue holds nothing for it, and its roster entry stands
DROPPED, or the roster is finished (R150 to R152). -/
theorem State.leftReplay_feed {x : State} {st : StageId} (inReplay : x.mode = .replay)
    (distinct : (x.modes.roster.map RosterEntry.stage).Nodup) (fed : FedIn x.modes.roster st) :
    let p := ((x.removeCall st).markRemoved st false).feed
    p.stage st = x.stage st ∧ (∀ e ∈ p.calls.entries, e.stage ≠ st) ∧
      ((p.mode = .replay ∧ ({ stage := st, outcome := .dropped } : RosterEntry) ∈ p.modes.roster) ∨
        (p.mode = .coordinating ∧ p.modes.roster = [])) := by
  intro p
  let y := (x.removeCall st).markRemoved st false
  have modes : (x.removeCall st).modes = x.modes := by simp
  have marked := State.markRemoved_replay (x := x.removeCall st) st (by rw [State.mode, modes]; exact inReplay)
  have roster : y.modes.roster = markRoster st .fed .dropped x.modes.roster := by
    show ((x.removeCall st).markRemoved st false).modes.roster = _
    rw [marked, ← modes]; rfl
  have mode : y.mode = .replay := by
    show ((x.removeCall st).markRemoved st false).mode = _
    rw [marked]; exact (congrArg Modes.mode modes).trans inReplay
  have entries : y.calls.entries = x.calls.entries.filter fun e => e.stage != st := by
    show ((x.removeCall st).markRemoved st false).calls.entries = _
    rw [marked, ← State.removeCall_entries]; rfl
  have same : y.stage st = x.stage st := by
    show ((x.removeCall st).markRemoved st false).stage st = _
    rw [marked, ← State.stage_removeCall x st st]; rfl
  obtain ⟨stage, calls, ends⟩ := State.feed_resolved (x := y) (d := { stage := st, outcome := .dropped }) mode
    (roster ▸ mem_markRoster fed) (.inr rfl) (by rw [roster, markRoster_stages]; exact distinct)
  refine ⟨stage.trans same, fun e he own => ?_, ends⟩
  obtain ⟨c, hc, own'⟩ := calls e he own
  rw [entries, List.mem_filter] at hc
  simp [own'] at hc

/-- A QUEUED stage's replay entry is FED in an exact roster (R150). -/
theorem State.fed_of_replay {s : State} {st : StageId} {e : CallEntry} (roster : s.rosterExact) (call : s.callOf st = some e)
    (replay : e.replay = true) : FedIn s.modes.roster st := by
  obtain ⟨-, -, -, -, -, fed, -⟩ := roster
  obtain ⟨mem, own⟩ := State.callOf_eq_some call
  exact (fed st.unit st.slot).mp ⟨e, mem, own, replay⟩

/-! ### Starts -/

theorem startedFields_slot (k : Slot) (token : Byte) : startedFields [byteOf k.val, token] = some (k, token.toNat) := by
  have slot : slotOf (byteOf k.val) = some k := slotFields_slot k
  simp [startedFields, slot]

theorem State.exec_started {s : State} {st : StageId} {token : Byte} (listening : s.listening)
    (present : (s.unit st.unit).presence ≠ .absent) :
    exec (.started st.unit [byteOf st.slot.val, token]) s = .next (s.takeStarted st token.toNat).drain :=
  State.receive_unitFrame listening present (startedFields_slot _ _) _ _ _

/-- The notices a started stage gives: a stage change, and a settled notice for a min-on of 0 (R81, R108, R1). -/
def Stage.startNotices (r : Stage) : List Cause :=
  .pass .stageChange :: if r.working.minOn = 0 then [.check .settled] else []

/-- The record a confirmation leaves (R15). -/
def Stage.confirmedBy (r : Stage) : Stage :=
  { r with state := .running, rest := 0, run := 1000 * r.working.minOn, handshake := 0, rosterFlag := false,
           withdrawn := none, window := 0, withdrawnByReplay := false }

/-- The record an adoption leaves (R15, R22). -/
def Stage.adoptedBy (token : Option Nat) (r : Stage) : Stage :=
  { r with state := .running, rest := 0, run := 1000 * r.working.minOn, token := token, withdrawn := none, window := 0,
           withdrawnByReplay := false }

theorem State.give_runLoaded (r : Stage) (s : State) : (s.give (.pass .stageChange)).runLoaded r.working.minOn =
    { s with causes := s.causes ++ r.startNotices } := by
  unfold State.runLoaded Stage.startNotices
  split <;> simp [State.give]

theorem State.confirmStage_eq (st : StageId) (s : State) : s.confirmStage st =
    { s with stages := s.stages.put st (s.stage st).confirmedBy, causes := s.causes ++ (s.stage st).startNotices } :=
  State.give_runLoaded (s.stage st) (s.onStage st Stage.confirmedBy)

theorem State.adoptStage_eq (st : StageId) (token : Option Nat) (s : State) : s.adoptStage st token =
    let x := ((s.onStage st (Stage.adoptedBy token)).dropCall st).bump .adoptions
    { x with causes := x.causes ++ (s.stage st).startNotices } :=
  State.give_runLoaded (s.stage st) (((s.onStage st (Stage.adoptedBy token)).dropCall st).bump .adoptions)

theorem State.foldl_give (l : List Cause) (x : State) : l.foldl (fun x c => x.give c) x = { x with causes := x.causes ++ l } := by
  induction l generalizing x with
  | nil => simp
  | cons c l ih => rw [List.foldl_cons, ih]; simp [State.give]

section
variable {s : State} {st : StageId} {token : Nat}

/-- A STARTED with a matching token, by the stage's state (R15). -/
theorem State.takeStarted_matching (matching : (s.stage st).token = some token ∨
    ((s.stage st).withdrawn = some token ∧ 0 < (s.stage st).window)) :
    ((s.stage st).state = .granted → s.takeStarted st token = s.confirmStage st) ∧
      ((s.stage st).state = .running ∨ (s.stage st).state = .stopping → s.takeStarted st token = s) := by
  have carries : ¬ (s.stage st).carriesCurrent token = true → (s.stage st).carriesWithdrawn token = true := by
    simp only [Stage.carriesCurrent, Stage.carriesWithdrawn, beq_iff_eq, Bool.and_eq_true, decide_eq_true_eq]
    exact matching.resolve_left
  have taken : ∀ {a b : State}, (if (s.stage st).carriesCurrent token = true then a
      else if (s.stage st).carriesWithdrawn token = true then a else b) = a := fun {a b} => by
    split
    · rfl
    · next other => rw [if_pos (carries other)]
  refine ⟨fun granted => ?_, fun runs => ?_⟩
  · simp only [State.takeStarted, granted, taken]
  · rcases runs with h | h <;> simp only [State.takeStarted, h, taken]

/-- A STARTED with the withdrawn token of an IDLE or QUEUED stage, inside its window (R15). -/
theorem State.takeStarted_withdrawn (current : (s.stage st).token ≠ some token)
    (withdrawn : (s.stage st).withdrawn = some token ∧ 0 < (s.stage st).window)
    (waits : (s.stage st).state = .idle ∨ (s.stage st).state = .queued) : s.takeStarted st token =
    if (s.stage st).working.kind = .none then s.sendDefer st .noProfile else s.adoptStage st (some token) := by
  have other : ¬ (s.stage st).carriesCurrent token = true := by simp [Stage.carriesCurrent, current]
  have carries : (s.stage st).carriesWithdrawn token = true := by simp [Stage.carriesWithdrawn, withdrawn]
  rcases waits with h | h <;> simp only [State.takeStarted, h, if_neg other, if_pos carries]

theorem State.takeStarted_bad (current : (s.stage st).token ≠ some token)
    (withdrawn : ¬ ((s.stage st).withdrawn = some token ∧ 0 < (s.stage st).window)) (unheld : (s.stage st).state ≠ .held) :
    s.takeStarted st token = s.badToken st := by
  have other : ¬ (s.stage st).carriesCurrent token = true := by simp [Stage.carriesCurrent, current]
  have none : ¬ (s.stage st).carriesWithdrawn token = true := by simpa [Stage.carriesWithdrawn] using withdrawn
  simp only [State.takeStarted, if_neg other, if_neg none]
  split
  case h_7 h => exact absurd h unheld
  all_goals rfl

end

end Sys2Proof.Machine

namespace Sys2Proof.Proofs
open Sys2Proof.Machine

/-- Settles O26: a QUEUED stage's entry leaves the queue, in REPLAY for good where it is a replay entry; a GRANTED stage declines. -/
theorem withdrawsAreTaken : Obligations.WithdrawsAreTaken := by
  intro s st listening present r withdraw declined
  have settled : s.causes = [] := listening.1.2
  have taken : exec withdraw s = .next (s.takeWithdraw st).drain := State.exec_withdraw listening present
  let y := s.onStage st fun r => { r with state := .idle }
  have drops : r.state = .queued → s.takeWithdraw st = y.dropCall st := fun queued => by
    simp only [State.takeWithdraw, show (s.stage st).state = .queued from queued]; rfl
  have declines : r.state = .granted → s.takeWithdraw st = (s.withdrawPermit st).bump .declines := fun granted => by
    simp only [State.takeWithdraw, show (s.stage st).state = .granted from granted]; rfl
  refine ⟨fun queued calls unreplayed => ?_, fun queued replay calls roster replays => ?_, fun granted plain => ?_,
    fun granted flag replay roster restored => ?_, fun ignored => ?_⟩
  · obtain ⟨e, call⟩ := State.callOf_queued calls queued
    obtain ⟨mem, own⟩ := State.callOf_eq_some call
    have plain : e.replay = false ∨ y.mode ≠ .replay := Decidable.or_iff_not_imp_right.mpr fun replay =>
      unreplayed (of_not_not replay) e mem own
    have eq := (drops queued).trans ((State.dropCall_plain (x := y) call plain).trans (y.removeCall_eq st))
    refine ⟨_, taken.trans (State.next_drain (by rw [eq]; exact settled)), ?_⟩
    rw [eq]
    refine ⟨rfl, rfl, rfl, ?_⟩
    rfl
  · obtain ⟨e, call⟩ := State.callOf_queued calls queued
    obtain ⟨mem, own⟩ := State.callOf_eq_some call
    have eq := (drops queued).trans (State.dropCall_replay (x := y) call (replays e mem own) replay)
    have modes : (y.removeCall st).modes = y.modes := by simp
    have left := State.leftReplay_feed (x := y) replay roster.1 (State.fed_of_replay roster call (replays e mem own))
    refine ⟨_, taken, ?_, ?_⟩
    · rw [eq, State.markRemoved_replay (x := y.removeCall st) st ((congrArg Modes.mode modes).trans replay), y.removeCall_eq st]
      rfl
    · rw [eq]
      exact ⟨left.1.trans (s.stage_onStage_self st _), left.2⟩
  · rw [taken, declines granted, State.withdrawPermit_plain plain, State.give_settled (by exact settled)]
    rfl
  · obtain ⟨stage, rosterAfter⟩ := State.declineRoster_feed replay roster.1 restored
    have record : (s.stage st).withdrawnBy (s.store.profile st) (s.setting .confirmTimeout) = declined true := by
      simp only [Stage.withdrawnBy, show (s.stage st).rosterFlag = true from flag]; rfl
    refine ⟨_, taken, ?_⟩
    rw [declines granted, State.withdrawPermit_replay flag replay]
    refine ⟨?_, stage.trans record, rosterAfter⟩
    rw [State.withdrawn, record]
    rfl
  · have eq : s.takeWithdraw st = s := by
      rcases ignored with h | h | h | h <;> simp only [State.takeWithdraw, show (s.stage st).state = _ from h]
    rw [taken, eq]
    exact State.next_drain settled

/-- Settles O27: a matching token confirms, adopts or is ignored by the stage's state; any other is a bad token. -/
theorem startsAreTaken : Obligations.StartsAreTaken := by
  intro s st token listening present r started answered current withdrawn confirmed adopted notices
  have settled : s.causes = [] := listening.1.2
  have taken : exec started s = .next (s.takeStarted st token.toNat).drain := State.exec_started listening present
  let y := s.onStage st (Stage.adoptedBy (some token.toNat))
  have adopts : r.state = .idle ∨ r.state = .queued → ¬ current → withdrawn → r.working.kind ≠ .none →
      exec started s = .next (State.drain
        (let x := (y.dropCall st).bump .adoptions; { x with causes := x.causes ++ notices })) := fun waits other carried kind => by
    rw [taken, State.takeStarted_withdrawn other carried waits, if_neg kind, State.adoptStage_eq]; rfl
  refine ⟨fun granted matching => ?_, fun runs matching => ?_, fun idle other carried kind calls => ?_,
    fun queued other carried kind calls unreplayed => ?_, fun queued other carried kind calls replay roster replays => ?_,
    fun waits other carried none => ?_, fun unheld other bad flag => ?_, fun unheld other bad flag => ?_⟩
  · rw [taken, (State.takeStarted_matching matching).1 granted, State.confirmStage_eq, settled]
    rfl
  · rw [taken, (State.takeStarted_matching matching).2 runs]
    exact State.next_drain settled
  · have none : y.callOf st = .none :=
      State.callOf_unqueued (s := s) calls (by rw [show (s.stage st).state = .idle from idle]; simp)
    have causes : s.causes ++ notices = notices := by rw [settled]; rfl
    rw [adopts (.inl idle) other carried kind, State.dropCall_none none]
    exact congrArg (fun l => (.next ({ y.bump .adoptions with causes := l } : State).drain : Host.Outcome State Fault Refusal)) causes
  · obtain ⟨e, call⟩ := State.callOf_queued calls queued
    obtain ⟨mem, own⟩ := State.callOf_eq_some call
    have plain : e.replay = false ∨ y.mode ≠ .replay := Decidable.or_iff_not_imp_right.mpr fun replay =>
      unreplayed (of_not_not replay) e mem own
    intro left congested formed
    have causes : s.causes ++ notices = notices := by rw [settled]; rfl
    let z : State := { s with
      stages := s.stages.put st adopted
      calls := { s.calls with entries := left, congested := congested }
      arbiter := { s.arbiter with marker := s.arbiter.marker.filter fun m => m.stage != st }
      counters := formed.counters }
    have removed : y.removeCall st = z := by
      have onset : formed.counters = s.onsetCounters congested :=
        apply_ite State.counters (congested = true ∧ s.calls.congested = false) _ _
      simp only [z]
      rw [y.removeCall_eq st, onset]
      rfl
    rw [adopts (.inr queued) other carried kind, State.dropCall_plain (x := y) call plain, removed]
    exact congrArg (fun l => (.next ({ z.bump .adoptions with causes := l } : State).drain :
      Host.Outcome State Fault Refusal)) causes
  · obtain ⟨e, call⟩ := State.callOf_queued calls queued
    obtain ⟨mem, own⟩ := State.callOf_eq_some call
    have eq := State.dropCall_replay (x := y) call (replays e mem own) replay
    have modes : (y.removeCall st).modes = y.modes := by simp
    have left := State.leftReplay_feed (x := y) replay roster.1 (State.fed_of_replay roster call (replays e mem own))
    rw [← eq] at left
    refine ⟨_, adopts (.inr queued) other carried kind, ?_, left.1.trans (s.stage_onStage_self st _), left.2⟩
    refine Eq.trans ?_ (State.foldl_give ..).symm
    rw [eq, State.markRemoved_replay (x := y.removeCall st) st ((congrArg Modes.mode modes).trans replay),
      y.removeCall_eq st]
    rfl
  · rw [taken, State.takeStarted_withdrawn other carried waits, if_pos none]
    exact State.next_drain (by simpa [State.sendDefer] using settled)
  · rw [taken, State.takeStarted_bad other bad unheld, State.badToken, if_pos flag]
    exact State.next_drain (by simpa [State.sendDefer] using settled)
  · rw [taken, State.takeStarted_bad other bad unheld, State.badToken, if_neg (by simp [show (s.stage st).withdrawnByReplay = false from flag])]
    rfl

end Sys2Proof.Proofs
end

section
/-! Proofs/WriteCompletions.lean: the completion of a write: the value in its cells, and what its owner makes of it (O43). -/

namespace Sys2Proof.Machine

/-! ### The copies that differ -/

/-- In a list that names none twice, a test that only one element can meet leaves that one or none. -/
theorem filter_only {α : Type} [DecidableEq α] {l : List α} {a : α} {test : α → Bool} (distinct : l.Nodup) (mem : a ∈ l)
    (others : ∀ b, b ≠ a → test b = false) : l.filter test = if test a = true then [a] else [] := by
  split
  · next met =>
    have same : l.filter test = l.filter (· = a) := List.filter_congr fun b _ => by
      by_cases own : b = a
      · simp [own, met]
      · simp [own, others b own]
    rw [same, List.filter_eq, List.count_eq_one_of_mem distinct mem]; rfl
  · next unmet =>
    refine List.filter_eq_nil_iff.mpr fun b _ => ?_
    by_cases own : b = a
    · exact own ▸ unmet
    · simp [others b own]

theorem units_nodup : units.Nodup := List.nodup_finRange 24

theorem settings_nodup : Setting.all.Nodup := by decide

theorem allStages_nodup : allStages.Nodup := by
  refine List.nodup_flatMap.mpr ⟨fun u _ => stagesOf_nodup u, units_nodup.imp fun {u v} other => ?_⟩
  exact fun st inU inV => other ((mem_stagesOf.mp inU).symm.trans (mem_stagesOf.mp inV))

theorem filter_none {α : Type} {l : List α} {test : α → Bool} (none : ∀ a, test a = false) : l.filter test = [] :=
  List.filter_eq_nil_iff.mpr fun a _ => by simp [none a]

section
variable {before : Store} {t : State}

/-- Where one profile alone can differ, its stage is told of it (R170). -/
theorem State.notifyChanges_profile {st : StageId} (profiles : ∀ st', st' ≠ st → t.store.profile st' = before.profile st')
    (groups : ∀ u, t.store.group u = before.group u) (settings : ∀ x, t.store.setting x = before.setting x) :
    t.notifyChanges before = if t.store.profile st = before.profile st then t else t.profileChange st := by
  simp only [State.notifyChanges]
  rw [filter_only (a := st) allStages_nodup (mem_allStages st) (fun st' other => by simp [profiles st' other]),
    filter_none (l := units) (fun u => by simp [groups u]), filter_none (l := Setting.all) (fun x => by simp [settings x])]
  by_cases same : t.store.profile st = before.profile st <;> simp [same]

/-- Where one group code alone can differ, its unit is told of it (R170). -/
theorem State.notifyChanges_group {u : UnitId} (profiles : ∀ st, t.store.profile st = before.profile st)
    (groups : ∀ v, v ≠ u → t.store.group v = before.group v) (settings : ∀ x, t.store.setting x = before.setting x) :
    t.notifyChanges before = if t.store.group u = before.group u then t else t.groupChanged u := by
  simp only [State.notifyChanges]
  rw [filter_none (l := allStages) (fun st => by simp [profiles st]),
    filter_only (a := u) units_nodup (mem_units u) (fun v other => by simp [groups v other]),
    filter_none (l := Setting.all) (fun x => by simp [settings x])]
  by_cases same : t.store.group u = before.group u <;> simp [same]

/-- Where one setting alone can differ, its owner is told of it (R170). -/
theorem State.notifyChanges_setting {x : Setting} (profiles : ∀ st, t.store.profile st = before.profile st)
    (groups : ∀ u, t.store.group u = before.group u) (settings : ∀ y, y ≠ x → t.store.setting y = before.setting y) :
    t.notifyChanges before = if t.store.setting x = before.setting x then t else t.settingChanged x := by
  simp only [State.notifyChanges]
  rw [filter_none (l := allStages) (fun st => by simp [profiles st]), filter_none (l := units) (fun u => by simp [groups u]),
    filter_only (a := x) settings_nodup (mem_settings x) (fun y other => by simp [settings y other])]
  by_cases same : t.store.setting x = before.setting x <;> simp [same]

end

theorem Store.group_set (store : Store) (u v : UnitId) (code : Byte) :
    ({ store with groups := store.groups.set u code } : Store).group v = if v = u then code else store.group v := by
  simp only [Store.group]
  split
  · next same => subst same; simp
  · next other => exact Vector.getElem_set_ne _ _ fun same => other (Fin.ext same.symm)

/-! ### The completion -/

/-- The state with the value in its cells, before its owner is told (R170). -/
def State.written (s : State) (item : StoreItem) : State :=
  (s.onStore fun d => (item.placeIn d).complete).bump .writesCompleted

section
variable {s : State} {f : Flight} (powered : s.powered) (flight : s.store.flight = some f)
include powered

theorem State.exec_writeCompletion : exec .writeCompletion s = .next s.writeCompletes.drain :=
  State.take_supplied _ s powered.1

include flight

theorem State.exec_written {item : StoreItem} (operation : f.operation = .write item) :
    exec .writeCompletion s = .next ((s.written item).notifyChanges s.store).drain := by
  obtain ⟨op, ahead⟩ := f
  subst operation
  have eq : s.writeCompletes = (s.written item).notifyChanges s.store := by
    simp only [State.writeCompletes, flight]; rfl
  rw [State.exec_writeCompletion powered, eq]

/-- A completion whose notifications give no notice. -/
theorem State.exec_written_quiet {item : StoreItem} {t : State} (operation : f.operation = .write item)
    (told : (s.written item).notifyChanges s.store = t) (quiet : t.causes = []) :
    exec .writeCompletion s = .next t := by
  rw [State.exec_written powered flight operation, told]
  exact State.next_drain quiet

end

theorem State.counted_onset (x : State) (congested : Bool) :
    (if congested = true ∧ x.calls.congested = false then x.bump .congestionOnsets else x) =
      { x with counters := x.onsetCounters congested } := by
  unfold State.onsetCounters
  split <;> rfl

/-- R129, presence by presence. -/
theorem UnitRec.newThreshold_eq (threshold : Nat) (r : UnitRec) : r.newThreshold threshold = match r.presence with
    | .present => { r with errors := if threshold ≤ r.errors then threshold - 1 else r.errors }
    | .absent => { r with errors := threshold }
    | .unknown | .awaiting => r := by
  obtain ⟨presence, phase, window, period, errors, trip, further, anomaly, group⟩ := r
  cases presence
  · rfl
  · exact (apply_ite (fun n => (⟨.present, phase, window, period, n, trip, further, anomaly, group⟩ : UnitRec)) _ _ _).symm
  · rfl
  · rfl

/-- Only code 1 stands for the setting's level (R59). -/
theorem State.lineLevelOf_other {s x : State} {code : Fin 4} (other : code ≠ 1) : x.lineLevelOf code = s.lineLevelOf code := by
  fin_cases code
  · rfl
  · exact absurd rfl other
  · rfl
  · rfl

end Sys2Proof.Machine

namespace Sys2Proof.Proofs
open Sys2Proof.Machine

/-- Settles O43: the copy that differs is one at most (`State.notifyChanges_profile`, `_group`, `_setting`), and its owner acts on it
by the setting, or by the stage's state. -/
theorem writesComplete : Obligations.WritesComplete := by
  refine ⟨fun s powered none => ?_, fun s f powered flight => ?_⟩
  · rw [State.exec_writeCompletion powered, show s.writeCompletes = s by simp only [State.writeCompletes, none]]
    exact State.next_drain powered.2
  intro stored
  refine ⟨fun erase => ?_, fun u code group => ?_, fun x v setting => ?_, fun st new profile => ?_⟩
  · obtain ⟨op, ahead⟩ := f
    subst erase
    rw [State.exec_writeCompletion powered, show s.writeCompletes = s by simp only [State.writeCompletes, flight]]
    exact State.next_drain powered.2
  · intro t
    have cells : ∀ v, t.store.group v = if v = u then code else s.store.group v := fun v => s.store.group_set u v code
    have told : t.notifyChanges s.store = if t.store.group u = s.store.group u then t else t.groupChanged u :=
      State.notifyChanges_group (fun _ => rfl) (fun v other => (cells v).trans (if_neg other)) (fun _ => rfl)
    have now : t.store.group u = code := (cells u).trans (if_pos rfl)
    rw [State.groupChanged, now] at told
    exact State.exec_written_quiet powered flight group told (by split <;> exact powered.2)
  · intro t
    have cells : ∀ y, t.store.setting y = if y = x then v else s.setting y := fun y => s.store.setting_set x y v
    have told : t.notifyChanges s.store = if t.store.setting x = s.setting x then t else t.settingChanged x :=
      State.notifyChanges_setting (fun _ => rfl) (fun _ => rfl) (fun y other => (cells y).trans (if_neg other))
    have now : t.setting x = v := (cells x).trans (if_pos rfl)
    rw [show t.store.setting x = v from now] at told
    refine ⟨fun same => ?_, fun changed => ?_⟩
    · exact State.exec_written_quiet powered flight setting (told.trans (if_pos same)) powered.2
    have acts : ∀ {y}, t.settingChanged x = y → y.causes = [] → exec .writeCompletion s = .next y := fun {y} eq quiet =>
      State.exec_written_quiet powered flight setting (told.trans ((if_neg changed).trans eq)) quiet
    refine ⟨fun is => ?_, fun is => ?_, fun is => ?_, fun is => ?_, fun is qualified differs => ?_, fun is unqualified lines => ?_,
      fun is => ?_, fun is => ?_, fun is => ?_⟩
    · subst is
      refine acts (by simp only [State.settingChanged, now]; rfl) (by split <;> exact powered.2)
    · subst is
      refine acts (by simp only [State.settingChanged, now]; rfl) powered.2
    · subst is
      refine ⟨_, acts rfl powered.2, rfl, fun u => ?_⟩
      refine (mapTable_get (UnitRec.newThreshold (t.setting .errorThreshold)) s.supervisor.records u.val u.isLt).trans ?_
      rw [now]
      exact UnitRec.newThreshold_eq v (s.unit u)
    · subst is
      refine acts ?_ ?_
      · simp only [State.settingChanged, State.formCongestion, now, Bool.and_eq_true, Bool.not_eq_true']; rfl
      · dsimp only; split <;> exact powered.2
    · subst is
      have level : t.lineLevelOf t.lines.curtail.qualified = v := by
        rw [show t.lines.curtail.qualified = 1 from qualified]; exact now
      have eq : t.settingChanged .curtailLineLevel = _ := (if_neg (by rw [level]; exact differs) : t.deliverCurtail = _)
      rw [level] at eq
      exact acts eq (by simpa [t] using powered.2)
    · subst is
      have level : t.lineLevelOf t.lines.curtail.qualified = s.lineLevelOf s.lines.curtail.qualified :=
        State.lineLevelOf_other unqualified
      have same : t.settingChanged .curtailLineLevel = t :=
        (if_pos (level.trans lines.2.2.2.2.1.symm) : t.deliverCurtail = t)
      exact acts same powered.2
    · subst is
      exact acts (by simp only [State.settingChanged, now]; rfl) (by split <;> exact powered.2)
    · subst is
      exact acts (by simp only [State.settingChanged, now]; rfl) (by split <;> simpa [t] using powered.2)
    · refine acts (y := t) ?_ powered.2
      simp only [List.mem_cons, List.not_mem_nil, or_false] at is
      rcases is with h | h | h | h | h | h | h | h | h | h | h | h | h | h | h | h | h | h <;> subst h <;> rfl
  · intro t r
    obtain ⟨item, operation, placed⟩ : ∃ item, f.operation = .write item ∧
        item.placeIn s.store = { s.store with profiles := s.store.profiles.set st.index new } := by
      rcases profile with ⟨kind, load, surge, cls, lead, operation, rfl⟩ | ⟨on, off, operation, rfl⟩ <;>
        exact ⟨_, operation, rfl⟩
    have after : s.written item = t := by
      have eq : s.written item = stored (item.placeIn s.store) := rfl
      rw [eq, placed]
    have cells : ∀ st', t.store.profile st' = if st' = st then new else s.store.profile st' := fun st' =>
      s.store.profile_set st st' new
    have told : t.notifyChanges s.store = if t.store.profile st = s.store.profile st then t else t.profileChange st :=
      State.notifyChanges_profile (fun st' other => (cells st').trans (if_neg other)) (fun _ => rfl) (fun _ => rfl)
    have now : t.store.profile st = new := (cells st).trans (if_pos rfl)
    rw [now] at told
    refine ⟨fun same => ?_, fun changed => ⟨fun replaces => ?_, fun keeps => ?_, fun queued none calls => ?_⟩⟩
    · exact State.exec_written_quiet powered flight operation (by rw [after, told, if_pos same]) powered.2
    · have eq : t.profileChange st = t.onStage st fun r => { r with working := new } := by
        rcases replaces with h | h | ⟨h, kind⟩ <;> have is : (t.stage st).state = _ := h
        · simp only [State.profileChange, is, now]
        · simp only [State.profileChange, is, now]
        · simp only [State.profileChange, is, now, if_neg kind]
      exact State.exec_written_quiet powered flight operation (by rw [after, told, if_neg changed, eq]) powered.2
    · have eq : t.profileChange st = t.onStage st fun r => { r with pendingProfile := true } := by
        rcases keeps with h | h | h | h <;>
          simp only [State.profileChange, show (t.stage st).state = _ from h]
      exact State.exec_written_quiet powered flight operation (by rw [after, told, if_neg changed, eq]) powered.2
    · intro left congested deferred t'
      let z := (t.onStage st fun r => { r with working := new, state := .idle }).sendDefer st .noProfile
      have eq : t.profileChange st = z.dropCall st := by
        simp only [State.profileChange, show (t.stage st).state = _ from queued, now, if_pos none]; rfl
      obtain ⟨link, counters, deferred_eq⟩ : ∃ link counters, deferred = { t with link := link, counters := counters } :=
        ⟨_, _, State.place_eq _ (s := t) (x := t) rfl rfl⟩
      have z_eq : z = { t with stages := s.stages.put st { r with working := new, state := .idle }
                               link := link, counters := counters } :=
        (State.place_eq _ (s := t) (x := t.onStage st fun r => { r with working := new, state := .idle }) rfl rfl).trans
          (by rw [show t.place (.defer st.unit (byteOf st.slot.val) .noProfile) = _ from deferred_eq]; rfl)
      have removed : z.removeCall st = t' := by
        have onset : (if congested = true ∧ s.calls.congested = false then deferred.bump .congestionOnsets else deferred) =
            { deferred with counters := deferred.onsetCounters congested } := by
          rw [← State.counted_onset, deferred_eq]
        simp only [t']
        rw [onset, z.removeCall_eq, z_eq, deferred_eq]
        rfl
      have call_eq : z.callOf st = s.callOf st := by rw [z_eq]; rfl
      have mode : z.mode = s.mode := by rw [z_eq]; rfl
      have modes : z.modes = s.modes := by rw [z_eq]
      obtain ⟨e, call⟩ := State.callOf_queued calls queued
      obtain ⟨mem, own⟩ := State.callOf_eq_some call
      refine ⟨fun unreplayed => ?_, fun replay roster replays => ?_⟩
      · have plain : e.replay = false ∨ z.mode ≠ .replay := Decidable.or_iff_not_imp_right.mpr fun replay =>
          unreplayed (mode ▸ of_not_not replay) e mem own
        have dropped := (State.dropCall_plain (call_eq.trans call) plain).trans removed
        refine State.exec_written_quiet powered flight operation (by rw [after, told, if_neg changed, eq, dropped]) ?_
        rw [← removed, z.removeCall_eq, z_eq]
        exact powered.2
      · have dropped := State.dropCall_replay (call_eq.trans call) (replays e mem own) (mode.trans replay)
        have left := State.leftReplay_feed (x := z) (mode.trans replay) (modes ▸ roster.1)
          (modes ▸ State.fed_of_replay roster call (replays e mem own))
        refine ⟨_, State.exec_written powered flight operation, ?_⟩
        rw [after, told, if_neg changed, eq, dropped]
        refine ⟨?_, left.1.trans ?_, left.2⟩
        · have t'_modes : t'.modes = s.modes := by rw [← removed, z.removeCall_eq, z_eq]
          rw [removed, State.markRemoved_replay (x := t') st ((congrArg Modes.mode t'_modes).trans replay), t'_modes]
          rfl
        · rw [z_eq]
          exact StageTable.get_put_self _ _ _

end Sys2Proof.Proofs
end

section
/-! Proofs/Flushes.lean: FLUSH CALLS (O45): the named entries leave the queue one after another, from the head (R75). -/

namespace Sys2Proof.Machine

/-! ### Notices placed -/

/-- Placing a notice raises the count of notices dropped, where there is no room, and no other (R161). -/
theorem State.place_counter (n : Notice) (x : State) (c : Counter) : (x.place n).counter c =
    if c = .noticesDropped ∧ 24 ≤ x.link.queue.length then min max16 (x.counter c + 1) else x.counter c := by
  by_cases room : x.link.queue.length < 24
  · rw [State.place_eq_enqueue room, if_neg fun h => Nat.not_lt_of_le h.2 room]; rfl
  · rw [State.place_eq_bump (Nat.le_of_not_lt room), State.bump_counter]
    by_cases own : c = .noticesDropped
    · rw [if_pos own, if_pos ⟨own, Nat.le_of_not_lt room⟩, own]; rfl
    · rw [if_neg own, if_neg fun h => own h.1]

theorem State.place_counter_other (n : Notice) (x : State) {c : Counter} (other : c ≠ .noticesDropped) :
    (x.place n).counter c = x.counter c := by
  rw [State.place_counter, if_neg fun h => other h.1]

theorem State.place_dropped (n : Notice) {s x : State} (link : x.link = s.link)
    (dropped : x.counter .noticesDropped = s.counter .noticesDropped) :
    (x.place n).counter .noticesDropped = (s.place n).counter .noticesDropped := by
  rw [State.place_counter, State.place_counter, link, dropped]

/-! ### One entry -/

/-- The DEFER of a flushed entry of a unit's call; a replay entry gets none (R75). -/
def State.deferFlushed (x : State) (e : CallEntry) : State :=
  if e.replay then x else x.place (.defer e.stage.unit (byteOf e.stage.slot.val) .flushed)

/-- The state with an entry and its stage's state QUEUED gone, before the DEFER or the roster's mark. -/
def State.flushedCall (x : State) (e : CallEntry) : State :=
  ((x.onStage e.stage fun r => { r with state := .idle }).removeCall e.stage).bump .flushedEntries

theorem State.flushEntry_eq (x : State) (e : CallEntry) : x.flushEntry e =
    if e.replay then (x.flushedCall e).markRemoved e.stage false
    else (x.flushedCall e).place (.defer e.stage.unit (byteOf e.stage.slot.val) .flushed) := rfl

theorem State.markRemoved_modes {x : State} (st : StageId) (inReplay : x.mode = .replay) : (x.markRemoved st false).modes =
    { x.modes with roster := markRoster st .fed .dropped x.modes.roster, fedCount := x.modes.fedCount - 1 } := by
  rw [State.markRemoved_replay st inReplay]; rfl

theorem State.markRemoved_counter_other (x : State) (st : StageId) {c : Counter} (other : c ≠ .rosterDropped) :
    (x.markRemoved st false).counter c = x.counter c := by
  unfold State.markRemoved
  split
  · exact State.bump_counter_other _ _ _ other.symm
  · rfl

/-- The blocks a flushed entry changes. -/
theorem State.flushEntry_frame {x : State} {e : CallEntry} (queued : (x.stage e.stage).state = .queued) :
    x.flushEntry e = { x with
      stages := { x.stages with records := (x.flushEntry e).stages.records }, calls := (x.flushEntry e).calls
      link := (x.flushEntry e).link, counters := (x.flushEntry e).counters, modes := (x.flushEntry e).modes
      arbiter := { x.arbiter with marker := (x.flushEntry e).arbiter.marker } } := by
  rw [State.flushEntry_eq, State.flushedCall, State.onStage_records x (f := fun r => { r with state := .idle }) rfl
    (by rw [queued]; rfl), State.removeCall_eq]
  split
  · unfold State.markRemoved
    split <;> rfl
  · rw [State.place_eq _ rfl rfl]
    rfl

theorem State.flushedCall_link (x : State) (e : CallEntry) : (x.flushedCall e).link = x.link := by
  simp [State.flushedCall]

theorem State.flushedCall_modes (x : State) (e : CallEntry) : (x.flushedCall e).modes = x.modes := by
  simp [State.flushedCall]

theorem State.flushedCall_counter (x : State) (e : CallEntry) (c : Counter) (onset : c ≠ .congestionOnsets) :
    (x.flushedCall e).counter c = if c = .flushedEntries then min max16 (x.counter c + 1) else x.counter c := by
  have removed : ((x.onStage e.stage fun r => { r with state := .idle }).removeCall e.stage).counter c = x.counter c := by
    rw [State.removeCall_counter, if_neg fun h => onset h.1]; rfl
  rw [State.flushedCall, State.bump_counter]
  by_cases own : c = .flushedEntries
  · subst own; rw [if_pos rfl, if_pos rfl, removed]; rfl
  · rw [if_neg own, if_neg own, removed]

theorem State.flushedCall_onsets (x : State) (e : CallEntry) : (x.flushedCall e).counter .congestionOnsets =
    if x.setting .congestionThreshold ≤ (x.calls.entries.filter fun c => c.stage != e.stage).length ∧ x.calls.congested = false then
      min max16 (x.counter .congestionOnsets + 1) else x.counter .congestionOnsets := by
  rw [State.flushedCall, State.bump_counter_other _ _ _ (by simp), State.removeCall_counter]
  exact if_congr ⟨And.right, fun h => ⟨rfl, h⟩⟩ rfl rfl

/-- What an entry flushed does to the call queue, the marker and the stages. -/
theorem State.flushEntry_queue (x : State) (e : CallEntry) :
    (x.flushEntry e).calls = { x.calls with
      entries := x.calls.entries.filter fun c => c.stage != e.stage
      congested := decide (x.setting .congestionThreshold ≤ (x.calls.entries.filter fun c => c.stage != e.stage).length) } ∧
      (x.flushEntry e).arbiter.marker = x.arbiter.marker.filter fun m => m.stage != e.stage := by
  have same : (x.flushEntry e).calls = (x.flushedCall e).calls ∧ (x.flushEntry e).arbiter = (x.flushedCall e).arbiter := by
    rw [State.flushEntry_eq]
    split <;> simp
  rw [same.1, same.2, State.flushedCall, State.removeCall_eq]
  exact ⟨rfl, rfl⟩

/-! ### The entries, one after another -/

/-- The stages of some entries. -/
abbrev stagesIn (l : List CallEntry) : List StageId := l.map CallEntry.stage

theorem stagesIn_concat (l : List CallEntry) (e : CallEntry) : stagesIn (l ++ [e]) = stagesIn l ++ [e.stage] := by
  simp [stagesIn]

/-- The roster with the FED entries of some stages DROPPED (R151). -/
def droppedIn (l : List StageId) (R : List RosterEntry) : List RosterEntry :=
  R.map fun e => if e.stage ∈ l ∧ e.outcome = .fed then { e with outcome := .dropped } else e

theorem droppedIn_nil (R : List RosterEntry) : droppedIn [] R = R := by simp [droppedIn]

theorem markRoster_droppedIn (st : StageId) (l : List StageId) (R : List RosterEntry) :
    markRoster st .fed .dropped (droppedIn l R) = droppedIn (l ++ [st]) R := by
  rw [markRoster, droppedIn, List.map_map]
  refine List.map_congr_left fun d _ => ?_
  simp only [Function.comp, List.mem_append, List.mem_singleton]
  by_cases fed : d.outcome = .fed
  · by_cases already : d.stage ∈ l
    · simp [already, fed]
    · simp [fed, already]
  · simp [fed]

theorem droppedIn_stages (l : List StageId) (R : List RosterEntry) :
    (droppedIn l R).map RosterEntry.stage = R.map RosterEntry.stage := by
  rw [droppedIn, List.map_map]
  refine List.map_congr_left fun d _ => ?_
  simp only [Function.comp]
  split <;> rfl

theorem mem_droppedIn {l : List StageId} {R : List RosterEntry} {st : StageId} (fed : FedIn R st) (mem : st ∈ l) :
    ({ stage := st, outcome := .dropped } : RosterEntry) ∈ droppedIn l R :=
  List.mem_map.mpr ⟨_, fed, if_pos ⟨mem, rfl⟩⟩

/-- From s to x the entries of l have been flushed. -/
structure State.Flushed (s x : State) (l : List CallEntry) : Prop where
  frame : x = { s with
    stages := { s.stages with records := x.stages.records }, calls := x.calls, link := x.link, counters := x.counters
    modes := x.modes, arbiter := { s.arbiter with marker := x.arbiter.marker } }
  stage : ∀ st, x.stage st = if st ∈ stagesIn l then { s.stage st with state := .idle } else s.stage st
  calls : x.calls = { s.calls with
    entries := s.calls.entries.filter fun e => !decide (e.stage ∈ stagesIn l)
    congested := if l = [] then s.calls.congested
      else decide (s.setting .congestionThreshold ≤ (s.calls.entries.filter fun e => !decide (e.stage ∈ stagesIn l)).length) }
  marker : x.arbiter.marker = s.arbiter.marker.filter fun m => !decide (m.stage ∈ stagesIn l)
  link : x.link = (l.foldl State.deferFlushed s).link
  dropped : x.counter .noticesDropped = (l.foldl State.deferFlushed s).counter .noticesDropped
  flushed : x.counter .flushedEntries = raisedBy l.length (s.counter .flushedEntries)
  onsets : x.counter .congestionOnsets =
    if l ≠ [] ∧ s.calls.congested = false ∧ s.setting .congestionThreshold + 1 ≤ s.calls.entries.length then
      min max16 (s.counter .congestionOnsets + 1) else s.counter .congestionOnsets
  modes : x.modes = { s.modes with
    roster := droppedIn (stagesIn (l.filter CallEntry.replay)) s.modes.roster
    fedCount := s.modes.fedCount - (l.filter CallEntry.replay).length }
  rosterDropped : x.counter .rosterDropped = raisedBy (l.filter CallEntry.replay).length (s.counter .rosterDropped)
  others : ∀ c : Counter, c ∉ [.flushedEntries, .noticesDropped, .congestionOnsets, .rosterDropped] → x.counter c = s.counter c

theorem State.Flushed.refl (s : State) : s.Flushed s [] :=
  ⟨rfl, by simp, by simp, by cases s.arbiter.marker <;> simp [Option.filter], rfl, rfl, rfl, by simp, by simp [droppedIn_nil], rfl,
    by simp⟩

/-- One more entry is flushed. -/
theorem State.Flushed.next {s x : State} {l : List CallEntry} (f : s.Flushed x l) {e : CallEntry} (mem : e ∈ s.calls.entries)
    (distinct : (stagesIn s.calls.entries).Nodup) (new : e.stage ∉ stagesIn l)
    (queued : (s.stage e.stage).state = .queued) (plain : s.mode = .replay ∨ e.replay = false) :
    s.Flushed (x.flushEntry e) (l ++ [e]) := by
  have was : x.stage e.stage = s.stage e.stage := by rw [f.stage, if_neg new]
  have setting : x.setting .congestionThreshold = s.setting .congestionThreshold := by rw [State.setting, f.frame]; rfl
  have entries : x.calls.entries = s.calls.entries.filter fun c => !decide (c.stage ∈ stagesIn l) := by rw [f.calls]
  have later : (x.calls.entries.filter fun c => c.stage != e.stage) =
      s.calls.entries.filter fun c => !decide (c.stage ∈ stagesIn (l ++ [e])) := by
    rw [entries, List.filter_filter]
    exact List.filter_congr fun c _ => by by_cases h : c.stage = e.stage <;> simp [h]
  have inX : e ∈ x.calls.entries := by rw [entries]; simpa [mem] using new
  have fewer : (x.calls.entries.filter fun c => c.stage != e.stage).length + 1 = x.calls.entries.length :=
    length_filter_stage (by rw [entries]; exact distinct.sublist (List.filter_sublist.map _)) inX
  obtain ⟨calls, marker⟩ := x.flushEntry_queue e
  have after := x.flushEntry_eq e
  have link : (x.flushedCall e).link = (l.foldl State.deferFlushed s).link := (x.flushedCall_link e).trans f.link
  have dropped : (x.flushedCall e).counter .noticesDropped = (l.foldl State.deferFlushed s).counter .noticesDropped := by
    rw [State.flushedCall_counter _ _ _ (by simp), if_neg (by simp)]; exact f.dropped
  have unmarked : (x.flushedCall e).counter .rosterDropped = raisedBy (l.filter CallEntry.replay).length (s.counter .rosterDropped) := by
    rw [State.flushedCall_counter _ _ _ (by simp), if_neg (by simp)]; exact f.rosterDropped
  have inReplay : e.replay = true → (x.flushedCall e).mode = .replay := fun replay => by
    rw [State.mode, State.flushedCall_modes, f.modes]
    exact plain.resolve_right (by simp [replay])
  have counter : ∀ c, c ≠ .noticesDropped → c ≠ .rosterDropped → (x.flushEntry e).counter c = (x.flushedCall e).counter c := by
    intro c dropped roster
    rw [after]
    split
    · exact State.markRemoved_counter_other _ _ roster
    · exact State.place_counter_other _ _ dropped
  refine ⟨?_, fun st => ?_, ?_, ?_, ?_, ?_, ?_, ?_, ?_, ?_, fun c hc => ?_⟩
  · rw [State.flushEntry_frame (by rw [was]; exact queued), f.frame]
  · rw [State.flushEntry_stage, f.stage]
    by_cases own : st = e.stage
    · subst own; simp [new]
    · simp [own]
  · rw [calls, later, setting, if_neg (by simp), f.calls]
  · rw [marker, f.marker, Option.filter_filter]
    congr 1
    funext m
    by_cases own : m.stage = e.stage <;> simp [own]
  · rw [after, List.foldl_concat, State.deferFlushed]
    split
    · simpa using link
    · exact State.place_link _ link
  · rw [after, List.foldl_concat, State.deferFlushed]
    split
    · exact (State.markRemoved_counter_other _ _ (by simp)).trans dropped
    · exact State.place_dropped _ link dropped
  · rw [counter _ (by simp) (by simp), State.flushedCall_counter _ _ _ (by simp), if_pos rfl, f.flushed]
    simp [raisedBy_succ]
  · rw [counter _ (by simp) (by simp), State.flushedCall_onsets, f.onsets, setting]
    by_cases first : l = []
    · subst first
      have all : x.calls = s.calls := by simpa using f.calls
      rw [all] at fewer ⊢
      rw [if_neg (c := ([] : List CallEntry) ≠ [] ∧ _) fun h => h.1 rfl]
      refine if_congr ⟨fun ⟨room, clear⟩ => ⟨by simp, clear, by omega⟩, fun ⟨_, clear, room⟩ => ⟨by omega, clear⟩⟩ rfl rfl
    · rw [if_neg (c := _ ∧ x.calls.congested = false)]
      · exact if_congr ⟨fun h => ⟨by simp, h.2⟩, fun h => ⟨first, h.2⟩⟩ rfl rfl
      · rintro ⟨room, clear⟩
        rw [f.calls] at clear
        simp only [if_neg first, decide_eq_false_iff_not, ← entries] at clear
        omega
  · cases replay : e.replay
    · have same : (l ++ [e]).filter CallEntry.replay = l.filter CallEntry.replay := by simp [replay]
      rw [after, if_neg (by simp [replay]), same, (State.place_frame _ _).2.2.2.2.2.2.2.2.2.1, State.flushedCall_modes]
      exact f.modes
    · have grows : (l ++ [e]).filter CallEntry.replay = l.filter CallEntry.replay ++ [e] := by simp [replay]
      have roster := markRoster_droppedIn e.stage (stagesIn (l.filter CallEntry.replay)) s.modes.roster
      rw [after, if_pos replay, State.markRemoved_modes _ (inReplay replay), State.flushedCall_modes, f.modes, grows,
        stagesIn_concat, List.length_append, ← Nat.sub_sub]
      exact congrArg (fun R => { s.modes with
        roster := R, fedCount := s.modes.fedCount - (l.filter CallEntry.replay).length - 1 }) roster
  · cases replay : e.replay
    · have same : (l ++ [e]).filter CallEntry.replay = l.filter CallEntry.replay := by simp [replay]
      rw [after, if_neg (by simp [replay]), same, State.place_counter_other _ _ (by simp)]
      exact unmarked
    · have grows : (l ++ [e]).filter CallEntry.replay = l.filter CallEntry.replay ++ [e] := by simp [replay]
      have marked := State.markRemoved_replay (x := x.flushedCall e) e.stage (inReplay replay)
      rw [after, if_pos replay, marked, grows, List.length_append, List.length_singleton, raisedBy_succ, ← unmarked,
        State.bump_counter_self]
      rfl
  · simp only [List.mem_cons, List.not_mem_nil, or_false, not_or] at hc
    obtain ⟨flushed, dropped, onsets, roster⟩ := hc
    rw [counter c dropped roster, State.flushedCall_counter _ _ _ onsets, if_neg flushed]
    exact f.others c (by simp [flushed, dropped, onsets, roster])

/-- The entries of a list that names no stage twice, flushed one after another. -/
theorem State.flushEntry_foldl {s : State} (calls : s.callsExact) (l : List CallEntry) (sub : ∀ e ∈ l, e ∈ s.calls.entries)
    (distinct : (stagesIn l).Nodup) (plain : ∀ e ∈ l, s.mode = .replay ∨ e.replay = false) :
    s.Flushed (l.foldl State.flushEntry s) l := by
  obtain ⟨distinctS, -, entry, -⟩ := calls
  induction l using List.reverseRecOn with
  | nil => exact .refl s
  | append_singleton l e ih =>
    rw [stagesIn_concat] at distinct
    obtain ⟨new, distinct⟩ := List.nodup_cons.mp (List.perm_append_singleton e.stage _ |>.nodup_iff.mp distinct)
    have mem := sub e (by simp)
    rw [List.foldl_concat]
    exact (ih (fun e' h => sub e' (by simp [h])) distinct fun e' h => plain e' (by simp [h])).next mem distinctS new
      ((entry e.stage.unit e.stage.slot).mp (List.mem_map_of_mem mem)) (plain e (by simp))

/-! ### The command -/

/-- The unit field of a FLUSH CALLS: 0 for all. -/
def flushField (u : Option UnitId) : Byte := match u with
  | none => 0
  | some v => byteOf (v.val + 1)

/-- The entries a FLUSH CALLS names. -/
def flushNames (u : Option UnitId) (e : CallEntry) : Bool := match u with
  | none => true
  | some v => e.stage.unit == v

theorem flushFields_field (u : Option UnitId) : flushFields [flushField u] = some u := by
  cases u with
  | none => rfl
  | some v =>
    have small : (byteOf (v.val + 1)).toNat = v.val + 1 := by simp [byteOf]; omega
    have nonzero : byteOf (v.val + 1) ≠ 0 := fun h => by rw [h] at small; simp at small
    have unit : unitOf (byteOf (v.val + 1)) = some v := clearFields_unit v
    simp only [flushFields, flushField, if_neg nonzero, unit, Option.map_some]

theorem State.exec_flush {s : State} (listening : s.listening) (notHalted : s.mode ≠ .halted) (u : Option UnitId) :
    exec (.flushCalls [flushField u]) s = .next (s.takeFlush u).drain := by
  obtain ⟨⟨supplied, -⟩, onBus⟩ := listening
  exact (State.receive_onBus _ s supplied onBus).trans (by
    simp only [State.gatewayFrame, flushFields_field, State.unlessHalted, notHalted, if_false])

theorem State.takeFlush_eq (u : Option UnitId) (s : State) : s.takeFlush u =
    let flushed := s.calls.entries.filter (flushNames u)
    let y := (flushed.foldl State.flushEntry s).answer 26 .ok [byteOf flushed.length]
    if flushed.any CallEntry.replay then y.feed else y := rfl

/-- A stage has a named entry exactly where its entry is named. -/
theorem mem_stagesIn_named {u : Option UnitId} {l : List CallEntry} {e : CallEntry} (mem : e ∈ l) :
    e.stage ∈ stagesIn (l.filter (flushNames u)) ↔ flushNames u e = true := by
  constructor
  · rintro h
    obtain ⟨c, hc, same⟩ := List.mem_map.mp h
    have named := (List.mem_filter.mp hc).2
    cases u with
    | none => rfl
    | some v => simpa [flushNames, same] using named
  · exact fun named => List.mem_map_of_mem (List.mem_filter.mpr ⟨mem, named⟩)

theorem any_stagesIn (l : List CallEntry) (st : StageId) : (l.any fun e => e.stage == st) = decide (st ∈ stagesIn l) := by
  rw [Bool.eq_iff_iff]
  simp

section
variable {s x : State} {l : List CallEntry} {kind : Nat} {status : Status} {data : List Byte} (f : s.Flushed x l)
include f

/-- The ANSWER after the DEFERs is placed as after DEFERs alone (R75; log entry 31). -/
theorem State.Flushed.answer_link :
    (x.answer kind status data).link = ((l.foldl State.deferFlushed s).answer kind status data).link :=
  State.place_link _ f.link

theorem State.Flushed.answer_dropped : (x.answer kind status data).counter .noticesDropped =
    ((l.foldl State.deferFlushed s).answer kind status data).counter .noticesDropped :=
  State.place_dropped _ f.link f.dropped

theorem State.Flushed.answer_frame :
    let y := x.answer kind status data
    y = { s with
      stages := { s.stages with records := y.stages.records }, calls := y.calls, link := y.link, counters := y.counters
      modes := y.modes, arbiter := { s.arbiter with marker := s.arbiter.marker.filter fun m => !(l.any fun e => e.stage == m.stage) } } := by
  have marker : (s.arbiter.marker.filter fun m => !(l.any fun e => e.stage == m.stage)) = x.arbiter.marker := by
    simp only [any_stagesIn]; exact f.marker.symm
  intro y
  have frame := f.frame
  rw [marker]
  have eq : y = { x with link := y.link, counters := y.counters } := State.place_eq _ rfl rfl
  calc y = { x with link := y.link, counters := y.counters } := eq
    _ = { ({ s with
          stages := { s.stages with records := x.stages.records }, calls := x.calls, link := x.link, counters := x.counters
          modes := x.modes, arbiter := { s.arbiter with marker := x.arbiter.marker } } : State) with
        link := y.link, counters := y.counters } := by rw [← frame]
    _ = _ := by rw [show y.stages = x.stages by rw [eq], show y.calls = x.calls by rw [eq], show y.modes = x.modes by rw [eq]]

end

end Sys2Proof.Machine

namespace Sys2Proof.Proofs
open Sys2Proof.Machine

/-- Settles O45: the named entries are flushed one after another (`State.Flushed`), then the ANSWER is placed and, where a replay
entry was named, the feeder feeds. -/
theorem callsAreFlushed : Obligations.CallsAreFlushed := by
  intro s u listening notHalted calls command named flushed sent
  have taken : exec command s = .next (s.takeFlush u).drain := State.exec_flush listening notHalted u
  have settled : s.causes = [] := listening.1.2
  have all : (∀ e ∈ flushed, s.mode = .replay ∨ e.replay = false) → s.Flushed (flushed.foldl State.flushEntry s) flushed :=
    State.flushEntry_foldl calls flushed (fun e he => (List.mem_filter.mp he).1)
      (calls.1.sublist (List.filter_sublist.map _))
  have left : (s.calls.entries.filter fun e => !decide (e.stage ∈ stagesIn flushed)) = s.calls.entries.filter fun e => !named e :=
    List.filter_congr fun e he => by
      rw [Bool.eq_iff_iff, Bool.not_eq_true', Bool.not_eq_true', decide_eq_false_iff_not, ← Bool.not_eq_true]
      exact not_congr (mem_stagesIn_named he)
  let y := (flushed.foldl State.flushEntry s).answer 26 .ok [byteOf flushed.length]
  have counter : ∀ c, c ≠ .noticesDropped → y.counter c = (flushed.foldl State.flushEntry s).counter c := fun c other =>
    State.place_counter_other _ _ other
  have same : y.calls = (flushed.foldl State.flushEntry s).calls ∧ y.modes = (flushed.foldl State.flushEntry s).modes ∧
      y.stages = (flushed.foldl State.flushEntry s).stages := by simp [y, State.answer]
  obtain ⟨sameCalls, sameModes, sameStages⟩ := same
  have stage : ∀ st, y.stage st = (flushed.foldl State.flushEntry s).stage st := fun st => by rw [State.stage, sameStages]; rfl
  refine ⟨fun unreplayed => ?_, fun replay roster => ?_⟩
  · have f := all fun e he => .inr (unreplayed e he)
    have noReplays : flushed.filter CallEntry.replay = [] := List.filter_eq_nil_iff.mpr fun e he => by simp [unreplayed e he]
    have modes := f.modes
    have rosterDropped := f.rosterDropped
    rw [noReplays, List.length_nil, Nat.sub_zero, stagesIn, List.map_nil, droppedIn_nil] at modes
    rw [noReplays] at rosterDropped
    have frame : y = _ := f.answer_frame (kind := 26) (status := .ok) (data := [byteOf flushed.length])
    have sentEq : flushed.foldl State.deferFlushed s = sent := List.foldl_ext _ _ _ fun x e he => if_neg (by simp [unreplayed e he])
    have eq : s.takeFlush u = y := by
      rw [State.takeFlush_eq]
      exact if_neg (by rw [List.any_eq_true]; exact fun ⟨e, he, replay⟩ => by rw [unreplayed e he] at replay; cases replay)
    have unflushed : flushed = [] → y.counter .flushedEntries = s.counter .flushedEntries ∧
        y.counter .congestionOnsets = s.counter .congestionOnsets := fun none =>
      ⟨(counter _ (by simp)).trans (by rw [f.flushed, none]; rfl), (counter _ (by simp)).trans (by rw [f.onsets, none]; simp)⟩
    refine ⟨y, ?_, ?_, ?_, ?_, ?_, fun some => ?_, ?_, ?_, fun c other => ?_, fun st => (stage st).trans (f.stage st), ?_⟩
    · rw [taken, eq]
      exact State.next_drain (by rw [frame]; exact settled)
    · rw [sameCalls, f.calls]; exact left
    · rw [sameCalls, f.calls]
    · rw [← sentEq]; exact f.answer_link
    · rw [sameCalls, f.calls]
    · rw [counter _ (by simp), f.flushed, raisedBy, if_neg (by simpa using some)]; rfl
    · rw [← sentEq]; exact f.answer_dropped
    · rw [counter _ (by simp), f.onsets]; rfl
    · simp only [List.mem_cons, List.not_mem_nil, or_false, not_or] at other
      by_cases own : c = .flushedEntries
      · subst own; exact (unflushed (other.elim (fun h => absurd rfl h.1) And.left)).1
      by_cases own' : c = .congestionOnsets
      · subst own'; exact (unflushed (other.elim (fun h => absurd rfl h.2.2) And.left)).2
      have dropped : c ≠ .noticesDropped := other.elim (fun h => h.2.1) And.right
      rw [counter c dropped]
      by_cases roster : c = .rosterDropped
      · rw [roster]; exact rosterDropped
      · exact f.others c (by simp [own, own', dropped, roster])
    · refine frame.trans ?_
      rw [show y.modes = s.modes from sameModes.trans modes]
  · have f := all fun e he => .inl replay
    let replays := flushed.filter CallEntry.replay
    have eq : s.takeFlush u = if replays = [] then y else y.feed := by
      rw [State.takeFlush_eq]
      have any : flushed.any CallEntry.replay = true ↔ ¬ replays = [] := by
        rw [List.any_eq_true, List.filter_eq_nil_iff]
        simp
      exact (if_congr any rfl rfl).trans (ite_not ..)
    have frame : y = _ := f.answer_frame (kind := 26) (status := .ok) (data := [byteOf flushed.length])
    refine ⟨_, taken, ⟨y, eq, sameModes.trans f.modes, ?_, fun c other => ?_, f.answer_link, ?_, ?_, ?_,
      fun st => (stage st).trans (f.stage st), frame⟩, fun e he isReplay => ?_⟩
    · rw [counter _ (by simp), f.rosterDropped, raisedBy]
      simp only [List.length_eq_zero_iff]
      rfl
    · simp only [List.mem_cons, List.not_mem_nil, or_false, not_or] at other
      obtain ⟨flushedEntries, dropped, onsets, roster⟩ := other
      exact (counter c dropped).trans (f.others c (by simp [flushedEntries, dropped, onsets, roster]))
    · rw [sameCalls, f.calls]; exact left
    · rw [sameCalls, f.calls]
    · rw [sameCalls, f.calls]
    · have some : replays ≠ [] := List.ne_nil_of_mem (List.mem_filter.mpr ⟨he, isReplay⟩)
      rw [eq, if_neg some]
      have mem : e ∈ s.calls.entries := (List.mem_filter.mp he).1
      have mode : y.mode = .replay := by rw [State.mode, sameModes, f.modes]; exact replay
      have rosterEq : y.modes.roster = droppedIn (stagesIn replays) s.modes.roster := by rw [sameModes, f.modes]
      have fed : FedIn s.modes.roster e.stage := by
        obtain ⟨-, -, -, -, -, fed, -⟩ := roster
        exact (fed e.stage.unit e.stage.slot).mp ⟨e, mem, rfl, isReplay⟩
      obtain ⟨same, entries, ends⟩ := State.feed_resolved (x := y) (d := { stage := e.stage, outcome := .dropped }) mode
        (rosterEq ▸ mem_droppedIn fed (List.mem_map_of_mem (List.mem_filter.mpr ⟨he, isReplay⟩))) (.inr rfl)
        (by rw [rosterEq, droppedIn_stages]; exact roster.1)
      refine ⟨ends.imp And.right And.right, ?_, fun c hc own => ?_⟩
      · rw [same, stage, f.stage, if_pos (List.mem_map_of_mem he)]
      · obtain ⟨c', hc', own'⟩ := entries c hc own
        rw [sameCalls, f.calls, List.mem_filter] at hc'
        simp only [own', List.mem_map_of_mem he] at hc'
        simp at hc'

end Sys2Proof.Proofs
end

section
/-! Proofs/StagesActedOn.lean: a command that acts on the stages of a list one after another, the call entries of some of them
dropped, with the feeder acting within the event in REPLAY (R74, R150, R151). -/

namespace Sys2Proof.Machine

/-! ### What a feeding gives and leaves alone -/

/-- The notices a feeding gives: an entry's, and those of a mode with passes (R68, R152). -/
def Cause.ofFeed (c : Cause) : Bool := c == .pass .entry || c == .pass .admittingMode || c == .check .admittingMode

/-- From x to y only notices of a feeding have been given. -/
def State.FeedNotices (x y : State) : Prop := ∃ given, y.causes = x.causes ++ given ∧ ∀ c ∈ given, c.ofFeed = true

namespace State.FeedNotices

theorem same {x y : State} (h : y.causes = x.causes) : x.FeedNotices y := ⟨[], by simp [h], by simp⟩

theorem trans {x y z : State} (a : x.FeedNotices y) (b : y.FeedNotices z) : x.FeedNotices z := by
  obtain ⟨first, eq, h⟩ := a
  obtain ⟨second, eq', h'⟩ := b
  exact ⟨first ++ second, by rw [eq', eq, List.append_assoc], fun c hc => (List.mem_append.mp hc).elim (h c) (h' c)⟩

theorem give (x : State) {c : Cause} (ofFeed : c.ofFeed = true) : x.FeedNotices (x.give c) := ⟨[c], rfl, by simpa using ofFeed⟩

theorem setMode (m : Mode) (x : State) : x.FeedNotices (x.setMode m) := by
  have formed : ((x.onModes fun d => { d with mode := m }).formFallback).causes = x.causes := by simp
  simp only [State.setMode]
  split
  · exact ((same formed).trans (give _ rfl)).trans (give _ rfl)
  · exact same formed

theorem advanceRead (x : State) : x.FeedNotices x.advanceRead := by
  simp only [State.advanceRead]
  split
  · exact (same (by simp)).trans (setMode _ _)
  · exact same rfl

theorem feed (x : State) : x.FeedNotices x.feed := by
  by_cases replay : x.mode = .replay
  · rw [State.feed_replay replay]
    have fed : x.FeedNotices (feedEntries 0 x.modes.roster x).2 :=
      feedEntries_induction (fun _ y => x.FeedNotices y)
        (fun _ e _ y h _ _ => h.trans ((same (y := (y.onModes _).onStage _ _ |>.enterCall _ _ _) (by simp)).trans (give _ rfl)))
        (fun _ _ _ y h _ _ => h.trans (same (by simp))) [] _ x (same rfl)
    exact (fed.trans (same rfl)).trans (advanceRead _)
  · rw [State.feed_other replay]; exact same rfl

theorem dropCall (st : StageId) (x : State) : x.FeedNotices (x.dropCall st) := by
  rcases x.dropCall_cases st with ⟨-, eq⟩ | ⟨e, -, -, eq⟩ | ⟨e, -, -, -, eq⟩ <;> rw [eq]
  · exact same rfl
  · exact same (by simp)
  · exact (same (by simp)).trans (feed _)

end State.FeedNotices

/-- A stage the feeder does not feed: its unit is not PRESENT, its kind is NONE, or it is not IDLE (R150). -/
def State.unfeedable (x : State) (st : StageId) : Prop :=
  (x.unit st.unit).presence ≠ .present ∨ (x.stage st).working.kind = .none ∨ (x.stage st).state ≠ .idle

theorem State.unfeedable.feedable {x : State} {st : StageId} (h : x.unfeedable st) : x.feedable st = false := by
  rw [← Bool.not_eq_true]
  intro feedable
  simp only [State.feedable, Bool.and_eq_true, beq_iff_eq, bne_iff_ne] at feedable
  obtain ⟨⟨⟨present, idle⟩, kind⟩, -⟩ := feedable
  exact h.elim (fun h => h present) fun h => h.elim kind fun h => h idle

theorem State.unfeedable.congr {x y : State} {st : StageId} (h : x.unfeedable st) (stage : y.stage st = x.stage st)
    (supervisor : y.supervisor = x.supervisor) : y.unfeedable st := by
  unfold State.unfeedable State.unit; rw [stage, supervisor]; exact h

/-- The feeder leaves such a stage alone. -/
theorem State.unfeedable.feed {x : State} {st : StageId} (h : x.unfeedable st) : x.feed.stage st = x.stage st := by
  by_cases replay : x.mode = .replay
  · rw [State.feed_replay replay]
    have fed := feedEntries_induction (fun _ y => y.stage st = x.stage st ∧ y.supervisor = x.supervisor)
      (fun _ e _ y ⟨stage, supervisor⟩ _ feedable => by
        have other : st ≠ e.stage := fun same => by
          have := (h.congr stage supervisor).feedable
          rw [same, feedable] at this; cases this
        exact ⟨by rw [State.stage_fedBy, if_neg other, stage], by simpa [State.fedBy] using supervisor⟩)
      (fun _ _ _ y h _ _ => ⟨h.1, h.2⟩) [] x.modes.roster x ⟨rfl, rfl⟩
    rw [← fed.1]
    simp [State.stage]
  · rw [State.feed_other replay]

theorem State.unfeedable.dropCall {x : State} {st : StageId} (h : x.unfeedable st) (st' : StageId) :
    (x.dropCall st').stage st = x.stage st := by
  have removed : ∀ y : State, y = x.removeCall st' ∨ y = (x.removeCall st').markRemoved st' false →
      y.stage st = x.stage st ∧ y.supervisor = x.supervisor := by
    rintro y (rfl | rfl) <;> simp [State.stage]
  rcases x.dropCall_cases st' with ⟨-, eq⟩ | ⟨e, -, -, eq⟩ | ⟨e, -, -, -, eq⟩ <;> rw [eq]
  · exact (removed _ (.inl rfl)).1
  · obtain ⟨stage, supervisor⟩ := removed _ (.inr rfl)
    exact (h.congr stage supervisor).feed.trans stage

/-! ### One stage acted on -/

/-- y agrees with x in what the call queue, the restart roster and the stages are, and in who is PRESENT. -/
structure State.Like (x y : State) : Prop where
  stages : y.stages = x.stages
  calls : y.calls = x.calls
  marker : y.arbiter.marker = x.arbiter.marker
  modes : y.modes = x.modes
  store : y.store = x.store
  presence : ∀ u, (y.unit u).presence = (x.unit u).presence
  dropped : y.counter .rosterDropped = x.counter .rosterDropped
  onsets : y.counter .congestionOnsets = x.counter .congestionOnsets

theorem State.Like.refl (x : State) : x.Like x := ⟨rfl, rfl, rfl, rfl, rfl, fun _ => rfl, rfl, rfl⟩

/-- Only the causes differ. -/
theorem State.Like.withCauses (x : State) (causes : List Cause) : x.Like { x with causes := causes } :=
  ⟨rfl, rfl, rfl, rfl, rfl, fun _ => rfl, rfl, rfl⟩

theorem State.Like.stage {x y : State} (h : x.Like y) (st : StageId) : y.stage st = x.stage st := by
  rw [State.stage, h.stages]; rfl

theorem State.Like.follows {x y : State} (h : x.Like y) {r : StageId → Stage} (f : x.Follows r) : y.Follows r := by
  unfold State.Follows State.AtOrFed State.mode
  simp only [h.stage, h.modes]
  exact f

theorem State.Like.quietly {s x y : State} {l : List StageId} (h : x.Like y) (q : s.QuietlyRemoved x l) : s.QuietlyRemoved y l :=
  ⟨h.calls ▸ q.calls, h.marker ▸ q.marker, fun e => h.onsets.trans (q.onsets e), h.dropped.trans q.rosterDropped,
    h.store.trans q.store⟩

/-- From x to y the stage st is acted on: it is left with its record r, its record becomes r, or its record becomes r and, in a state
like that one, its call entry is dropped; and these notices of its own are given. -/
inductive State.Acts (x y : State) (st : StageId) (r : Stage) (notices : List Cause) : (drop : Bool) → Prop
  | kept (stage : x.stage st = r) (like : x.Like y) (causes : y.causes = x.causes ++ notices) : State.Acts x y st r notices false
  | changed (f : Stage → Stage) (stage : f (x.stage st) = r) (unqueued : (x.stage st).state ≠ .queued ∨ r.state = .queued)
      (like : (x.onStage st f).Like y) (causes : y.causes = x.causes ++ notices) : State.Acts x y st r notices false
  | dropped (f : Stage → Stage) (z : State) (stage : f (x.stage st) = r) (changed : (x.onStage st f).Like z)
      (given : z.causes = x.causes) (like : (z.dropCall st).Like y) (causes : y.causes = (z.dropCall st).causes ++ notices) :
      State.Acts x y st r notices true

/-- What a command makes of the stages it acts on: their records, whose call entries are dropped, and their notices. In REPLAY
`outReplay` names also stages which the feeder may QUEUE before they are acted on. -/
structure StagePlan where
  record : StageId → Stage
  out : StageId → Bool
  outReplay : StageId → Bool
  notices : StageId → List Cause

/-- The record each stage has once those of l have been acted on. -/
def StagePlan.after (P : StagePlan) (s : State) (l : List StageId) (st : StageId) : Stage :=
  if st ∈ l then P.record st else s.stage st

theorem StagePlan.after_mem (P : StagePlan) (s : State) {l : List StageId} {st : StageId} (mem : st ∈ l) :
    P.after s l st = P.record st := if_pos mem

theorem StagePlan.after_self (P : StagePlan) (s : State) (l : List StageId) (st : StageId) : P.after s (l ++ [st]) st = P.record st :=
  if_pos (by simp)

theorem StagePlan.after_other (P : StagePlan) (s : State) (l : List StageId) {st st' : StageId} (other : st' ≠ st) :
    P.after s (l ++ [st]) st' = P.after s l st' := by simp [StagePlan.after, other]

/-- From s to x the stages of l have been acted on. -/
structure State.Acted (P : StagePlan) (s x : State) (l : List StageId) : Prop where
  store : x.store = s.store
  presence : ∀ u, (x.unit u).presence = (s.unit u).presence
  follows : x.Follows (P.after s l)
  unfed : ∀ st, (P.after s l st).working.kind = .none ∨ (s.unit st.unit).presence ≠ .present → x.stage st = P.after s l st
  notices : ∃ given, x.causes = s.causes ++ given ∧ given.filter (fun c => !c.ofFeed) = l.flatMap P.notices
  modes : s.mode ≠ .replay → x.modes = s.modes
  quiet : s.mode ≠ .replay → s.QuietlyRemoved x (l.filter P.out) ∧ x.causes = s.causes ++ l.flatMap P.notices
  replay : s.mode = .replay → s.callsExact → s.rosterExact → ∃ R, ReplayTrace s x R (l.filter P.outReplay)

theorem State.Acted.refl (P : StagePlan) (s : State) : s.Acted P s [] where
  store := rfl
  presence _ := rfl
  follows := by
    by_cases replay : s.mode = .replay
    · exact .inl ⟨replay, fun _ => .inl rfl⟩
    · exact .inr ⟨replay, fun _ => rfl⟩
  unfed _ _ := rfl
  notices := ⟨[], by simp, rfl⟩
  modes _ := rfl
  quiet _ := ⟨.refl s, by simp⟩
  replay replay calls roster := ⟨_, .refl replay calls roster⟩

theorem State.dropCall_presence (x : State) (st : StageId) (u : UnitId) :
    ((x.dropCall st).unit u).presence = (x.unit u).presence := by
  rw [State.unit, (State.QueueOnly.dropCall st x).frame.supervisor]; rfl

/-- A stage with its own record keeps what the stages follow. -/
theorem State.Follows.own {x : State} {r r' : StageId → Stage} (h : x.Follows r) {st : StageId} (own : x.stage st = r' st)
    (others : ∀ st', st' ≠ st → r' st' = r st') : x.Follows r' := by
  refine h.imp (fun ⟨replay, h⟩ => ⟨replay, fun st' => ?_⟩) fun ⟨notReplay, h⟩ => ⟨notReplay, fun st' => ?_⟩ <;>
    by_cases same : st' = st
  · exact .inl (same ▸ own)
  · rw [others st' same]; exact h st'
  · exact same ▸ own
  · rw [others st' same]; exact h st'

section
variable {P : StagePlan} {s x y : State} {l : List StageId} {st : StageId} {drop : Bool}

theorem State.Acts.store (acts : x.Acts y st (P.record st) (P.notices st) drop) : y.store = x.store := by
  cases acts with
  | kept _ like _ => exact like.store
  | changed f _ _ like _ => exact like.store
  | dropped f z _ changed _ like _ => exact (like.store.trans (State.QueueOnly.dropCall st z).frame.store).trans changed.store

theorem State.Acts.presence (acts : x.Acts y st (P.record st) (P.notices st) drop) (u : UnitId) :
    (y.unit u).presence = (x.unit u).presence := by
  cases acts with
  | kept _ like _ => exact like.presence u
  | changed f _ _ like _ => exact like.presence u
  | dropped f z _ changed _ like _ =>
    exact ((like.presence u).trans (State.dropCall_presence z st u)).trans (changed.presence u)

theorem State.Acts.modes (acts : x.Acts y st (P.record st) (P.notices st) drop) (notReplay : x.mode ≠ .replay) :
    y.modes = x.modes := by
  cases acts with
  | kept _ like _ => exact like.modes
  | changed f _ _ like _ => exact like.modes
  | dropped f z _ changed _ like _ =>
    have still : z.mode ≠ .replay := by rw [State.mode, changed.modes]; exact notReplay
    exact (like.modes.trans (State.dropCall_modes st still)).trans changed.modes

/-- The feeder's notices, and then the stage's own. -/
theorem State.Acts.causes (acts : x.Acts y st (P.record st) (P.notices st) drop) : ∃ given,
    y.causes = x.causes ++ given ++ P.notices st ∧ (∀ c ∈ given, c.ofFeed = true) ∧ (x.mode ≠ .replay → given = []) := by
  cases acts with
  | kept _ _ causes => exact ⟨[], by simpa using causes, by simp, fun _ => rfl⟩
  | changed f _ _ _ causes => exact ⟨[], by simpa using causes, by simp, fun _ => rfl⟩
  | dropped f z _ changed kept _ causes =>
    obtain ⟨given, eq, fed⟩ := State.FeedNotices.dropCall st z
    refine ⟨given, by rw [causes, eq, kept], fed, fun notReplay => ?_⟩
    have same := State.dropCall_quiet_causes (x := z) st (by rw [State.mode, changed.modes]; exact notReplay)
    rw [eq] at same
    exact List.append_right_eq_self.mp same

theorem State.Acts.follows (acts : x.Acts y st (P.record st) (P.notices st) drop) (h : x.Follows (P.after s l)) :
    y.Follows (P.after s (l ++ [st])) := by
  have self := P.after_self s l st
  have others : ∀ st', st' ≠ st → P.after s (l ++ [st]) st' = P.after s l st' := fun st' other => P.after_other s l other
  cases acts with
  | kept stage like _ => exact like.follows (h.own (stage.trans self.symm) others)
  | changed f stage _ like _ => exact like.follows (h.onStage (stage.trans self.symm) others)
  | dropped f z stage changed _ like _ =>
    have own : z.stage st = P.after s (l ++ [st]) st :=
      ((changed.stage st).trans (x.stage_onStage_self st f)).trans (stage.trans self.symm)
    exact like.follows ((changed.follows (h.onStage (stage.trans self.symm) others)).dropCall own)

theorem State.Acts.unfed (acts : x.Acts y st (P.record st) (P.notices st) drop) {st' : StageId}
    (h : st' ≠ st → x.stage st' = P.after s l st')
    (cold : (P.after s (l ++ [st]) st').working.kind = .none ∨ (x.unit st'.unit).presence ≠ .present) :
    y.stage st' = P.after s (l ++ [st]) st' := by
  have changedStage : ∀ f : Stage → Stage, f (x.stage st) = P.record st →
      (x.onStage st f).stage st' = P.after s (l ++ [st]) st' := by
    intro f stage
    rw [State.stage_onStage]
    by_cases same : st' = st
    · rw [if_pos same, stage, same, P.after_self]
    · rw [if_neg same, h same, P.after_other s l same]
  cases acts with
  | kept stage like _ =>
    rw [like.stage]
    by_cases same : st' = st
    · rw [same, stage, P.after_self]
    · rw [h same, P.after_other s l same]
  | changed f stage _ like _ => rw [like.stage]; exact changedStage f stage
  | dropped f z stage changed _ like _ =>
    have now := (changed.stage st').trans (changedStage f stage)
    have unfed : z.unfeedable st' := cold.symm.imp (fun absent => by rw [changed.presence]; exact absent) fun kind => .inl (now ▸ kind)
    rw [like.stage, unfed.dropCall, now]

theorem State.Acts.quiet (acts : x.Acts y st (P.record st) (P.notices st) drop) (q : s.QuietlyRemoved x (l.filter P.out))
    (notReplay : x.mode ≠ .replay) (new : st ∉ l) (out : drop = P.out st) :
    s.QuietlyRemoved y ((l ++ [st]).filter P.out) := by
  have unlisted : drop = false → (l ++ [st]).filter P.out = l.filter P.out := fun none => by simp [← out, none]
  cases acts with
  | kept _ like _ => rw [unlisted rfl]; exact like.quietly q
  | changed f _ _ like _ =>
    rw [unlisted rfl]
    exact like.quietly ⟨q.calls, q.marker, q.onsets, q.rosterDropped, q.store⟩
  | dropped f z _ changed _ like _ =>
    have listed : (l ++ [st]).filter P.out = l.filter P.out ++ [st] := by simp [← out]
    rw [listed]
    have onStage : s.QuietlyRemoved (x.onStage st f) (l.filter P.out) := ⟨q.calls, q.marker, q.onsets, q.rosterDropped, q.store⟩
    have still : z.mode ≠ .replay := by rw [State.mode, changed.modes]; exact notReplay
    exact like.quietly ((changed.quietly onStage).next still (by simp [new]))

theorem State.Like.trace {R : List RosterEntry} (h : x.Like y) (t : ReplayTrace s x R l) : ReplayTrace s y R l :=
  t.congr h.stages h.calls h.marker h.modes h.store h.dropped

/-- A stage's record changes, and its call entry is dropped. -/
theorem ReplayTrace.dropChanged {R : List RosterEntry} (t : ReplayTrace s x R l)
    (distinct : (s.modes.roster.map RosterEntry.stage).Nodup) (st : StageId) {f : Stage → Stage} {z : State}
    (like : (x.onStage st f).Like z) : ∃ R', ReplayTrace s (z.dropCall st) R' (l ++ [st]) := by
  have calls : z.calls = x.calls := like.calls
  have modes : z.modes = x.modes := like.modes
  have queued : z.CallsQueued [st] := fun e he other => by
    rw [like.stage, x.stage_onStage_other _ (by simpa using other)]
    exact t.queued e (calls ▸ he) (by simp)
  have hasRoster : z.HasRoster R := by
    unfold State.HasRoster State.mode
    rw [modes]; exact t.hasRoster
  exact ReplayTrace.dropCall distinct (t.roster.congr (by rw [modes]) (by rw [modes]) like.dropped)
    (t.queue.congr calls like.marker like.store) queued hasRoster t.full

theorem State.Acts.replay (acts : x.Acts y st (P.record st) (P.notices st) drop)
    (distinct : (s.modes.roster.map RosterEntry.stage).Nodup) {R : List RosterEntry}
    (t : ReplayTrace s x R (l.filter P.outReplay))
    (out : drop = P.outReplay st ∨ (drop = false ∧ (x.stage st).state ≠ .queued)) :
    ∃ R', ReplayTrace s y R' ((l ++ [st]).filter P.outReplay) := by
  cases listed : P.outReplay st with
  | false =>
    have same : (l ++ [st]).filter P.outReplay = l.filter P.outReplay := by simp [listed]
    rw [same]
    cases acts with
    | kept _ like _ => exact ⟨R, like.trace t⟩
    | changed f stage unqueued like _ =>
      refine ⟨R, like.trace ⟨⟨t.roster.congr rfl rfl rfl, t.queue.congr rfl rfl rfl, fun e he _ => ?_⟩, t.hasRoster, t.full⟩⟩
      have queued := t.queued e he (by simp)
      rw [State.stage_onStage]
      split
      · next own =>
        rw [own] at queued
        rw [stage]
        exact unqueued.resolve_left fun h => h queued
      · exact queued
    | dropped f z _ _ _ _ _ => exact absurd listed (by rw [← out.resolve_right fun h => absurd h.1 (by simp)]; simp)
  | true =>
    have more : (l ++ [st]).filter P.outReplay = l.filter P.outReplay ++ [st] := by simp [listed]
    rw [more]
    have none : drop = false → ∀ e ∈ x.calls.entries, e.stage ≠ st := fun undropped e he own => by
      rcases out with h | ⟨-, unqueued⟩
      · rw [undropped, listed] at h; cases h
      · exact unqueued (own ▸ t.queued e he (by simp))
    cases acts with
    | kept _ like _ =>
      have queued : x.CallsQueued [st] := fun e he _ => t.queued e he (by simp)
      obtain ⟨R', next⟩ := ReplayTrace.dropCall distinct t.roster t.queue queued t.hasRoster t.full
      rw [State.dropCall_none (State.callOf_eq_none.mpr (none rfl))] at next
      exact ⟨R', like.trace next⟩
    | changed f _ _ like _ =>
      obtain ⟨R', next⟩ := t.dropChanged distinct st (.refl (x.onStage st f))
      rw [State.dropCall_none (State.callOf_eq_none.mpr (by exact none rfl))] at next
      exact ⟨R', like.trace next⟩
    | dropped f z _ changed _ like _ =>
      obtain ⟨R', next⟩ := t.dropChanged distinct st changed
      exact ⟨R', like.trace next⟩

/-- One more stage is acted on. -/
theorem State.Acted.next (a : s.Acted P x l) (new : st ∉ l) (acts : x.Acts y st (P.record st) (P.notices st) drop)
    (own : ∀ c ∈ P.notices st, c.ofFeed = false) (quiet : s.mode ≠ .replay → drop = P.out st)
    (replay : s.mode = .replay → drop = P.outReplay st ∨ (drop = false ∧ (x.stage st).state ≠ .queued)) :
    s.Acted P y (l ++ [st]) := by
  have mode : s.mode ≠ .replay → x.mode ≠ .replay := fun notReplay => by rw [State.mode, a.modes notReplay]; exact notReplay
  obtain ⟨fed, causes, ofFeed, none⟩ := acts.causes
  refine ⟨acts.store.trans a.store, fun u => (acts.presence u).trans (a.presence u), acts.follows a.follows,
    fun st' cold => ?_, ?_, fun notReplay => (acts.modes (mode notReplay)).trans (a.modes notReplay), fun notReplay => ?_,
    fun inReplay calls roster => ?_⟩
  · refine acts.unfed (fun other => a.unfed st' ?_) (cold.imp_right fun h => by rw [a.presence]; exact h)
    rw [← P.after_other s l other]; exact cold
  · obtain ⟨given, eq, filtered⟩ := a.notices
    refine ⟨given ++ fed ++ P.notices st, by rw [causes, eq]; simp, ?_⟩
    have noFed : fed.filter (fun c => !c.ofFeed) = [] := List.filter_eq_nil_iff.mpr fun c hc => by simp [ofFeed c hc]
    have allOwn : (P.notices st).filter (fun c => !c.ofFeed) = P.notices st :=
      List.filter_eq_self.mpr fun c hc => by simp [own c hc]
    rw [List.filter_append, List.filter_append, filtered, noFed, allOwn]
    simp
  · obtain ⟨q, eq⟩ := a.quiet notReplay
    refine ⟨acts.quiet q (mode notReplay) new (quiet notReplay), ?_⟩
    rw [causes, none (mode notReplay), eq]
    simp
  · obtain ⟨R, t⟩ := a.replay inReplay calls roster
    exact acts.replay roster.1 t (replay inReplay)

/-- One more stage is left as it stands. -/
theorem State.Acted.skip (a : s.Acted P x l) (like : x.Like y) (causes : y.causes = x.causes) (record : P.record st = s.stage st)
    (notices : P.notices st = []) (new : st ∉ l) (out : P.out st = false) (outReplay : P.outReplay st = false) :
    s.Acted P y (l ++ [st]) := by
  have after : P.after s (l ++ [st]) = P.after s l := funext fun st' => by
    by_cases same : st' = st
    · rw [same, P.after_self, record, StagePlan.after, if_neg new]
    · exact P.after_other s l same
  have given : (l ++ [st]).flatMap P.notices = l.flatMap P.notices := by simp [notices]
  have named : (l ++ [st]).filter P.out = l.filter P.out := by simp [out]
  have namedReplay : (l ++ [st]).filter P.outReplay = l.filter P.outReplay := by simp [outReplay]
  refine ⟨like.store.trans a.store, fun u => (like.presence u).trans (a.presence u), after ▸ like.follows a.follows,
    fun st' cold => ?_, ?_, fun notReplay => like.modes.trans (a.modes notReplay), fun notReplay => ?_,
    fun inReplay calls roster => ?_⟩
  · rw [after] at cold ⊢
    exact (like.stage st').trans (a.unfed st' cold)
  · rw [causes, given]; exact a.notices
  · rw [causes, given, named]
    obtain ⟨q, eq⟩ := a.quiet notReplay
    exact ⟨like.quietly q, eq⟩
  · rw [namedReplay]
    obtain ⟨R, t⟩ := a.replay inReplay calls roster
    exact ⟨R, like.trace t⟩

end

end Sys2Proof.Machine
end

section
/-! Proofs/Absences.lean: a unit error, and the holding of the stages of a unit declared ABSENT (O34). -/

namespace Sys2Proof.Machine

/-- Each stage has its record, or, in REPLAY, the feeder has QUEUED it since. -/
theorem State.Acted.leftOrFed {P : StagePlan} {s x : State} {l : List StageId} (a : s.Acted P x l) (st : StageId) :
    s.leftOrFed x st (P.after s l st) := by
  rcases a.follows with ⟨inReplay, h⟩ | ⟨-, h⟩
  · refine (h st).imp_right fun ⟨idle, queued, fed⟩ => ⟨?_, inReplay, idle, queued, List.mem_of_mem_drop fed⟩
    by_contra notReplay
    rw [State.mode, a.modes notReplay] at inReplay
    exact notReplay inReplay
  · exact .inl (h st)

theorem flatMap_if {α β : Type} (l : List α) (test : α → Bool) (b : β) :
    (l.flatMap fun a => if test a then [b] else []) = List.replicate (l.countP test) b := by
  induction l with
  | nil => rfl
  | cons a l ih =>
    rw [List.flatMap_cons, ih, List.countP_cons]
    cases test a <;> simp [List.replicate_succ]

/-- With exact sums C_run holds the load of each stage that counts in it (R10). -/
theorem StageTable.runLoad_le {t : StageTable} (exact_ : t.sumsExact) (st : StageId) : (t.get st).runLoad ≤ t.cRun := by
  rw [exact_.1]
  exact List.le_sum_of_mem (List.mem_map_of_mem (t.get_mem st))

/-- A stage that a hold makes HELD (R23). -/
def Stage.isHeldBy (r : Stage) : Bool := r.state == .granted || r.state == .running || r.state == .stopping

/-- The record a hold leaves (R23, R13). -/
def Stage.heldBy (r : Stage) : Stage :=
  if r.isHeldBy then { r with state := .held, handshake := 0, run := 0, rosterFlag := false }
  else if r.state = .queued then { r with state := .idle }
  else r

/-- What the hold of its stages makes of a unit declared ABSENT in the state s (R23, R128). -/
def State.holdPlan (s : State) : StagePlan where
  record st := (s.stage st).heldBy
  out st := (s.stage st).state == .queued
  outReplay st := (s.stage st).state == .queued
  notices st := if (s.stage st).isHeldBy then [.pass .stageChange] else []

/-- The three cases of a hold. -/
theorem State.holdStage_held {x : State} {st : StageId} (h : (x.stage st).isHeldBy = true) : x.holdStage st =
    (x.onStage st fun r => { r with state := .held, handshake := 0, run := 0, rosterFlag := false }).give (.pass .stageChange) := by
  simp only [Stage.isHeldBy, Bool.or_eq_true, beq_iff_eq] at h
  rcases h with (h | h) | h <;> simp only [State.holdStage, h]

theorem State.holdStage_queued {x : State} {st : StageId} (h : (x.stage st).state = .queued) :
    x.holdStage st = (x.onStage st fun r => { r with state := .idle }).dropCall st := by
  simp only [State.holdStage, h]

theorem State.holdStage_other {x : State} {st : StageId} (h : (x.stage st).isHeldBy = false) (queued : (x.stage st).state ≠ .queued) :
    x.holdStage st = x := by
  simp only [Stage.isHeldBy, Bool.or_eq_false_iff, beq_eq_false_iff_ne] at h
  obtain ⟨⟨granted, running⟩, stopping⟩ := h
  unfold State.holdStage
  split <;> simp_all

theorem State.holdStage_acts {s x : State} {st : StageId} (was : x.stage st = s.stage st) :
    x.Acts (x.holdStage st) st (s.holdPlan.record st) (s.holdPlan.notices st) (s.holdPlan.out st) := by
  by_cases held : (s.stage st).isHeldBy = true
  · have unqueued : (s.stage st).state ≠ .queued := fun h => by simp [Stage.isHeldBy, h] at held
    have record : s.holdPlan.record st = { s.stage st with state := .held, handshake := 0, run := 0, rosterFlag := false } :=
      if_pos held
    have out : s.holdPlan.out st = false := by simpa [State.holdPlan] using unqueued
    rw [State.holdStage_held (was ▸ held), record, out, show s.holdPlan.notices st = _ from if_pos held]
    exact .changed _ (by rw [was]) (.inl (was ▸ unqueued)) (.withCauses _ _) rfl
  · have none : s.holdPlan.notices st = [] := if_neg held
    by_cases queued : (s.stage st).state = .queued
    · have record : s.holdPlan.record st = { s.stage st with state := .idle } := (if_neg held).trans (if_pos queued)
      have out : s.holdPlan.out st = true := by simpa [State.holdPlan] using queued
      rw [State.holdStage_queued (was ▸ queued), record, out, none]
      exact .dropped _ _ (by rw [was]) (.refl _) rfl (.refl _) (by simp)
    · have record : s.holdPlan.record st = s.stage st := (if_neg held).trans (if_neg queued)
      have out : s.holdPlan.out st = false := by simpa [State.holdPlan] using queued
      rw [State.holdStage_other (was ▸ Bool.eq_false_of_not_eq_true held) (was ▸ queued), record, out, none]
      exact .kept was (.refl _) (by simp)

/-- The loads a hold moves from C_pend to C_run (R10, R23). -/
def State.heldLoads (s : State) (l : List StageId) : Nat :=
  (l.map fun st => if (s.stage st).state = .granted then (s.stage st).working.load else 0).sum

theorem State.CallFrame.onStage {s x : State} (h : s.CallFrame x) (st : StageId) (f : Stage → Stage) : s.CallFrame (x.onStage st f) :=
  h.trans rfl

/-- From s to x the stages of l have been held: what the hold leaves alone, and the sums. -/
structure State.Holds (s x : State) (l : List StageId) : Prop where
  frame : s.CallFrame x
  runOrder : x.stages.runOrder = s.stages.runOrder
  cRun : s.stages.sumsExact → x.stages.cRun = s.stages.cRun + s.heldLoads l
  cPend : s.stages.sumsExact → x.stages.cPend = s.stages.cPend - s.heldLoads l
  counters : ∀ c : Counter, c ≠ .congestionOnsets → c ≠ .rosterDropped → x.counter c = s.counter c

/-- One more stage is held. -/
theorem State.Holds.next {s x : State} {l : List StageId} (h : s.Holds x l) {st : StageId} (was : x.stage st = s.stage st) :
    s.Holds (x.holdStage st) (l ++ [st]) := by
  have grows : s.heldLoads (l ++ [st]) = s.heldLoads l +
      if (s.stage st).state = .granted then (s.stage st).working.load else 0 := by simp [State.heldLoads]
  by_cases held : (s.stage st).isHeldBy = true
  · let r : Stage := { s.stage st with state := .held, handshake := 0, run := 0, rosterFlag := false }
    have put : (x.holdStage st).stages = x.stages.put st r := by
      simp only [r]
      rw [State.holdStage_held (was ▸ held), ← was]; rfl
    have same : x.stages.get st = s.stage st := was
    have listed : (s.stage st).state.listed = true := by
      simp only [Stage.isHeldBy, Bool.or_eq_true, beq_iff_eq] at held
      rcases held with (h | h) | h <;> rw [h] <;> rfl
    refine ⟨?_, ?_, fun exact_ => ?_, fun exact_ => ?_, fun c onset roster => ?_⟩
    · rw [State.holdStage_held (was ▸ held)]; exact h.frame.trans rfl
    · rw [put, StageTable.put_runOrder, if_pos (show r.state.listed = true from rfl), same, if_pos listed]; exact h.runOrder
    · have run : (x.holdStage st).stages.cRun = x.stages.cRun - (s.stage st).runLoad + (s.stage st).working.load := by
        rw [put, ← same]
        exact congrArg (fun n => x.stages.cRun - (x.stages.get st).runLoad + n) (show r.runLoad = _ by rw [same]; rfl)
      have most := StageTable.runLoad_le exact_ st
      rw [State.stages_get] at most
      rw [run, h.cRun exact_, grows]
      by_cases granted : (s.stage st).state = .granted
      · rw [if_pos granted, show (s.stage st).runLoad = 0 by simp [Stage.runLoad_eq, granted]]; omega
      · have counts : (s.stage st).runLoad = (s.stage st).working.load := by
          simp only [Stage.isHeldBy, Bool.or_eq_true, beq_iff_eq] at held
          rw [Stage.runLoad_eq, if_pos (by tauto)]
        rw [if_neg granted]; omega
    · have pend : (x.holdStage st).stages.cPend = x.stages.cPend - (s.stage st).pendLoad := by
        rw [put, ← same]; rfl
      rw [pend, h.cPend exact_, grows, Nat.sub_sub]; rfl
    · rw [State.holdStage_held (was ▸ held)]; exact h.counters c onset roster
  · by_cases queued : (s.stage st).state = .queued
    · have unlisted := x.stages.put_unlisted_unlisted st { x.stage st with state := .idle } rfl
        (by rw [State.stages_get, was, queued]; rfl)
      obtain ⟨run, pend, order⟩ := unlisted
      have dropped := State.QueueOnly.dropCall st (x.onStage st fun r => { r with state := .idle })
      have grows' : s.heldLoads (l ++ [st]) = s.heldLoads l := by rw [grows, queued]; simp
      rw [State.holdStage_queued (was ▸ queued)]
      refine ⟨(h.frame.onStage st _).trans dropped.frame, (dropped.runOrder.trans order).trans h.runOrder,
        fun exact_ => grows' ▸ (dropped.cRun.trans run).trans (h.cRun exact_),
        fun exact_ => grows' ▸ (dropped.cPend.trans pend).trans (h.cPend exact_),
        fun c onset roster => (dropped.counters c onset roster).trans (h.counters c onset roster)⟩
    · have granted : (s.stage st).state ≠ .granted := fun is => held (by simp [Stage.isHeldBy, is])
      have grows' : s.heldLoads (l ++ [st]) = s.heldLoads l := by rw [grows, if_neg granted, Nat.add_zero]
      rw [State.holdStage_other (was ▸ Bool.eq_false_of_not_eq_true held) (was ▸ queued)]
      exact ⟨h.frame, h.runOrder, grows' ▸ h.cRun, grows' ▸ h.cPend, h.counters⟩

theorem State.foldl_holdStage {s : State} {u : UnitId} (absent : (s.unit u).presence = .absent) (l : List StageId)
    (distinct : l.Nodup) (own : ∀ st ∈ l, st.unit = u) :
    let x := l.foldl (fun s st => s.holdStage st) s
    s.Acted s.holdPlan x l ∧ s.Holds x l := by
  induction l using List.reverseRecOn with
  | nil => exact ⟨.refl _ s, rfl, rfl, fun _ => rfl, fun _ => rfl, fun _ _ _ => rfl⟩
  | append_singleton l st ih =>
    obtain ⟨new, distinct⟩ := List.nodup_cons.mp (List.perm_append_singleton st l |>.nodup_iff.mp distinct)
    obtain ⟨a, h⟩ := ih distinct fun st' mem => own st' (by simp [mem])
    have kept : s.holdPlan.after s l st = s.stage st := if_neg new
    have was := (a.unfed st (.inr (by rw [own st (by simp), absent]; simp))).trans kept
    rw [List.foldl_concat]
    refine ⟨a.next new (State.holdStage_acts was) (fun c hc => ?_) (fun _ => rfl) fun _ => .inl rfl, h.next was⟩
    simp only [State.holdPlan] at hc
    split at hc
    · rw [List.mem_singleton.mp hc]; rfl
    · cases hc

/-- What has been removed outside REPLAY, by the stages named (R73, R76, R92). -/
theorem State.QuietlyRemoved.named {s s' p : State} {l : List StageId} {out : StageId → Bool} (q : s'.QuietlyRemoved p l)
    (calls : s'.calls = s.calls) (arbiter : s'.arbiter = s.arbiter) (stages : s'.stages = s.stages) (store : s'.store = s.store)
    (counted : s'.counter .congestionOnsets = s.counter .congestionOnsets)
    (named : ∀ e ∈ s.calls.entries, decide (e.stage ∈ l) = out e.stage) :
    let removed := s.calls.entries.filter fun e => out e.stage
    p.calls = { s.calls with
      entries := s.calls.entries.filter fun e => !out e.stage
      congested := if removed = [] then s.calls.congested
        else decide (s.setting .congestionThreshold ≤ p.calls.entries.length) } ∧
    p.arbiter.marker = s.arbiter.marker.filter (fun m => !(removed.any fun e => e.stage == m.stage)) ∧
    (s.callsExact → p.counter .congestionOnsets =
      if removed ≠ [] ∧ s.calls.congested = false ∧ s.setting .congestionThreshold + 1 ≤ s.calls.entries.length then
        min 65535 (s.counter .congestionOnsets + 1) else s.counter .congestionOnsets) := by
  intro removed
  have left : (s.calls.entries.filter fun e => !decide (e.stage ∈ l)) = s.calls.entries.filter fun e => !out e.stage :=
    List.filter_congr fun e he => by rw [named e he]
  have removedEq : s'.entriesOf l = removed := by
    rw [State.entriesOf, calls]; exact List.filter_congr named
  have setting : s'.setting .congestionThreshold = s.setting .congestionThreshold := by rw [State.setting, store]; rfl
  have after := q.calls
  have marker := q.marker
  have onsets := q.onsets
  rw [removedEq, calls, left, setting] at after
  rw [removedEq, arbiter] at marker
  refine ⟨?_, marker, fun exact_ => ?_⟩
  · have entries : p.calls.entries = s.calls.entries.filter fun e => !out e.stage := congrArg CallQueue.entries after
    rw [entries]; exact after
  · have exact' : s'.callsExact := by
      unfold State.callsExact State.stage
      rw [calls, stages]; exact exact_
    rw [onsets exact', removedEq, calls, setting, counted]; rfl

theorem State.replayRemoved_congr {s s' p : State} {out : StageId → Bool} (calls : s'.calls = s.calls) (modes : s'.modes = s.modes)
    (arbiter : s'.arbiter = s.arbiter) (dropped : s'.counter .rosterDropped = s.counter .rosterDropped)
    (h : s'.replayRemoved p out) : s.replayRemoved p out := by
  simp only [State.replayRemoved, State.markerExact, State.mode, calls, modes, arbiter, dropped] at h ⊢
  exact h

theorem mem_holdPlan_out (s : State) (u : UnitId) (st : StageId) :
    decide (st ∈ (stagesOf u).filter s.holdPlan.out) = (st.unit == u && (s.stage st).state == .queued) := by
  rw [Bool.eq_iff_iff]
  simp only [decide_eq_true_eq, List.mem_filter, mem_stagesOf, Bool.and_eq_true, beq_iff_eq]
  exact and_congr_right fun _ => beq_iff_eq

/-- Each stage made HELD gives a stage change (R81). -/
theorem holdPlan_notices (s : State) (u : UnitId) : (stagesOf u).flatMap s.holdPlan.notices =
    List.replicate (slots.countP fun k =>
      let x := s.stage { unit := u, slot := k }
      decide (x.state = .granted ∨ x.state = .running ∨ x.state = .stopping)) (.pass .stageChange) := by
  refine (flatMap_if (stagesOf u) (fun st => (s.stage st).isHeldBy) _).trans ?_
  rw [stagesOf, List.countP_map]
  refine congrArg (fun n => List.replicate n _) (List.countP_congr fun k _ => ?_)
  simp [Stage.isHeldBy, or_assoc]

/-- A feeding gives none of the stages' own notices: those given are all of a kind. -/
theorem filter_own {given own : List Cause} {test : Cause → Bool} (h : given.filter (fun c => !c.ofFeed) = own)
    (unfed : ∀ c, test c = true → c.ofFeed = false) (tested : ∀ c ∈ own, test c = true) : given.filter test = own := by
  have twice : given.filter test = (given.filter fun c => !c.ofFeed).filter test := by
    rw [List.filter_filter]
    refine List.filter_congr fun c _ => ?_
    by_cases is : test c = true
    · simp [is, unfed c is]
    · simp [is]
  rw [twice, h]
  exact List.filter_eq_self.mpr tested

theorem Stage.heldBy_running {r : Stage} (h : r.state = .granted ∨ r.state = .running ∨ r.state = .stopping) :
    r.heldBy = { r with state := .held, handshake := 0, run := 0, rosterFlag := false } :=
  if_pos (by simpa [Stage.isHeldBy, or_assoc] using h)

theorem Stage.heldBy_queued {r : Stage} (h : r.state = .queued) : r.heldBy = { r with state := .idle } :=
  (if_neg (by simp [Stage.isHeldBy, h])).trans (if_pos h)

theorem Stage.heldBy_resting {r : Stage} (h : r.state = .idle ∨ r.state = .held ∨ r.state = .tripped) : r.heldBy = r := by
  have unheld : ¬ r.isHeldBy = true := by rcases h with h | h | h <;> simp [Stage.isHeldBy, h]
  have unqueued : r.state ≠ .queued := by rcases h with h | h | h <;> simp [h]
  exact (if_neg unheld).trans (if_neg unqueued)

/-- The state in which a unit has just been declared ABSENT, its stages not yet held (R127, R128). -/
def State.absence (s : State) (u : UnitId) : State :=
  (((s.onUnit u UnitRec.failed).bump .unitErrors).onUnit u UnitRec.gone).bump .absences

theorem State.absence_unit (s : State) (u v : UnitId) :
    (s.absence u).unit v = if v = u then (s.unit u).failed.gone else s.unit v := by
  rw [State.absence, State.unit_bump_onUnit]
  split
  · rw [State.unit_bump_onUnit, if_pos rfl]
  · next other => rw [State.unit_bump_onUnit, if_neg other]

theorem State.absence_counter (s : State) (u : UnitId) (c : Counter) : (s.absence u).counter c =
    if c = .unitErrors ∨ c = .absences then min 65535 (s.counter c + 1) else s.counter c := by
  have first : ((s.onUnit u UnitRec.failed).bump .unitErrors).counter c =
      if c = .unitErrors then min 65535 (s.counter c + 1) else s.counter c := by
    rw [State.bump_counter]
    by_cases own : c = .unitErrors
    · subst own; rfl
    · rw [if_neg own, if_neg own]; rfl
  rw [State.absence, State.bump_counter]
  by_cases own : c = .absences
  · subst own
    rw [if_pos rfl, if_pos (.inr rfl)]
    exact congrArg (fun n => min 65535 (n + 1)) (first.trans (if_neg (by simp)))
  · rw [if_neg own]
    exact first.trans (if_congr ⟨.inl, fun h => h.resolve_right own⟩ rfl rfl)

/-- At the threshold the unit's stages are held one after another. -/
theorem State.unitError_full {s : State} {u : UnitId} (present : (s.unit u).presence = .present)
    (full : (s.unit u).errors + 1 = s.setting .errorThreshold) :
    (s.absence u).Acted (s.absence u).holdPlan (s.unitError u) (stagesOf u) ∧ (s.absence u).Holds (s.unitError u) (stagesOf u) := by
  have absent : ((s.absence u).unit u).presence = .absent := by rw [State.absence_unit, if_pos rfl]; rfl
  have folded := State.foldl_holdStage absent (stagesOf u) (stagesOf_nodup u) fun st mem => mem_stagesOf.mp mem
  rw [State.unitError_eq, if_pos present, if_pos full, State.declareAbsent_eq]
  exact folded

end Sys2Proof.Machine

namespace Sys2Proof.Proofs
open Sys2Proof.Machine

/-- Settles O34: below the threshold a count; at it the unit's stages are held one after another (`State.Holds`), no stage of
the unit being fed meanwhile (`State.Acted`). -/
theorem unitErrorsAreCounted : Obligations.UnitErrorsAreCounted := by
  intro s u r
  refine ⟨fun absent => ?_, fun present few => ?_, fun present full => ?_⟩
  · rw [State.unitError_eq, if_neg absent]
  · rw [State.unitError_eq, if_pos present, if_neg few]; rfl
  intro p slots out removed held
  obtain ⟨a, h⟩ := State.unitError_full present full
  have stages : (s.absence u).stages = s.stages := rfl
  have stage : ∀ st, (s.absence u).stage st = s.stage st := fun _ => rfl
  have mode : (s.absence u).mode = s.mode := rfl
  have unit : ∀ v, p.unit v = if v = u then (s.unit u).failed.gone else s.unit v := fun v => by
    rw [← s.absence_unit, State.unit, h.frame.supervisor, State.unit]
  have counter : ∀ c, c ≠ .unitErrors ∧ c ≠ .absences → (s.absence u).counter c = s.counter c := fun c other => by
    rw [State.absence_counter, if_neg (not_or.mpr other)]
  have after : ∀ k : Slot, p.stage { unit := u, slot := k } = (s.stage { unit := u, slot := k }).heldBy := fun k =>
    ((a.unfed { unit := u, slot := k } (.inr (by rw [State.absence_unit, if_pos rfl]; simp [UnitRec.gone]))).trans
      (StagePlan.after_mem _ _ (mem_stagesOf.mpr rfl))).trans (congrArg Stage.heldBy (stage _))
  have notices : (stagesOf u).flatMap (s.absence u).holdPlan.notices = held := holdPlan_notices _ u
  refine ⟨?_, fun v other => ?_, ?_, ?_, ?_, fun k runs => ?_, h.runOrder, fun exact_ => ?_, fun st other => ?_,
    fun k => ⟨fun queued => ?_, fun rests => ?_⟩, fun c other => ?_, ?_, ?_, fun notReplay => ?_, fun replay calls roster => ?_⟩
  · rw [unit, if_pos rfl]; rfl
  · rw [unit, if_neg other]
  · rw [h.frame.supervisor]; rfl
  · rw [h.counters _ (by simp) (by simp), State.absence_counter, if_pos (.inl rfl)]
  · rw [h.counters _ (by simp) (by simp), State.absence_counter, if_pos (.inr rfl)]
  · rw [after, Stage.heldBy_running runs]
  · intro moved
    have loads : (s.absence u).heldLoads (stagesOf u) = moved := by
      rw [State.heldLoads, stagesOf, List.map_map]; rfl
    have run := h.cRun exact_
    have pend := h.cPend exact_
    rw [loads, stages] at run pend
    exact ⟨run, pend⟩
  · have fed := a.leftOrFed st
    rw [StagePlan.after, if_neg (mt mem_stagesOf.mp other), stage] at fed
    exact fed.imp_right fun ⟨inReplay, rest⟩ => ⟨inReplay, rest⟩
  · rw [after, Stage.heldBy_queued queued]
  · rw [after, Stage.heldBy_resting rests]
  · simp only [List.mem_cons, List.not_mem_nil, or_false, not_or] at other
    obtain ⟨errors, absences, onsets, roster⟩ := other
    exact (h.counters c onsets roster).trans (counter c ⟨errors, absences⟩)
  · obtain ⟨given, causes, own⟩ := a.notices
    refine ⟨given, causes, filter_own (own.trans notices) (fun c is => ?_) fun c hc => ?_⟩
    · rw [beq_iff_eq.mp is]; rfl
    · rw [List.eq_of_mem_replicate hc]; rfl
  · exact (congrArg (fun w : State => { w with supervisor := p.supervisor }) h.frame).trans rfl
  · obtain ⟨q, causes⟩ := a.quiet notReplay
    obtain ⟨calls, marker, onsets⟩ := q.named (s := s) (out := out) rfl rfl stages rfl (counter _ (by simp))
      fun e _ => mem_holdPlan_out (s.absence u) u e.stage
    exact ⟨calls, marker, onsets, a.modes notReplay, q.rosterDropped.trans (counter _ (by simp)), by rw [causes, notices]; rfl⟩
  · obtain ⟨R, t⟩ := a.replay replay calls roster
    have removed := t.replayRemoved (congrArg State.arbiter h.frame) roster.1
    rw [show (fun st => decide (st ∈ (stagesOf u).filter (s.absence u).holdPlan.outReplay)) = out from
      funext (mem_holdPlan_out (s.absence u) u)] at removed
    exact State.replayRemoved_congr (s' := s.absence u) rfl rfl rfl (counter _ (by simp)) removed

end Sys2Proof.Proofs
end

section
/-! Proofs/Reconciliation.lean: an accepted beacon is reconciled slot by slot (O33). -/

namespace Sys2Proof.Machine

/-! ### What becomes of one slot -/

def Stage.waits (r : Stage) : Bool := decide (r.state = .idle ∨ r.state = .queued)

/-- The slot is adopted, confirmed, resumed, an anomaly or released (R131). -/
def Stage.adopted (reported : Bool) (r : Stage) : Bool := reported && r.waits && r.working.kind != .none

def Stage.confirmed (reported : Bool) (r : Stage) : Bool := reported && r.state == .granted

def Stage.resumed (reported : Bool) (r : Stage) : Bool := reported && r.state == .held

def Stage.odd (reported : Bool) (r : Stage) : Bool := reported && (r.state == .tripped || (r.waits && r.working.kind == .none))

def Stage.ended (reported : Bool) (r : Stage) : Bool :=
  !reported && decide (r.state = .running ∨ r.state = .stopping ∨ r.state = .held)

/-- The record the reconciliation leaves (R131). -/
def Stage.reconciledBy (stored : Profile) (reported : Bool) (r : Stage) : Stage :=
  if r.adopted reported then r.adoptedBy none
  else if r.confirmed reported then r.confirmedBy
  else if r.resumed reported then { r with state := .running, rest := 0, run := 0 }
  else if r.ended reported then r.releasedBy stored
  else r

/-- The notices it gives (R81, R108, R1). -/
def Stage.reconcileNotices (reported : Bool) (r : Stage) : List Cause :=
  (if r.adopted reported || r.confirmed reported || r.resumed reported || r.ended reported then [.pass .stageChange] else []) ++
    (if r.resumed reported || ((r.adopted reported || r.confirmed reported) && r.working.minOn == 0) then [.check .settled]
      else []) ++
    if r.ended reported && r.working.minOff == 0 then [.pass .restExpiry] else []

/-- Whether a beacon reports a stage running (R131). -/
def reports (bitmap : Byte) (st : StageId) : Bool := bitmap.getLsbD st.slot.val

section
variable {x : State} {st : StageId} {bitmap : Byte}

theorem State.reconcileSlot_adopted (h : (x.stage st).adopted (reports bitmap st) = true) :
    x.reconcileSlot bitmap st = x.adoptStage st none := by
  simp only [Stage.adopted, Stage.waits, Bool.and_eq_true, decide_eq_true_eq, bne_iff_ne] at h
  obtain ⟨⟨reported, waits⟩, kind⟩ := h
  have names : namesSlot bitmap st.slot = true := reported
  rcases waits with h | h <;> simp only [State.reconcileSlot, if_pos names, h, if_neg kind]

theorem State.reconcileSlot_odd (h : (x.stage st).odd (reports bitmap st) = true) :
    x.reconcileSlot bitmap st = x.anomaly st.unit := by
  simp only [Stage.odd, Stage.waits, Bool.and_eq_true, Bool.or_eq_true, decide_eq_true_eq, beq_iff_eq] at h
  obtain ⟨reported, h⟩ := h
  have names : namesSlot bitmap st.slot = true := reported
  rcases h with h | ⟨h | h, kind⟩
  · simp only [State.reconcileSlot, if_pos names, h]
  · simp only [State.reconcileSlot, if_pos names, h, if_pos kind]
  · simp only [State.reconcileSlot, if_pos names, h, if_pos kind]

/-- A confirmation, a resume or a release is a change of the record with its notices (R131). -/
theorem State.reconcileSlot_touched (h : (x.stage st).confirmed (reports bitmap st) = true ∨
    (x.stage st).resumed (reports bitmap st) = true ∨ (x.stage st).ended (reports bitmap st) = true) :
    x.reconcileSlot bitmap st = { x.onStage st (Stage.reconciledBy (x.store.profile st) (reports bitmap st)) with
      causes := x.causes ++ (x.stage st).reconcileNotices (reports bitmap st) } := by
  have changed : ∀ r', (x.stage st).reconciledBy (x.store.profile st) (reports bitmap st) = r' →
      x.onStage st (Stage.reconciledBy (x.store.profile st) (reports bitmap st)) = { x with stages := x.stages.put st r' } :=
    fun r' eq => by rw [← eq]; rfl
  rcases h with h | h | h
  · simp only [Stage.confirmed, Bool.and_eq_true, beq_iff_eq] at h
    obtain ⟨reported, granted⟩ := h
    have eq : x.reconcileSlot bitmap st = x.confirmStage st := by
      simp only [State.reconcileSlot, if_pos (show namesSlot bitmap st.slot = true from reported), granted]
    have notices : (x.stage st).reconcileNotices (reports bitmap st) = (x.stage st).startNotices := by
      simp [Stage.reconcileNotices, Stage.adopted, Stage.waits, Stage.confirmed, Stage.resumed, Stage.ended, granted, reported,
        Stage.startNotices]
    rw [eq, notices, State.confirmStage_eq, changed (x.stage st).confirmedBy]
    simp [Stage.reconciledBy, Stage.adopted, Stage.waits, Stage.confirmed, granted, reported]
  · simp only [Stage.resumed, Bool.and_eq_true, beq_iff_eq] at h
    obtain ⟨reported, held⟩ := h
    have eq : x.reconcileSlot bitmap st = x.resumeStage st := by
      simp only [State.reconcileSlot, if_pos (show namesSlot bitmap st.slot = true from reported), held]
    have notices : (x.stage st).reconcileNotices (reports bitmap st) = [.pass .stageChange, .check .settled] := by
      simp [Stage.reconcileNotices, Stage.adopted, Stage.waits, Stage.confirmed, Stage.resumed, Stage.ended, held, reported]
    rw [eq, notices, changed { x.stage st with state := .running, rest := 0, run := 0 }]
    · simp only [State.resumeStage, State.give, List.append_assoc]; rfl
    · simp [Stage.reconciledBy, Stage.adopted, Stage.waits, Stage.confirmed, Stage.resumed, held, reported]
  · simp only [Stage.ended, Bool.and_eq_true, Bool.not_eq_true', decide_eq_true_eq] at h
    obtain ⟨reported, runs⟩ := h
    have eq : x.reconcileSlot bitmap st = x.releaseStage st := by
      have names : ¬ namesSlot bitmap st.slot = true := by
        rw [show namesSlot bitmap st.slot = false from reported]; simp
      rcases runs with h | h | h <;> simp only [State.reconcileSlot, if_neg names, h]
    have notices : (x.stage st).reconcileNotices (reports bitmap st) = (x.stage st).releaseNotices := by
      simp [Stage.reconcileNotices, Stage.adopted, Stage.confirmed, Stage.resumed, Stage.ended, reported, runs,
        Stage.releaseNotices]
    rw [eq, notices, State.releaseStage_eq, changed ((x.stage st).releasedBy (x.store.profile st))]
    simp [Stage.reconciledBy, Stage.adopted, Stage.confirmed, Stage.resumed, Stage.ended, reported, runs]

/-- What else a slot can be: it is left as it stands. -/
theorem State.reconcileSlot_left (adopted : (x.stage st).adopted (reports bitmap st) = false)
    (odd : (x.stage st).odd (reports bitmap st) = false) (confirmed : (x.stage st).confirmed (reports bitmap st) = false)
    (resumed : (x.stage st).resumed (reports bitmap st) = false) (ended : (x.stage st).ended (reports bitmap st) = false) :
    x.reconcileSlot bitmap st = x := by
  cases reported : reports bitmap st with
  | true =>
    have names : namesSlot bitmap st.slot = true := reported
    simp [Stage.adopted, Stage.odd, Stage.confirmed, Stage.resumed, Stage.waits, reported] at adopted odd confirmed resumed
    cases state : (x.stage st).state <;> simp_all [State.reconcileSlot]
  | false =>
    have names : namesSlot bitmap st.slot = false := reported
    simp [Stage.ended, reported] at ended
    cases state : (x.stage st).state <;> simp_all [State.reconcileSlot]

end

/-! ### The plan of a beacon -/

theorem Stage.reconciledBy_adopted {r : Stage} {stored : Profile} {reported : Bool} (h : r.adopted reported = true) :
    r.reconciledBy stored reported = r.adoptedBy none := if_pos h

theorem Stage.reconciledBy_confirmed {r : Stage} {stored : Profile} {reported : Bool} (h : r.confirmed reported = true) :
    r.reconciledBy stored reported = r.confirmedBy := by
  have busy := h
  simp only [Stage.confirmed, Bool.and_eq_true, beq_iff_eq] at busy
  rw [Stage.reconciledBy, if_neg (by simp [Stage.adopted, Stage.waits, busy.2]), if_pos h]

theorem Stage.reconciledBy_resumed {r : Stage} {stored : Profile} {reported : Bool} (h : r.resumed reported = true) :
    r.reconciledBy stored reported = { r with state := .running, rest := 0, run := 0 } := by
  have busy := h
  simp only [Stage.resumed, Bool.and_eq_true, beq_iff_eq] at busy
  rw [Stage.reconciledBy, if_neg (by simp [Stage.adopted, Stage.waits, busy.2]),
    if_neg (by simp [Stage.confirmed, busy.2]), if_pos h]

theorem Stage.reconciledBy_ended {r : Stage} {stored : Profile} {reported : Bool} (h : r.ended reported = true) :
    r.reconciledBy stored reported = r.releasedBy stored := by
  have busy := h
  simp only [Stage.ended, Bool.and_eq_true, Bool.not_eq_true'] at busy
  rw [Stage.reconciledBy, if_neg (by simp [Stage.adopted, busy.1]), if_neg (by simp [Stage.confirmed, busy.1]),
    if_neg (by simp [Stage.resumed, busy.1]), if_pos h]

/-- A slot that is not adopted, confirmed, resumed or released keeps its record and gives nothing. -/
theorem Stage.reconcile_left {r : Stage} {stored : Profile} {reported : Bool} (adopted : r.adopted reported = false)
    (confirmed : r.confirmed reported = false) (resumed : r.resumed reported = false) (ended : r.ended reported = false) :
    r.reconciledBy stored reported = r ∧ r.reconcileNotices reported = [] := by
  simp [Stage.reconciledBy, Stage.reconcileNotices, adopted, confirmed, resumed, ended]

/-- The reconciliation does not see that the feeder has QUEUED an IDLE stage. -/
theorem Stage.reconcile_queued {r : Stage} (idle : r.state = .idle) (reported : Bool) :
    let r' : Stage := { r with state := .queued }
    r'.adopted reported = r.adopted reported ∧ r'.odd reported = r.odd reported ∧ r'.confirmed reported = r.confirmed reported ∧
      r'.resumed reported = r.resumed reported ∧ r'.ended reported = r.ended reported ∧
      r'.reconcileNotices reported = r.reconcileNotices reported ∧ r'.adoptedBy none = r.adoptedBy none := by
  simp [Stage.adopted, Stage.odd, Stage.confirmed, Stage.resumed, Stage.ended, Stage.waits, Stage.reconcileNotices, idle,
    Stage.adoptedBy]
  exact ⟨rfl, rfl, rfl⟩

theorem Stage.reconcileNotices_adopted {r : Stage} {reported : Bool} (h : r.adopted reported = true) :
    r.reconcileNotices reported = r.startNotices := by
  have adopted := h
  simp only [Stage.adopted, Stage.waits, Bool.and_eq_true, decide_eq_true_eq] at h
  obtain ⟨⟨is, waits⟩, -⟩ := h
  have unheld : (r.state == .held) = false := by rcases waits with h | h <;> rw [h] <;> rfl
  subst is
  simp [Stage.reconcileNotices, adopted, Stage.resumed, Stage.ended, unheld, Stage.startNotices]

theorem Stage.touched_busy {r : Stage} {reported : Bool}
    (h : r.confirmed reported = true ∨ r.resumed reported = true ∨ r.ended reported = true) :
    r.state ≠ .idle ∧ r.state ≠ .queued := by
  simp only [Stage.confirmed, Stage.resumed, Stage.ended, Bool.and_eq_true, beq_iff_eq, decide_eq_true_eq] at h
  rcases h with ⟨-, h⟩ | ⟨-, h⟩ | ⟨-, h | h | h⟩ <;> simp [h]

theorem Stage.reconcileNotices_own (reported : Bool) (r : Stage) : ∀ c ∈ r.reconcileNotices reported, c.ofFeed = false := by
  intro c hc
  simp only [Stage.reconcileNotices, List.mem_append, List.mem_ite_nil_right, List.mem_singleton] at hc
  rcases hc with (⟨-, rfl⟩ | ⟨-, rfl⟩) | ⟨-, rfl⟩ <;> rfl

/-- What the reconciliation of a beacon makes of the stages of its unit in the state s. -/
def State.reconcilePlan (s : State) (bitmap : Byte) : StagePlan where
  record st := (s.stage st).reconciledBy (s.store.profile st) (reports bitmap st)
  out st := (s.stage st).adopted (reports bitmap st)
  outReplay st := (s.stage st).adopted (reports bitmap st)
  notices st := (s.stage st).reconcileNotices (reports bitmap st)

/-- A stage not reconciled yet stands as it did, or the feeder has QUEUED it since; the reconciliation sees no difference. -/
structure State.Seen (s x : State) (st : StageId) (reported : Bool) : Prop where
  adopted : (x.stage st).adopted reported = (s.stage st).adopted reported
  odd : (x.stage st).odd reported = (s.stage st).odd reported
  confirmed : (x.stage st).confirmed reported = (s.stage st).confirmed reported
  resumed : (x.stage st).resumed reported = (s.stage st).resumed reported
  ended : (x.stage st).ended reported = (s.stage st).ended reported
  notices : (x.stage st).reconcileNotices reported = (s.stage st).reconcileNotices reported
  becomes : (x.stage st).adoptedBy none = (s.stage st).adoptedBy none
  same : (s.stage st).state ≠ .idle → x.stage st = s.stage st
  working : (x.stage st).working = (s.stage st).working

theorem State.Acted.seen {P : StagePlan} {s x : State} {l : List StageId} (a : s.Acted P x l) {st : StageId} (new : st ∉ l)
    (reported : Bool) : s.Seen x st reported := by
  have left := a.leftOrFed st
  rw [StagePlan.after, if_neg new] at left
  rcases left with same | ⟨-, -, idle, queued, -⟩
  · constructor <;> simp [same]
  · obtain ⟨adopted, odd, confirmed, resumed, ended, notices, becomes⟩ := Stage.reconcile_queued idle reported
    rw [← queued] at adopted odd confirmed resumed ended notices becomes
    exact ⟨adopted, odd, confirmed, resumed, ended, notices, becomes, fun busy => absurd idle busy, by rw [queued]⟩

theorem State.anomaly_like (x : State) (u : UnitId) : x.Like (x.anomaly u) where
  stages := by simp [State.anomaly]
  calls := by simp [State.anomaly]
  marker := by simp [State.anomaly]
  modes := by simp [State.anomaly]
  store := by simp [State.anomaly]
  presence v := by
    have unit : (x.anomaly u).unit v = ((x.onUnit u fun r => { r with anomaly := true }).bump .anomalies).unit v := by
      simp [State.anomaly, State.unit, State.formAttention]
    rw [unit, State.unit_bump_onUnit]
    split
    · next same => rw [same]
    · rfl
  dropped := by
    have same : (x.anomaly u).counter .rosterDropped = ((x.onUnit u fun r => { r with anomaly := true }).bump .anomalies).counter
      .rosterDropped := by simp [State.anomaly, State.counter]
    rw [same, State.bump_counter_other _ _ _ (by simp)]; rfl
  onsets := by
    have same : (x.anomaly u).counter .congestionOnsets = ((x.onUnit u fun r => { r with anomaly := true }).bump .anomalies).counter
      .congestionOnsets := by simp [State.anomaly, State.counter]
    rw [same, State.bump_counter_other _ _ _ (by simp)]; rfl

/-- One more slot is reconciled: the stages, the queue, the roster and the notices. -/
theorem State.Acted.reconcileSlot {s x : State} {l : List StageId} {bitmap : Byte} (a : s.Acted (s.reconcilePlan bitmap) x l)
    {st : StageId} (new : st ∉ l) : s.Acted (s.reconcilePlan bitmap) (x.reconcileSlot bitmap st) (l ++ [st]) := by
  have seen := a.seen new (reports bitmap st)
  have own := Stage.reconcileNotices_own (reports bitmap st) (s.stage st)
  by_cases adopted : (s.stage st).adopted (reports bitmap st) = true
  · have acts : x.Acts (x.reconcileSlot bitmap st) st ((s.reconcilePlan bitmap).record st) ((s.reconcilePlan bitmap).notices st) true := by
      rw [State.reconcileSlot_adopted (seen.adopted.trans adopted), State.adoptStage_eq,
        show (s.reconcilePlan bitmap).record st = _ from Stage.reconciledBy_adopted adopted]
      have notices : (x.stage st).startNotices = (s.reconcilePlan bitmap).notices st :=
        (Stage.reconcileNotices_adopted (seen.adopted.trans adopted)).symm.trans seen.notices
      rw [← notices]
      exact .dropped (Stage.adoptedBy none) _ seen.becomes (.refl _) rfl
        ⟨rfl, rfl, rfl, rfl, rfl, fun _ => rfl, State.bump_counter_other _ _ _ (by simp), State.bump_counter_other _ _ _ (by simp)⟩ rfl
    exact a.next new acts own (fun _ => adopted.symm) fun _ => .inl adopted.symm
  have adopted := Bool.eq_false_of_not_eq_true adopted
  by_cases touched : (s.stage st).confirmed (reports bitmap st) = true ∨ (s.stage st).resumed (reports bitmap st) = true ∨
      (s.stage st).ended (reports bitmap st) = true
  · have busy : (s.stage st).state ≠ .idle ∧ (s.stage st).state ≠ .queued := Stage.touched_busy touched
    have same := seen.same busy.1
    have acts : x.Acts (x.reconcileSlot bitmap st) st ((s.reconcilePlan bitmap).record st) ((s.reconcilePlan bitmap).notices st) false := by
      rw [State.reconcileSlot_touched (by rw [same]; exact touched)]
      refine .changed _ ?_ (.inl (same ▸ busy.2)) (.withCauses _ _) ?_
      · rw [same, a.store]; rfl
      · rw [same]; rfl
    exact a.next new acts own (fun _ => adopted.symm) fun _ => .inl adopted.symm
  simp only [not_or, Bool.not_eq_true] at touched
  obtain ⟨confirmed, resumed, ended⟩ := touched
  obtain ⟨record, notices⟩ := Stage.reconcile_left (stored := s.store.profile st) adopted confirmed resumed ended
  by_cases odd : (s.stage st).odd (reports bitmap st) = true
  · rw [State.reconcileSlot_odd (seen.odd.trans odd)]
    exact a.skip (x.anomaly_like _) (by simp [State.anomaly]) record notices new adopted adopted
  · have eq := State.reconcileSlot_left (seen.adopted.trans adopted) (seen.odd.trans (Bool.eq_false_of_not_eq_true odd))
      (seen.confirmed.trans confirmed) (seen.resumed.trans resumed) (seen.ended.trans ended)
    rw [eq]
    exact a.skip (.refl x) rfl record notices new adopted adopted

/-! ### The sums and the run order list -/

section
variable {x : State} {st : StageId} {bitmap : Byte}

theorem State.reconcileSlot_adopted_table (h : (x.stage st).adopted (reports bitmap st) = true) :
    let y := x.reconcileSlot bitmap st
    y.stages.cRun = x.stages.cRun + (x.stage st).working.load ∧ y.stages.cPend = x.stages.cPend ∧
      y.stages.runOrder = x.stages.runOrder ++ [st] := by
  intro y
  have dropped := State.QueueOnly.dropCall st (x.onStage st (Stage.adoptedBy none))
  have stages : y.stages = ((x.onStage st (Stage.adoptedBy none)).dropCall st).stages := by
    simp only [y]
    rw [State.reconcileSlot_adopted h, State.adoptStage_eq]; rfl
  simp only [Stage.adopted, Stage.waits, Bool.and_eq_true, decide_eq_true_eq] at h
  obtain ⟨⟨-, waits⟩, -⟩ := h
  have unlisted : (x.stages.get st).state.listed = false := by
    rw [State.stages_get]
    rcases waits with h | h <;> rw [h] <;> rfl
  rw [stages, dropped.cRun, dropped.cPend, dropped.runOrder]
  refine ⟨?_, ?_, ?_⟩
  · refine Eq.trans (b := x.stages.cRun - (x.stages.get st).runLoad + (x.stage st).working.load) rfl ?_
    rw [Stage.runLoad_unlisted unlisted, Nat.sub_zero]
  · refine Eq.trans (b := x.stages.cPend - (x.stages.get st).pendLoad) rfl ?_
    rw [Stage.pendLoad_unlisted unlisted, Nat.sub_zero]
  · refine (StageTable.put_runOrder ..).trans ?_
    exact (if_pos (show (StageState.running).listed = true from rfl)).trans (if_neg (by rw [unlisted]; simp))

theorem State.reconcileSlot_touched_table (h : (x.stage st).confirmed (reports bitmap st) = true ∨
    (x.stage st).resumed (reports bitmap st) = true ∨ (x.stage st).ended (reports bitmap st) = true) :
    (x.reconcileSlot bitmap st).stages =
      x.stages.put st ((x.stage st).reconciledBy (x.store.profile st) (reports bitmap st)) := by
  rw [State.reconcileSlot_touched h]; rfl

theorem State.reconcileSlot_confirmed_table (h : (x.stage st).confirmed (reports bitmap st) = true) :
    let y := x.reconcileSlot bitmap st
    y.stages.cRun = x.stages.cRun + (x.stage st).working.load ∧ y.stages.cPend = x.stages.cPend - (x.stage st).working.load ∧
      y.stages.runOrder = x.stages.runOrder := by
  intro y
  have stages : y.stages = _ := State.reconcileSlot_touched_table (.inl h)
  rw [Stage.reconciledBy_confirmed h] at stages
  simp only [Stage.confirmed, Bool.and_eq_true, beq_iff_eq] at h
  have granted : (x.stages.get st).state = .granted := h.2
  have run : (x.stages.get st).runLoad = 0 := by rw [Stage.runLoad_eq, granted]; rfl
  have pend : (x.stages.get st).pendLoad = (x.stage st).working.load := by
    rw [Stage.pendLoad, if_pos (by rw [granted])]; rfl
  rw [stages]
  refine ⟨?_, ?_, ?_⟩
  · refine Eq.trans (b := x.stages.cRun - (x.stages.get st).runLoad + (x.stage st).working.load) rfl ?_
    rw [run, Nat.sub_zero]
  · refine Eq.trans (b := x.stages.cPend - (x.stages.get st).pendLoad) rfl ?_
    rw [pend]
  · refine (StageTable.put_runOrder ..).trans ?_
    exact (if_pos (show (StageState.running).listed = true from rfl)).trans (if_pos (by rw [granted]; rfl))

theorem State.reconcileSlot_resumed_table (h : (x.stage st).resumed (reports bitmap st) = true) :
    let y := x.reconcileSlot bitmap st
    y.stages.cRun = x.stages.cRun - (x.stage st).working.load + (x.stage st).working.load ∧ y.stages.cPend = x.stages.cPend ∧
      y.stages.runOrder = x.stages.runOrder := by
  intro y
  have stages : y.stages = _ := State.reconcileSlot_touched_table (.inr (.inl h))
  rw [Stage.reconciledBy_resumed h] at stages
  simp only [Stage.resumed, Bool.and_eq_true, beq_iff_eq] at h
  have held : (x.stages.get st).state = .held := h.2
  obtain ⟨run, pend⟩ := Stage.loads_held held
  rw [stages]
  refine ⟨?_, ?_, ?_⟩
  · refine Eq.trans (b := x.stages.cRun - (x.stages.get st).runLoad + (x.stage st).working.load) rfl ?_
    rw [run]; rfl
  · refine Eq.trans (b := x.stages.cPend - (x.stages.get st).pendLoad) rfl ?_
    rw [pend, Nat.sub_zero]
  · refine (StageTable.put_runOrder ..).trans ?_
    exact (if_pos (show (StageState.running).listed = true from rfl)).trans (if_pos (by rw [held]; rfl))

theorem State.reconcileSlot_ended_table (h : (x.stage st).ended (reports bitmap st) = true) :
    let y := x.reconcileSlot bitmap st
    y.stages.cRun = x.stages.cRun - (x.stage st).working.load ∧ y.stages.cPend = x.stages.cPend ∧
      y.stages.runOrder = x.stages.runOrder.filter fun st' => st' != st := by
  intro y
  have stages : y.stages = _ := State.reconcileSlot_touched_table (.inr (.inr h))
  rw [Stage.reconciledBy_ended h] at stages
  simp only [Stage.ended, Bool.and_eq_true, decide_eq_true_eq] at h
  have runs : (x.stages.get st).state = .running ∨ (x.stages.get st).state = .stopping ∨ (x.stages.get st).state = .held := h.2
  have run : (x.stages.get st).runLoad = (x.stage st).working.load := by rw [Stage.runLoad_eq, if_pos runs]; rfl
  have pend : (x.stages.get st).pendLoad = 0 := by
    rcases runs with h | h | h <;> simp [Stage.pendLoad, h]
  have listed : (x.stages.get st).state.listed = true := (StageState.listed_iff _).mpr (.inr runs)
  rw [stages]
  refine ⟨?_, ?_, ?_⟩
  · refine Eq.trans (b := x.stages.cRun - (x.stages.get st).runLoad) rfl ?_
    rw [run]
  · refine Eq.trans (b := x.stages.cPend - (x.stages.get st).pendLoad) rfl ?_
    rw [pend, Nat.sub_zero]
  · refine (StageTable.put_runOrder ..).trans ?_
    exact (if_neg (show ¬ (StageState.idle).listed = true by simp [StageState.listed])).trans (if_pos listed)

end

end Sys2Proof.Machine
end

section
/-! Proofs/Beacons.lean: the slots of a beacon one after another, and the beacons that are accepted (O33). -/

namespace Sys2Proof.Machine

/-- A test of the slots of a beacon, by what the state s holds of them. -/
def State.atSlot (s : State) (bitmap : Byte) (test : Bool → Stage → Bool) (st : StageId) : Bool :=
  test (reports bitmap st) (s.stage st)

/-- The loads of the stages of a list that meet a test. -/
def State.loadsWhere (s : State) (test : StageId → Bool) (l : List StageId) : Nat :=
  ((l.filter test).map fun st => (s.stage st).working.load).sum

theorem filter_concat {α : Type} (test : α → Bool) (l : List α) (a : α) :
    (l ++ [a]).filter test = l.filter test ++ if test a then [a] else [] := by
  rw [List.filter_append, List.filter_singleton]
  cases test a <;> rfl

theorem State.loadsWhere_concat (s : State) (test : StageId → Bool) (l : List StageId) (st : StageId) :
    s.loadsWhere test (l ++ [st]) = s.loadsWhere test l + if test st then (s.stage st).working.load else 0 := by
  rw [State.loadsWhere, List.filter_append, List.filter_singleton]
  cases test st <;> simp [State.loadsWhere]

/-- From s to x nothing has changed but the blocks a beacon can change. -/
def State.BeaconFrame (s x : State) : Prop :=
  x = { s with stages := x.stages, calls := x.calls, arbiter := { s.arbiter with marker := x.arbiter.marker },
               supervisor := x.supervisor, modes := x.modes, counters := x.counters, causes := x.causes }

theorem State.BeaconFrame.trans {x y z : State} (a : x.BeaconFrame y) (b : y.BeaconFrame z) : x.BeaconFrame z :=
  Eq.trans b (congrArg (fun w : State =>
    { w with stages := z.stages, calls := z.calls, arbiter := { w.arbiter with marker := z.arbiter.marker },
             supervisor := z.supervisor, modes := z.modes, counters := z.counters, causes := z.causes }) a)

theorem State.CallFrame.beacon {x y : State} (a : x.CallFrame y) : x.BeaconFrame y := by
  unfold State.BeaconFrame
  rw [a.supervisor]
  exact a

/-- Exact sums stay exact (R10). -/
theorem State.Moves.sumsExact {s t : State} (moves : s.Moves t) (h : s.stages.sumsExact) : t.stages.sumsExact := by
  induction moves with
  | refl => exact h
  | tail _ move ih =>
    cases move with
    | rest steady stages => rwa [stages]
    | stay st r steady change same stages => rw [stages]; exact StageTable.put_sumsExact ih st r
    | leave st r steady change out stages => rw [stages]; exact StageTable.put_sumsExact ih st r
    | enter st cls replay steady idle watched room stages => rw [stages]; exact StageTable.put_sumsExact ih st _

/-- From s to x the slots of l have been reconciled: what the notices and the call queue do not say. -/
structure State.Reconciled (s x : State) (u : UnitId) (bitmap : Byte) (l : List StageId) : Prop where
  frame : s.BeaconFrame x
  runOrder : x.stages.runOrder = s.stages.runOrder.filter (fun st => !(decide (st ∈ l) && s.atSlot bitmap Stage.ended st)) ++
    l.filter (s.atSlot bitmap Stage.adopted)
  cRun : s.stages.sumsExact → x.stages.cRun + s.loadsWhere (s.atSlot bitmap Stage.ended) l =
    s.stages.cRun + s.loadsWhere (s.atSlot bitmap Stage.adopted) l + s.loadsWhere (s.atSlot bitmap Stage.confirmed) l
  cPend : x.stages.cPend = s.stages.cPend - s.loadsWhere (s.atSlot bitmap Stage.confirmed) l
  unit : ∀ v, x.unit v = if v = u then
    { s.unit u with anomaly := (s.unit u).anomaly || l.any (s.atSlot bitmap Stage.odd) } else s.unit v
  attention : x.supervisor.attention = (s.supervisor.attention || l.any (s.atSlot bitmap Stage.odd))
  adoptions : x.counter .adoptions = raisedBy (l.countP (s.atSlot bitmap Stage.adopted)) (s.counter .adoptions)
  anomalies : x.counter .anomalies = raisedBy (l.countP (s.atSlot bitmap Stage.odd)) (s.counter .anomalies)
  counters : ∀ c : Counter, c ∉ [.adoptions, .anomalies, .congestionOnsets, .rosterDropped] → x.counter c = s.counter c

theorem State.Reconciled.refl (s : State) (u : UnitId) (bitmap : Byte) : s.Reconciled s u bitmap [] := by
  refine ⟨rfl, by simp, fun _ => rfl, rfl, fun v => ?_, by simp, rfl, rfl, fun _ _ => rfl⟩
  split
  · next same => simp [same]
  · rfl

/-- What one more slot adds: which tests it meets, and what that does to the sums, the list, the unit and the counts. -/
structure State.SlotStep (x y : State) (u : UnitId) (load : Nat) (st : StageId) (adopted odd confirmed ended : Bool) : Prop where
  frame : x.BeaconFrame y
  runOrder : y.stages.runOrder = (if ended then x.stages.runOrder.filter fun st' => st' != st else x.stages.runOrder) ++
    if adopted then [st] else []
  cRun : x.stages.sumsExact → y.stages.cRun + (if ended then load else 0) =
    x.stages.cRun + ((if adopted then load else 0) + if confirmed then load else 0)
  cPend : y.stages.cPend = x.stages.cPend - if confirmed then load else 0
  unit : ∀ v, y.unit v = if v = u ∧ odd = true then { x.unit u with anomaly := true } else x.unit v
  attention : y.supervisor.attention = (x.supervisor.attention || odd)
  adoptions : y.counter .adoptions = if adopted then min max16 (x.counter .adoptions + 1) else x.counter .adoptions
  anomalies : y.counter .anomalies = if odd then min max16 (x.counter .anomalies + 1) else x.counter .anomalies
  counters : ∀ c : Counter, c ∉ [.adoptions, .anomalies, .congestionOnsets, .rosterDropped] → y.counter c = x.counter c

theorem State.Reconciled.next {s x y : State} {u : UnitId} {bitmap : Byte} {l : List StageId} (r : s.Reconciled x u bitmap l)
    {st : StageId} (new : st ∉ l) (exact_ : s.stages.sumsExact → x.stages.sumsExact)
    (step : x.SlotStep y u (s.stage st).working.load st (s.atSlot bitmap Stage.adopted st) (s.atSlot bitmap Stage.odd st)
      (s.atSlot bitmap Stage.confirmed st) (s.atSlot bitmap Stage.ended st)) :
    s.Reconciled y u bitmap (l ++ [st]) := by
  refine ⟨r.frame.trans step.frame, ?_, fun exactS => ?_, ?_, fun v => ?_, ?_, ?_, ?_, fun c other => ?_⟩
  · rw [step.runOrder, r.runOrder]
    have fresh : (l.filter (s.atSlot bitmap Stage.adopted)).filter (fun st' => st' != st) = l.filter (s.atSlot bitmap Stage.adopted) :=
      List.filter_eq_self.mpr fun st' h => by
        simpa using fun same : st' = st => new (same ▸ (List.mem_filter.mp h).1)
    cases ended : s.atSlot bitmap Stage.ended st with
    | false =>
      have same : (fun st' => !(decide (st' ∈ l ++ [st]) && s.atSlot bitmap Stage.ended st')) =
          fun st' => !(decide (st' ∈ l) && s.atSlot bitmap Stage.ended st') := funext fun st' => by
        by_cases own : st' = st
        · simp [own, ended]
        · simp [own]
      rw [same, filter_concat, if_neg (by simp), List.append_assoc]
    | true =>
      have same : (s.stages.runOrder.filter fun st' => !(decide (st' ∈ l) && s.atSlot bitmap Stage.ended st')).filter
          (fun st' => st' != st) = s.stages.runOrder.filter fun st' => !(decide (st' ∈ l ++ [st]) && s.atSlot bitmap Stage.ended st') := by
        rw [List.filter_filter]
        refine List.filter_congr fun st' _ => ?_
        by_cases own : st' = st
        · simp [own, ended]
        · simp [own]
      rw [if_pos rfl, filter_concat, List.filter_append, same, fresh, List.append_assoc]
  · have before := r.cRun exactS
    have now := step.cRun (exact_ exactS)
    simp only [State.loadsWhere_concat]
    omega
  · rw [step.cPend, r.cPend, State.loadsWhere_concat, Nat.sub_sub]
  · rw [step.unit, r.unit, r.unit, List.any_append]
    by_cases own : v = u
    · cases odd : s.atSlot bitmap Stage.odd st <;> simp [own, odd]
    · simp [own]
  · rw [step.attention, r.attention, List.any_append]; simp [Bool.or_assoc]
  · rw [step.adoptions, r.adoptions, List.countP_append, List.countP_singleton]
    cases s.atSlot bitmap Stage.adopted st <;> simp [raisedBy_succ]
  · rw [step.anomalies, r.anomalies, List.countP_append, List.countP_singleton]
    cases s.atSlot bitmap Stage.odd st <;> simp [raisedBy_succ]
  · exact (step.counters c other).trans (r.counters c other)

/-! ### Each slot adds what its tests say -/

/-- The tests exclude one another (R131). -/
theorem Stage.adopted_alone {r : Stage} {reported : Bool} (h : r.adopted reported = true) :
    r.odd reported = false ∧ r.confirmed reported = false ∧ r.ended reported = false := by
  simp only [Stage.adopted, Stage.waits, Bool.and_eq_true, decide_eq_true_eq, bne_iff_ne] at h
  obtain ⟨⟨is, waits⟩, kind⟩ := h
  subst is
  rcases waits with h | h <;> simp [Stage.odd, Stage.confirmed, Stage.ended, Stage.waits, h, kind]

theorem Stage.odd_alone {r : Stage} {reported : Bool} (h : r.odd reported = true) :
    r.confirmed reported = false ∧ r.ended reported = false := by
  simp only [Stage.odd, Stage.waits, Bool.and_eq_true, Bool.or_eq_true, decide_eq_true_eq, beq_iff_eq] at h
  obtain ⟨rfl, h | ⟨h | h, -⟩⟩ := h <;> simp [Stage.confirmed, Stage.ended, h]

theorem Stage.reported_unended {r : Stage} {reported : Bool} (h : r.confirmed reported = true ∨ r.resumed reported = true) :
    r.ended reported = false := by
  simp only [Stage.confirmed, Stage.resumed, Bool.and_eq_true] at h
  rcases h with ⟨rfl, -⟩ | ⟨rfl, -⟩ <;> rfl

theorem State.formAttention_anomaly {s : State} {u : UnitId} (h : (s.unit u).anomaly = true) :
    s.formAttention.supervisor.attention = true :=
  List.any_eq_true.mpr ⟨s.unit u, by simp [State.unit], by simp [h]⟩

section
variable {x : State} {st : StageId} {bitmap : Byte}

theorem State.reconcileSlot_touched_step (load : Nat) {confirmed ended : Bool}
    (h : (x.stage st).confirmed (reports bitmap st) = true ∨ (x.stage st).resumed (reports bitmap st) = true ∨
      (x.stage st).ended (reports bitmap st) = true)
    (runOrder : (x.reconcileSlot bitmap st).stages.runOrder =
      if ended then x.stages.runOrder.filter fun st' => st' != st else x.stages.runOrder)
    (cRun : x.stages.sumsExact → (x.reconcileSlot bitmap st).stages.cRun + (if ended then load else 0) =
      x.stages.cRun + if confirmed then load else 0)
    (cPend : (x.reconcileSlot bitmap st).stages.cPend = x.stages.cPend - if confirmed then load else 0) :
    x.SlotStep (x.reconcileSlot bitmap st) st.unit load st false false confirmed ended := by
  have eq := State.reconcileSlot_touched h
  refine ⟨?_, by simpa using runOrder, by simpa using cRun, cPend, fun v => ?_, ?_, ?_, ?_, fun c _ => ?_⟩ <;> rw [eq]
  · exact rfl
  · simp [State.unit]
  · simp
  · rfl
  · rfl
  · rfl

theorem State.reconcileSlot_adopted_step {load : Nat} (h : (x.stage st).adopted (reports bitmap st) = true)
    (runOrder : (x.reconcileSlot bitmap st).stages.runOrder = x.stages.runOrder ++ [st])
    (cRun : x.stages.sumsExact → (x.reconcileSlot bitmap st).stages.cRun = x.stages.cRun + load)
    (cPend : (x.reconcileSlot bitmap st).stages.cPend = x.stages.cPend) :
    x.SlotStep (x.reconcileSlot bitmap st) st.unit load st true false false false := by
  have eq := (State.reconcileSlot_adopted h).trans (State.adoptStage_eq st none x)
  have dropped := State.QueueOnly.dropCall st (x.onStage st (Stage.adoptedBy none))
  have supervisor : (x.reconcileSlot bitmap st).supervisor = x.supervisor := by rw [eq]; exact dropped.frame.supervisor
  have counter : ∀ c, (x.reconcileSlot bitmap st).counter c =
      (((x.onStage st (Stage.adoptedBy none)).dropCall st).bump .adoptions).counter c := fun c => by rw [eq]; rfl
  refine ⟨?_, by simpa using runOrder, by simpa using cRun, by simpa using cPend, fun v => ?_, ?_, ?_, ?_, fun c other => ?_⟩
  · rw [eq]
    exact (dropped.frame.beacon (x := x.onStage st (Stage.adoptedBy none))).trans rfl
  · simp [State.unit, supervisor]
  · rw [supervisor]; simp
  · rw [counter, State.bump_counter_self, dropped.counters _ (by simp) (by simp)]; rfl
  · rw [counter, State.bump_counter_other _ _ _ (by simp), dropped.counters _ (by simp) (by simp)]; rfl
  · simp only [List.mem_cons, List.not_mem_nil, or_false, not_or] at other
    obtain ⟨adoptions, -, onsets, roster⟩ := other
    rw [counter, State.bump_counter_other _ _ _ (Ne.symm adoptions), dropped.counters c onsets roster]; rfl

theorem State.anomaly_step (x : State) (st : StageId) (load : Nat) :
    x.SlotStep (x.anomaly st.unit) st.unit load st false true false false := by
  have counter : ∀ c, (x.anomaly st.unit).counter c = ((x.onUnit st.unit fun r => { r with anomaly := true }).bump .anomalies).counter c :=
    fun c => by simp [State.anomaly, State.counter]
  have unit : ∀ v, (x.anomaly st.unit).unit v = ((x.onUnit st.unit fun r => { r with anomaly := true }).bump .anomalies).unit v :=
    fun v => by simp [State.anomaly, State.unit, State.formAttention]
  refine ⟨rfl, by simp [State.anomaly], by simp [State.anomaly], by simp [State.anomaly], fun v => ?_, ?_, ?_, ?_, fun c other => ?_⟩
  · rw [unit, State.unit_bump_onUnit]
    exact if_congr (by simp) rfl rfl
  · rw [Bool.or_true]
    exact State.formAttention_anomaly (u := st.unit) (by rw [State.unit_bump_onUnit, if_pos rfl])
  · rw [counter, State.bump_counter_other _ _ _ (by simp)]; rfl
  · rw [counter, State.bump_counter_self]; rfl
  · simp only [List.mem_cons, List.not_mem_nil, or_false, not_or] at other
    rw [counter, State.bump_counter_other _ _ _ (Ne.symm other.2.1)]; rfl

theorem State.reconcileSlot_step (x : State) (st : StageId) (bitmap : Byte) : x.SlotStep (x.reconcileSlot bitmap st) st.unit
    (x.stage st).working.load st ((x.stage st).adopted (reports bitmap st)) ((x.stage st).odd (reports bitmap st))
    ((x.stage st).confirmed (reports bitmap st)) ((x.stage st).ended (reports bitmap st)) := by
  by_cases adopted : (x.stage st).adopted (reports bitmap st) = true
  · obtain ⟨odd, confirmed, ended⟩ := Stage.adopted_alone adopted
    obtain ⟨run, pend, order⟩ := State.reconcileSlot_adopted_table adopted
    rw [adopted, odd, confirmed, ended]
    exact State.reconcileSlot_adopted_step adopted order (fun _ => by simpa using run) pend
  by_cases odd : (x.stage st).odd (reports bitmap st) = true
  · have unfit : (x.stage st).confirmed (reports bitmap st) = false ∧ (x.stage st).ended (reports bitmap st) = false :=
      Stage.odd_alone odd
    rw [Bool.eq_false_of_not_eq_true adopted, odd, unfit.1, unfit.2, State.reconcileSlot_odd odd]
    exact x.anomaly_step st _
  by_cases confirmed : (x.stage st).confirmed (reports bitmap st) = true
  · obtain ⟨run, pend, order⟩ := State.reconcileSlot_confirmed_table confirmed
    rw [Bool.eq_false_of_not_eq_true adopted, Bool.eq_false_of_not_eq_true odd, confirmed, Stage.reported_unended (.inl confirmed)]
    exact State.reconcileSlot_touched_step _ (.inl confirmed) order (fun _ => by simpa using run) pend
  by_cases resumed : (x.stage st).resumed (reports bitmap st) = true
  · obtain ⟨run, pend, order⟩ := State.reconcileSlot_resumed_table resumed
    rw [Bool.eq_false_of_not_eq_true adopted, Bool.eq_false_of_not_eq_true odd, Bool.eq_false_of_not_eq_true confirmed,
      Stage.reported_unended (.inr resumed)]
    refine State.reconcileSlot_touched_step _ (.inr (.inl resumed)) order (fun exact_ => ?_) pend
    have held : (x.stages.get st).state = .held := by
      simp only [Stage.resumed, Bool.and_eq_true, beq_iff_eq] at resumed
      exact resumed.2
    have most := StageTable.runLoad_le exact_ st
    rw [(Stage.loads_held held).1, State.stages_get] at most
    simp only [Bool.false_eq_true, if_false, Nat.add_zero]
    rw [run, Nat.sub_add_cancel most]
  by_cases ended : (x.stage st).ended (reports bitmap st) = true
  · obtain ⟨run, pend, order⟩ := State.reconcileSlot_ended_table ended
    rw [Bool.eq_false_of_not_eq_true adopted, Bool.eq_false_of_not_eq_true odd, Bool.eq_false_of_not_eq_true confirmed, ended]
    refine State.reconcileSlot_touched_step _ (.inr (.inr ended)) order (fun exact_ => ?_) pend
    have counts : (x.stages.get st).runLoad = (x.stage st).working.load := by
      simp only [Stage.ended, Bool.and_eq_true, decide_eq_true_eq] at ended
      rw [State.stages_get, Stage.runLoad_eq, if_pos ended.2]
    have most := StageTable.runLoad_le exact_ st
    rw [counts] at most
    simp only [Bool.false_eq_true, if_false, if_true, Nat.add_zero]
    rw [run, Nat.sub_add_cancel most]
  · have adopted := Bool.eq_false_of_not_eq_true adopted
    have odd := Bool.eq_false_of_not_eq_true odd
    have confirmed := Bool.eq_false_of_not_eq_true confirmed
    have ended := Bool.eq_false_of_not_eq_true ended
    rw [State.reconcileSlot_left adopted odd confirmed (Bool.eq_false_of_not_eq_true resumed) ended, adopted, odd, confirmed, ended]
    exact ⟨rfl, by simp, by simp, by simp, by simp, by simp, rfl, rfl, fun _ _ => rfl⟩

end

theorem State.reconcileSlot_foldl {s : State} {u : UnitId} (bitmap : Byte) (present : (s.unit u).presence = .present)
    (l : List StageId) (distinct : l.Nodup) (own : ∀ st ∈ l, st.unit = u) :
    let x := l.foldl (fun s st => s.reconcileSlot bitmap st) s
    s.Acted (s.reconcilePlan bitmap) x l ∧ s.Reconciled x u bitmap l ∧ (s.stages.sumsExact → x.stages.sumsExact) := by
  induction l using List.reverseRecOn with
  | nil => exact ⟨.refl _ s, .refl s u bitmap, id⟩
  | append_singleton l st ih =>
    obtain ⟨new, distinct⟩ := List.nodup_cons.mp (List.perm_append_singleton st l |>.nodup_iff.mp distinct)
    obtain ⟨a, r, exact_⟩ := ih distinct fun st' mem => own st' (by simp [mem])
    rw [List.foldl_concat]
    generalize l.foldl (fun s st => s.reconcileSlot bitmap st) s = x at *
    have seen := a.seen new (reports bitmap st)
    have step := x.reconcileSlot_step st bitmap
    rw [seen.adopted, seen.odd, seen.confirmed, seen.ended, seen.working, own st (by simp)] at step
    have watched : (x.unit st.unit).presence ≠ .absent := by
      rw [a.presence, own st (by simp), present]; simp
    exact ⟨a.reconcileSlot new, r.next new exact_ step, fun exactS => (State.reconcileSlot_moves bitmap watched).sumsExact (exact_ exactS)⟩

/-! ### The beacons that are accepted -/

theorem beaconFields_small {bitmap : Byte} (small : bitmap.toNat ≤ 15) : beaconFields [bitmap] = some bitmap := if_pos small

/-- The unit's record once its beacon has been accepted, before the slots (R126, R130). -/
def UnitRec.accepted (period : Nat) (r : UnitRec) : UnitRec :=
  { r with presence := .present, errors := if r.presence = .present then r.errors - 1 else 0,
           phase := .guard, period := period, window := 500 * period }

/-- The state with a beacon accepted, before the slots (R126, R130). -/
def State.beaconAccepted (s : State) (u : UnitId) : State :=
  { s.onUnit u (UnitRec.accepted (s.setting .beaconPeriod)) with
    counters := if (s.unit u).presence = .absent then (s.bump .rejoins).counters else s.counters }

theorem State.exec_unitBeacon {s : State} {u : UnitId} {bitmap : Byte} (listening : s.listening) (small : bitmap.toNat ≤ 15) :
    exec (.unitBeacon u [bitmap]) s = .next (s.takeBeacon u bitmap).drain := by
  obtain ⟨⟨supplied, -⟩, onBus⟩ := listening
  have taken : execUnitBeacon u [bitmap] s = s.receive (State.takeBeacon u bitmap) := by
    simp only [execUnitBeacon, beaconFields_small small]
  exact Eq.trans taken (State.receive_onBus _ s supplied onBus)

theorem State.onUnit_congr {s : State} {u : UnitId} {f g : UnitRec → UnitRec} (h : f (s.unit u) = g (s.unit u)) :
    s.onUnit u f = s.onUnit u g :=
  congrArg (fun r => s.onSupervisor fun v => { v with records := v.records.set u r }) h

/-- An accepted beacon is reconciled in the state in which its unit is PRESENT. -/
theorem State.takeBeacon_accepted {s : State} {u : UnitId} (bitmap : Byte)
    (accepted : ((s.unit u).presence = .unknown ∧ s.mode ≠ .mainsOff) ∨ (s.unit u).presence = .absent ∨
      ((s.unit u).presence = .awaiting ∧ s.mode = .settling) ∨ ((s.unit u).presence = .present ∧ (s.unit u).phase = .opened)) :
    s.takeBeacon u bitmap = (s.beaconAccepted u).reconcile u bitmap := by
  have first : (s.unit u).presence ≠ .present → s.makePresent u = s.onUnit u (UnitRec.accepted (s.setting .beaconPeriod)) :=
    fun absent => State.onUnit_congr (by simp only [UnitRec.accepted, if_neg absent]; rfl)
  have same : (s.unit u).presence ≠ .absent →
      s.beaconAccepted u = s.onUnit u (UnitRec.accepted (s.setting .beaconPeriod)) := fun h => by
    rw [State.beaconAccepted, if_neg h]; rfl
  rcases accepted with ⟨h, mode⟩ | h | ⟨h, mode⟩ | ⟨h, phase⟩
  · simp only [State.takeBeacon, h, if_neg mode, State.firstBeacon]
    rw [first (by simp [h]), same (by simp [h])]
  · have rejoins : s.beaconAccepted u = (s.makePresent u).bump .rejoins := by
      rw [first (by simp [h]), State.beaconAccepted, if_pos h]; rfl
    simp only [State.takeBeacon, h, State.rejoin]
    rw [rejoins]
  · simp only [State.takeBeacon, h, if_pos mode, State.firstBeacon]
    rw [first (by simp [h]), same (by simp [h])]
  · simp only [State.takeBeacon, h, phase, State.acceptBeacon]
    rw [same (by simp [h])]
    exact congrArg (State.reconcile u bitmap) (State.onUnit_congr (by
      simp only [UnitRec.accepted, if_pos h]
      rw [← h]; rfl))

theorem State.beaconAccepted_unit (s : State) (u v : UnitId) : (s.beaconAccepted u).unit v =
    if v = u then UnitRec.accepted (s.setting .beaconPeriod) (s.unit u) else s.unit v :=
  s.unit_onUnit u _ v

theorem State.beaconAccepted_counter (s : State) (u : UnitId) (c : Counter) : (s.beaconAccepted u).counter c =
    if c = .rejoins ∧ (s.unit u).presence = .absent then min max16 (s.counter c + 1) else s.counter c := by
  by_cases absent : (s.unit u).presence = .absent
  · have eq : (s.beaconAccepted u).counter c = (s.bump .rejoins).counter c := by
      rw [State.beaconAccepted, if_pos absent]; rfl
    rw [eq, State.bump_counter]
    by_cases own : c = .rejoins
    · rw [if_pos own, if_pos ⟨own, absent⟩, own]; rfl
    · rw [if_neg own, if_neg fun h => own h.1]
  · rw [State.beaconAccepted, if_neg absent, if_neg fun h => absent h.2]; rfl

/-- What the slots of an accepted beacon make of the state. -/
theorem State.beacon_reconciled (s : State) (u : UnitId) (bitmap : Byte) :
    let s' := s.beaconAccepted u
    let p := s'.reconcile u bitmap
    s'.Acted (s'.reconcilePlan bitmap) p (stagesOf u) ∧ s'.Reconciled p u bitmap (stagesOf u) := by
  have present : ((s.beaconAccepted u).unit u).presence = .present := by rw [State.beaconAccepted_unit, if_pos rfl]; rfl
  obtain ⟨a, r, -⟩ := State.reconcileSlot_foldl bitmap present (stagesOf u) (stagesOf_nodup u) fun st mem => mem_stagesOf.mp mem
  exact ⟨a, r⟩

end Sys2Proof.Machine
end

section
/-! Proofs/ReconciledBeacons.lean: what an accepted beacon leaves of each slot, and of the rest (O33). -/

namespace Sys2Proof.Machine

section
variable {s : State} {u : UnitId} {bitmap : Byte} {st : StageId}

/-- The record the reconciliation leaves, unless the feeder has QUEUED the stage since. -/
theorem State.beacon_leftOrFed (s : State) (own : st.unit = u) :
    s.leftOrFed ((s.beaconAccepted u).reconcile u bitmap) st
      ((s.stage st).reconciledBy (s.store.profile st) (reports bitmap st)) := by
  have fed := (s.beacon_reconciled u bitmap).1.leftOrFed st
  rw [StagePlan.after_mem _ _ (mem_stagesOf.mpr own)] at fed
  exact fed

/-- A stage the reconciliation does not leave IDLE is not fed. -/
theorem State.beacon_busy (own : st.unit = u)
    (busy : ((s.stage st).reconciledBy (s.store.profile st) (reports bitmap st)).state ≠ .idle) :
    ((s.beaconAccepted u).reconcile u bitmap).stage st = (s.stage st).reconciledBy (s.store.profile st) (reports bitmap st) :=
  (s.beacon_leftOrFed own).resolve_right fun ⟨_, _, idle, _⟩ => busy idle

/-- A stage of kind NONE is not fed. -/
theorem State.beacon_kindNone (own : st.unit = u)
    (kind : ((s.stage st).reconciledBy (s.store.profile st) (reports bitmap st)).working.kind = .none) :
    ((s.beaconAccepted u).reconcile u bitmap).stage st = (s.stage st).reconciledBy (s.store.profile st) (reports bitmap st) := by
  have after := StagePlan.after_mem ((s.beaconAccepted u).reconcilePlan bitmap) (s.beaconAccepted u) (mem_stagesOf.mpr own)
  exact ((s.beacon_reconciled u bitmap).1.unfed st (.inl ((congrArg (·.working.kind) after).trans kind))).trans after

/-- Which slots are left as they stand (R131). -/
theorem Stage.reconciledBy_same {r : Stage} {stored : Profile} {reported : Bool}
    (h : (reported = true ∧ ((r.waits = true ∧ r.working.kind = .none) ∨ r.state = .running ∨ r.state = .stopping ∨
        r.state = .tripped)) ∨
      (reported = false ∧ (r.waits = true ∨ r.state = .granted ∨ r.state = .tripped))) : r.reconciledBy stored reported = r := by
  simp only [Stage.waits, decide_eq_true_eq] at h
  refine (Stage.reconcile_left ?_ ?_ ?_ ?_).1 <;>
    rcases h with ⟨rfl, ⟨h | h, kind⟩ | h | h | h⟩ | ⟨rfl, (h | h) | h | h⟩ <;>
    simp [Stage.adopted, Stage.confirmed, Stage.resumed, Stage.ended, Stage.waits, *]

/-- A slot reported running (R131). -/
theorem State.beacon_reported (own : st.unit = u) (reported : reports bitmap st = true) :
    let p := (s.beaconAccepted u).reconcile u bitmap
    let r := s.stage st
    let started := { r with state := .running, rest := 0, run := 1000 * r.working.minOn, withdrawn := none, window := 0,
                            withdrawnByReplay := false }
    (r.state = .idle ∨ r.state = .queued → r.working.kind ≠ .none → p.stage st = { started with token := none }) ∧
      (r.state = .idle ∨ r.state = .queued → r.working.kind = .none → p.stage st = r) ∧
      (r.state = .granted → p.stage st = { started with handshake := 0, rosterFlag := false }) ∧
      (r.state = .held → p.stage st = { r with state := .running, rest := 0, run := 0 }) ∧
      (r.state = .running ∨ r.state = .stopping ∨ r.state = .tripped → p.stage st = r) := by
  intro p r started
  refine ⟨fun waits kind => ?_, fun waits kind => ?_, fun granted => ?_, fun held => ?_, fun runs => ?_⟩
  · have adopted : r.adopted (reports bitmap st) = true := by simp [Stage.adopted, Stage.waits, reported, waits, kind]
    have record := Stage.reconciledBy_adopted (stored := s.store.profile st) adopted
    exact (State.beacon_busy own (by rw [record]; simp [Stage.adoptedBy])).trans record
  · have same := Stage.reconciledBy_same (stored := s.store.profile st)
      (.inl ⟨reported, .inl ⟨decide_eq_true (p := r.state = .idle ∨ r.state = .queued) waits, kind⟩⟩)
    exact (State.beacon_kindNone own (by rw [same]; exact kind)).trans same
  · have confirmed : r.confirmed (reports bitmap st) = true := by simp [Stage.confirmed, reported, granted]
    have record := Stage.reconciledBy_confirmed (stored := s.store.profile st) confirmed
    exact (State.beacon_busy own (by rw [record]; simp [Stage.confirmedBy])).trans record
  · have resumed : r.resumed (reports bitmap st) = true := by simp [Stage.resumed, reported, held]
    have record := Stage.reconciledBy_resumed (stored := s.store.profile st) resumed
    exact (State.beacon_busy own (by rw [record]; simp)).trans record
  · have same := Stage.reconciledBy_same (stored := s.store.profile st) (.inl ⟨reported, .inr runs⟩)
    exact (State.beacon_busy own (by rw [same]; rcases runs with h | h | h <;> rw [h] <;> simp)).trans same

/-- A slot not reported running (R131). -/
theorem State.beacon_unreported (own : st.unit = u) (unreported : reports bitmap st = false) :
    let p := (s.beaconAccepted u).reconcile u bitmap
    let r := s.stage st
    (r.state = .running ∨ r.state = .stopping ∨ r.state = .held → s.leftOrFed p st (r.releasedBy (s.store.profile st))) ∧
      (r.state = .idle → s.leftOrFed p st r) ∧
      (r.state = .queued ∨ r.state = .granted ∨ r.state = .tripped → p.stage st = r) := by
  intro p r
  refine ⟨fun runs => ?_, fun idle => ?_, fun busy => ?_⟩
  · have ended : r.ended (reports bitmap st) = true := by simp [Stage.ended, unreported, runs]
    exact Stage.reconciledBy_ended (stored := s.store.profile st) ended ▸ s.beacon_leftOrFed own
  · have waits : r.waits = true := decide_eq_true (p := r.state = .idle ∨ r.state = .queued) (.inl idle)
    have same := Stage.reconciledBy_same (stored := s.store.profile st) (.inr ⟨unreported, .inl waits⟩)
    exact same ▸ s.beacon_leftOrFed own
  · have waits : r.waits = true ∨ r.state = .granted ∨ r.state = .tripped := busy.imp_left fun h => by simp [Stage.waits, h]
    have same := Stage.reconciledBy_same (stored := s.store.profile st) (.inr ⟨unreported, waits⟩)
    exact (State.beacon_busy own (by rw [same]; rcases busy with h | h | h <;> rw [h] <;> simp)).trans same

/-! ### The tests by slot -/

/-- A test of the slots of the unit of a beacon. -/
def State.slotTest (s : State) (u : UnitId) (bitmap : Byte) (test : Bool → Stage → Bool) (k : Slot) : Bool :=
  test (bitmap.getLsbD k.val) (s.stage { unit := u, slot := k })

theorem State.beacon_countP (s : State) (u : UnitId) (bitmap : Byte) (test : Bool → Stage → Bool) :
    (stagesOf u).countP ((s.beaconAccepted u).atSlot bitmap test) = slots.countP (s.slotTest u bitmap test) :=
  List.countP_map

theorem State.beacon_any (s : State) (u : UnitId) (bitmap : Byte) (test : Bool → Stage → Bool) :
    (stagesOf u).any ((s.beaconAccepted u).atSlot bitmap test) = slots.any (s.slotTest u bitmap test) :=
  List.any_map

theorem State.beacon_filter (s : State) (u : UnitId) (bitmap : Byte) (test : Bool → Stage → Bool) :
    (stagesOf u).filter ((s.beaconAccepted u).atSlot bitmap test) =
      (slots.filter (s.slotTest u bitmap test)).map fun k => { unit := u, slot := k } :=
  List.filter_map

theorem State.beacon_loads (s : State) (u : UnitId) (bitmap : Byte) (test : Bool → Stage → Bool) :
    (s.beaconAccepted u).loadsWhere ((s.beaconAccepted u).atSlot bitmap test) (stagesOf u) =
      ((slots.filter (s.slotTest u bitmap test)).map fun k => (s.stage { unit := u, slot := k }).working.load).sum := by
  rw [State.loadsWhere, State.beacon_filter, List.map_map]; rfl

theorem State.reconcilePlan_notices (s : State) (u : UnitId) (bitmap : Byte) :
    (stagesOf u).flatMap ((s.beaconAccepted u).reconcilePlan bitmap).notices =
      slots.flatMap fun k => (s.stage { unit := u, slot := k }).reconcileNotices (bitmap.getLsbD k.val) :=
  List.flatMap_map ..

theorem Stage.reconcileNotices_tested (reported : Bool) (r : Stage) : ∀ c ∈ r.reconcileNotices reported,
    (c == .pass .stageChange || c == .check .settled || c == .pass .restExpiry) = true := by
  intro c hc
  simp only [Stage.reconcileNotices, List.mem_append, List.mem_ite_nil_right, List.mem_singleton] at hc
  rcases hc with (⟨-, rfl⟩ | ⟨-, rfl⟩) | ⟨-, rfl⟩ <;> rfl

theorem State.mem_adopted (s : State) (u : UnitId) (bitmap : Byte) (st : StageId) :
    decide (st ∈ (stagesOf u).filter ((s.beaconAccepted u).reconcilePlan bitmap).out) =
      (st.unit == u && s.slotTest u bitmap Stage.adopted st.slot) := by
  rw [Bool.eq_iff_iff]
  simp only [decide_eq_true_eq, List.mem_filter, mem_stagesOf, Bool.and_eq_true, beq_iff_eq]
  exact and_congr_right fun own => by subst own; rfl

end

end Sys2Proof.Machine

namespace Sys2Proof.Proofs
open Sys2Proof.Machine

/-- Settles O33: the slots are reconciled one after another (`State.Reconciled`, `State.Acted`), and what each becomes is read
off its record. -/
theorem beaconsAreReconciled : Obligations.BeaconsAreReconciled := by
  intro s u bitmap listening small accepted slots was reported waits adopted confirmed resumed odd ended loads out removed given
    counted
  obtain ⟨a, r⟩ := s.beacon_reconciled u bitmap
  have quiet : s.causes = [] := listening.1.2
  let p := (s.beaconAccepted u).reconcile u bitmap
  refine ⟨p, ?_, fun st other => ?_, fun k => ?_, ?_, fun exact_ => ?_, ?_,
    ?_, fun v other => ?_, ?_, ?_, ?_, ?_, fun c other => ?_, ?_, ?_, fun notReplay => ?_, fun replay calls roster => ?_⟩
  · rw [State.exec_unitBeacon listening small, State.takeBeacon_accepted bitmap accepted]
  · have fed := a.leftOrFed st
    rw [StagePlan.after, if_neg (mt mem_stagesOf.mp other)] at fed
    exact fed
  · exact ⟨State.beacon_reported (s := s) (bitmap := bitmap) (st := { unit := u, slot := k }) rfl,
      State.beacon_unreported (s := s) (bitmap := bitmap) (st := { unit := u, slot := k }) rfl⟩
  · rw [r.runOrder, State.beacon_filter]
    refine congrArg (· ++ _) (List.filter_congr fun st _ => congrArg _ ?_)
    by_cases own : st.unit = u
    · subst own; simp [mem_stagesOf]; rfl
    · simp [mem_stagesOf, own]
  · have sums := r.cRun exact_
    rw [State.beacon_loads, State.beacon_loads, State.beacon_loads] at sums
    exact Nat.eq_sub_of_add_eq sums
  · rw [r.cPend, State.beacon_loads]; rfl
  · rw [r.unit, if_pos rfl, State.beaconAccepted_unit, if_pos rfl, State.beacon_any]; rfl
  · rw [r.unit, if_neg other, State.beaconAccepted_unit, if_neg other]
  · rw [r.attention, State.beacon_any]; rfl
  · refine r.adoptions.trans ?_
    rw [State.beacon_countP, State.beaconAccepted_counter, if_neg (by simp)]; rfl
  · refine r.anomalies.trans ?_
    rw [State.beacon_countP, State.beaconAccepted_counter, if_neg (by simp)]; rfl
  · refine (r.counters .rejoins (by simp)).trans ?_
    rw [State.beaconAccepted_counter]
    by_cases absent : (s.unit u).presence = .absent
    · rw [if_pos ⟨rfl, absent⟩, if_pos absent]; rfl
    · rw [if_neg fun h => absent h.2, if_neg absent]; rfl
  · simp only [List.mem_cons, List.not_mem_nil, or_false, not_or] at other
    obtain ⟨adoptions, anomalies, rejoins, onsets, dropped⟩ := other
    rw [r.counters _ (by simp [adoptions, anomalies, onsets, dropped]), State.beaconAccepted_counter, if_neg fun h => rejoins h.1]
  · obtain ⟨more, causes, own⟩ := a.notices
    rw [State.reconcilePlan_notices] at own
    have all : p.causes = more := causes.trans ((congrArg (· ++ more) quiet).trans (List.nil_append more))
    rw [all]
    refine filter_own own (fun c is => ?_) fun c given => ?_
    · simp only [Bool.or_eq_true, beq_iff_eq] at is
      rcases is with (rfl | rfl) | rfl <;> rfl
    · obtain ⟨k, -, mem⟩ := List.mem_flatMap.mp given
      exact Stage.reconcileNotices_tested _ _ c mem
  · exact (congrArg (fun w : State => { w with supervisor := p.supervisor, counters := p.counters }) r.frame).trans rfl
  · obtain ⟨q, causes⟩ := a.quiet notReplay
    obtain ⟨calls, marker, onsets⟩ := q.named (s := s) (out := out) rfl rfl rfl rfl
      (by rw [State.beaconAccepted_counter, if_neg (by simp)]) fun e _ => s.mem_adopted u bitmap e.stage
    refine ⟨calls, marker, onsets, a.modes notReplay, ?_, ?_⟩
    · rw [q.rosterDropped, State.beaconAccepted_counter, if_neg (by simp)]
    · rw [State.reconcilePlan_notices] at causes
      exact causes.trans ((congrArg (· ++ _) quiet).trans (List.nil_append _))
  · obtain ⟨R, t⟩ := a.replay replay calls roster
    have removed := t.replayRemoved (congrArg State.arbiter r.frame) roster.1
    rw [show (fun st => decide (st ∈ (stagesOf u).filter ((s.beaconAccepted u).reconcilePlan bitmap).outReplay)) = out from
      funext (s.mem_adopted u bitmap)] at removed
    refine State.replayRemoved_congr (s' := s.beaconAccepted u) rfl rfl rfl ?_ removed
    rw [State.beaconAccepted_counter, if_neg (by simp)]

end Sys2Proof.Proofs
end

section
/-! Proofs/Outages.lean: the curtail code, the power-fail line, and the handling of an outage (O56). -/

namespace Sys2Proof.Machine

section
variable {s : State} (powered : s.powered)
include powered

/-- A pin's change whose effect gives no notice. -/
theorem State.pinChange_answers {pins : Pins → Pins} {effect : State → State} {t : State} (eq : effect (s.onPins pins) = t)
    (quiet : t.causes = []) : s.pinChange pins effect = .next t := by
  rw [State.pinChange, if_pos powered.1, eq]
  exact State.next_drain quiet

/-- An event whose effect gives no notice. -/
theorem State.take_answers {effect : State → State} {t : State} (eq : effect s = t) (quiet : t.causes = []) :
    s.take effect = .next t := by
  rw [State.take_supplied _ s powered.1, eq]
  exact State.next_drain quiet

end

/-! ### The curtail code -/

theorem State.lineLevelOf_eq (s : State) (code : Fin 4) : s.lineLevelOf code =
    match code.val with | 0 => 0 | 1 => s.setting .curtailLineLevel | 2 => 2 | _ => 3 := by
  fin_cases code <;> rfl

theorem State.deliverCurtail_same {s : State} (same : s.lineLevelOf s.lines.curtail.qualified = s.lines.curtail.delivered) :
    s.deliverCurtail = s := if_pos same

/-- A level delivered anew (R59, R100). -/
theorem State.deliverCurtail_new {s : State} {level : Nat} (is : s.lineLevelOf s.lines.curtail.qualified = level)
    (new : level ≠ s.lines.curtail.delivered) :
    let lambda := max level s.shed.gatewayLevel
    let changed := s.bump .lineCurtailChanges
    s.deliverCurtail = { s with
      lines := { s.lines with curtail := { s.lines.curtail with delivered := level } }
      shed := { s.shed with lineLevel := level, lambda := lambda }
      counters := if lambda = s.shed.lambda then changed.counters else (changed.bump .curtailChanges).counters } := by
  subst is
  intro lambda changed
  refine (if_neg new : s.deliverCurtail = _).trans ?_
  unfold State.formLambda
  by_cases same : lambda = s.shed.lambda
  · rw [if_pos same]
    refine (if_pos same).trans ?_
    rw [same]; rfl
  · rw [if_neg same]
    exact (if_neg same).trans rfl

/-! ### An outage -/

theorem Store.valid.congestionThreshold_pos {store : Store} (h : store.valid) : 0 < store.setting .congestionThreshold := by
  exact Nat.lt_of_lt_of_le (by decide) (h.setting .congestionThreshold).1

/-- R145's steps 2 to 6. -/
theorem State.mainsOffTail_eq {s : State} (store : s.store.valid) : s.mainsOffTail =
    { s with
      stages := s.mainsOffReset.stages
      calls := { s.calls with entries := [], congested := false }
      arbiter := { s.arbiter with gate := .stopped, slotFlag := false, marker := none }
      supervisor := { s.supervisor with records := mapTable UnitRec.mainsOff s.supervisor.records }
      modes := { s.modes with mode := .mainsOff, timer := 0, fallback := s.link.state == .offBus }
      counters := (s.bump .outages).counters } := by
  have fits : s.mainsOffReset.congestedAt ([] : List CallEntry).length = false :=
    decide_eq_false (Nat.not_le.mpr store.congestionThreshold_pos)
  rw [State.mainsOffTail, State.setEntries_eq, fits]
  rfl

theorem Stage.mainsOff_eq (r : Stage) (stored : Profile) : r.mainsOff stored =
    { r with
      state := if r.state = .tripped then .tripped else .idle
      rest := if r.working.kind = .none then 0 else 1000 * r.working.minOff
      run := 0, handshake := 0, window := 0, token := none, withdrawn := none, rosterFlag := false, withdrawnByReplay := false
      working := if r.pendingProfile then stored else r.working
      pendingProfile := false } := by
  rw [Stage.mainsOff, Stage.copyPending_eq]; rfl

theorem State.offBus_eq (s : State) : (s.link.state == .offBus) = !s.onBus := by
  unfold State.onBus
  cases s.link.state <;> rfl

/-- The roster an outage leaves (R145 to R147). -/
def State.outageRoster (s : State) : List RosterEntry :=
  let waiting := fun l : List StageId => l.map fun st => ({ stage := st, outcome := .waiting } : RosterEntry)
  match s.mode with
  | .settling => s.modes.roster
  | .replay =>
    (s.modes.roster.map fun e => if e.outcome = .dropped then e else { e with outcome := .waiting }) ++
      waiting (s.stages.runOrder.filter fun st => decide (∀ e ∈ s.modes.roster, e.stage ≠ st))
  | _ => waiting s.stages.runOrder

theorem RosterEntry.rewind_eq (e : RosterEntry) : e.rewind = if e.outcome = .dropped then e else { e with outcome := .waiting } := by
  obtain ⟨st, outcome⟩ := e
  cases outcome <;> rfl

/-- An outage in a mode that sees one (R145 to R147). -/
theorem State.powerFailAsserted_eq {s : State} (store : s.store.valid) (off : s.mode ≠ .mainsOff) (halted : s.mode ≠ .halted) :
    s.powerFailAsserted = { s with
      stages := s.mainsOffReset.stages
      calls := { s.calls with entries := [], congested := false }
      arbiter := { s.arbiter with gate := .stopped, slotFlag := false, marker := none }
      supervisor := { s.supervisor with records := mapTable UnitRec.mainsOff s.supervisor.records }
      modes := { s.modes with
        mode := .mainsOff, timer := 0, roster := s.outageRoster, fallback := !s.onBus
        readPosition := if s.mode = .settling then s.modes.readPosition else 0
        fedCount := if s.mode = .settling then s.modes.fedCount else 0 }
      counters := (s.bump .outages).counters } := by
  rw [← s.offBus_eq]
  cases mode : s.mode with
  | startup | coordinating =>
    simp only [State.powerFailAsserted, mode, State.mainsOffFresh, State.outageRoster]
    exact (State.mainsOffTail_eq (s := s.onModes _) store).trans rfl
  | replay =>
    have rewound : s.modes.roster.map RosterEntry.rewind = s.modes.roster.map fun e =>
      if e.outcome = .dropped then e else { e with outcome := .waiting } := List.map_congr_left fun e _ => e.rewind_eq
    have unnamed : (s.stages.runOrder.filter fun st => !(s.modes.roster.any fun e => e.stage == st)) =
        s.stages.runOrder.filter fun st => decide (∀ e ∈ s.modes.roster, e.stage ≠ st) :=
      List.filter_congr fun st _ => by rw [Bool.eq_iff_iff]; simp
    simp only [State.powerFailAsserted, mode, State.mainsOffReplay, State.outageRoster, ← rewound, ← unnamed]
    exact (State.mainsOffTail_eq (s := s.onModes _) store).trans rfl
  | settling =>
    simp only [State.powerFailAsserted, mode, State.outageRoster]
    exact (State.mainsOffTail_eq store).trans rfl
  | mainsOff => exact absurd mode off
  | halted => exact absurd mode halted

theorem State.powerFailAsserted_off {s : State} (off : s.mode = .mainsOff ∨ s.mode = .halted) : s.powerFailAsserted = s := by
  rcases off with h | h <;> simp only [State.powerFailAsserted, h]

theorem State.powerFailDeasserted_other {s : State} (mode : s.mode ≠ .mainsOff) : s.powerFailDeasserted = s := by
  unfold State.powerFailDeasserted
  split
  · next is => exact absurd is mode
  all_goals rfl

/-- The end of an outage (R148). -/
theorem State.powerFailDeasserted_off {s : State} (mode : s.mode = .mainsOff) : s.powerFailDeasserted =
    { s with modes := { s.modes with mode := .settling, timer := s.settingTime .settleDelay, fallback := !s.onBus } } := by
  simp only [State.powerFailDeasserted, mode]
  rw [← s.offBus_eq]; rfl

end Sys2Proof.Machine

namespace Sys2Proof.Proofs
open Sys2Proof.Machine

/-- Settles O56: the curtail code and the power-fail line by their records, and an outage by the mode (`State.powerFailAsserted_eq`). -/
theorem curtailAndPowerFailLinesRun : Obligations.CurtailAndPowerFailLinesRun := by
  intro s powered curtail power pin glitch
  have quiet : s.causes = [] := powered.2
  have read : ∀ {code : Fin 4} {t : State},
      (if s.pins.curtail = code then s.onPins (fun p => { p with curtail := code })
        else (s.onPins fun p => { p with curtail := code }).curtailCodeRead code) = t →
      t.causes = [] → exec (.curtailCodeChange code) s = .next t := fun {code _} eq quiet =>
    State.pinChange_answers powered (pins := fun p => { p with curtail := code })
      (effect := fun s' => if s.pins.curtail = code then s' else s'.curtailCodeRead code) eq quiet
  have pinned : ∀ {asserted : Bool} {t : State}, (s.onPins fun p => { p with powerFail := asserted }).powerFailRead asserted = t →
      t.causes = [] → exec (.powerFailPinChange asserted) s = .next t := fun eq quiet => State.pinChange_answers powered eq quiet
  have expired : ∀ {t : State}, s.powerFailQualifies = t → t.causes = [] → exec .powerFailQualificationExpiry s = .next t :=
    fun eq quiet => State.take_answers powered eq quiet
  have delivered : ∀ {t : State}, s.curtailQualifies = t → t.causes = [] → exec .curtailStabilityExpiry s = .next t :=
    fun eq quiet => State.take_answers powered eq quiet
  refine ⟨fun code => ⟨fun same => ?_, fun new => ?_⟩, fun none => ?_, fun code candidate => ?_, fun normal => ⟨?_, ?_, ?_⟩,
    fun pending => ⟨?_, ?_⟩, fun failed => ⟨?_, ?_, ?_⟩, fun pending => ⟨?_, ?_, fun mode => ?_, fun mode => ?_⟩,
    fun pending mode => ?_, fun pending off halted store => ?_⟩
  · have kept : s.onPins (fun p => { p with curtail := code }) = s := by rw [← same]; rfl
    exact read ((if_pos same).trans kept) quiet
  · exact read ((if_neg new).trans rfl) quiet
  · exact delivered (by rw [State.curtailQualifies, none]) quiet
  · intro level qualified
    have reads : s.lineLevelOf code = level := s.lineLevelOf_eq code
    have taken : s.curtailQualifies = (curtail qualified).deliverCurtail := by
      simp only [State.curtailQualifies, candidate]; rfl
    refine ⟨fun same => ?_, fun new => ?_⟩
    · exact delivered (taken.trans (State.deliverCurtail_same (reads.trans same))) quiet
    · exact delivered (taken.trans (State.deliverCurtail_new (s := curtail qualified) reads new)) quiet
  · exact pinned (by simp only [State.powerFailRead, State.onPins_lines, normal]; rfl) quiet
  · exact pinned (by simp only [State.powerFailRead, State.onPins_lines, normal]; rfl) quiet
  · exact expired (by simp only [State.powerFailQualifies, normal]) quiet
  · exact pinned (by simp only [State.powerFailRead, State.onPins_lines, pending]; rfl) quiet
  · exact pinned (by simp only [State.powerFailRead, State.onPins_lines, pending]; rfl) quiet
  · exact pinned (by simp only [State.powerFailRead, State.onPins_lines, failed]; rfl) quiet
  · exact pinned (by simp only [State.powerFailRead, State.onPins_lines, failed]; rfl) quiet
  · exact expired (by simp only [State.powerFailQualifies, failed]) quiet
  · exact pinned (by simp only [State.powerFailRead, State.onPins_lines, pending]; rfl) quiet
  · exact pinned (by simp only [State.powerFailRead, State.onPins_lines, pending]; rfl) quiet
  · refine expired ?_ quiet
    simp only [State.powerFailQualifies, pending]
    exact State.powerFailDeasserted_other (s := power .normal 0) mode
  · refine expired ?_ quiet
    simp only [State.powerFailQualifies, pending]
    exact State.powerFailDeasserted_off (s := power .normal 0) mode
  · refine expired ?_ quiet
    simp only [State.powerFailQualifies, pending]
    exact State.powerFailAsserted_off (s := power .failed 0) mode
  · have asserted := State.powerFailAsserted_eq (s := power .failed 0) store off halted
    refine ⟨(power .failed 0).powerFailAsserted, expired (by simp only [State.powerFailQualifies, pending]; rfl)
      (by rw [asserted]; exact quiet), ?_, fun st => ?_, fun u => ?_⟩
    · rw [asserted]; rfl
    · rw [asserted]
      exact (s.mainsOffReset_stage st).trans ((s.stage st).mainsOff_eq _)
    · rw [asserted]
      exact mapTable_get UnitRec.mainsOff s.supervisor.records u.val u.isLt

end Sys2Proof.Proofs
end

section
/-! Proofs/Drains.lean: what acting on notices can change, and what it leaves alone (O57). -/

namespace Sys2Proof.Machine

/-! ### A shed's revoke and stop, by the room for the STOP and the stage's state (R20, R21, R109) -/

section
variable {s : State} {st : StageId} {reason : StopReason} {counter : Counter}

theorem State.shedRevoke_sent (room : s.stopRoom = true) (granted : (s.stage st).state = .granted) : s.shedRevoke st reason counter =
    (((s.withdrawPermit st).bump counter).placeStop { stage := st, reason := reason, token := (s.stage st).token.getD 0 }, true) := by
  rw [State.shedRevoke, if_pos room, State.revoke, if_pos granted]

theorem State.shedRevoke_refused (room : s.stopRoom = true) (granted : (s.stage st).state ≠ .granted) :
    s.shedRevoke st reason counter = (s, false) := by
  rw [State.shedRevoke, if_pos room, State.revoke, if_neg granted]

theorem State.shedRevoke_waits (room : s.stopRoom = false) : s.shedRevoke st reason counter = (s.bump .shedsWaiting, false) :=
  if_neg (by simp [room])

/-- The record of a stage stopped (R21). -/
def Stage.stoppedBy (timeout : Millis) (reason : StopReason) (r : Stage) : Stage :=
  { r with state := .stopping, handshake := timeout, stopReason := some reason }

theorem State.shedStop_sent (room : s.stopRoom = true) (settled : (s.stage st).settled = true) : s.shedStop st reason counter =
    ((((s.onStage st (Stage.stoppedBy (s.settingTime .stopTimeout) reason)).give (.pass .stageChange)).bump counter).placeStop
      { stage := st, reason := reason, token := (s.stage st).token.getD 0 }, true) := by
  rw [State.shedStop, if_pos room, State.stopStage, if_pos settled]; rfl

theorem State.shedStop_refused (room : s.stopRoom = true) (settled : (s.stage st).settled = false) :
    s.shedStop st reason counter = (s, false) := by
  rw [State.shedStop, if_pos room, State.stopStage, if_neg (by simp [settled])]

theorem State.shedStop_waits (room : s.stopRoom = false) : s.shedStop st reason counter = (s.bump .shedsWaiting, false) :=
  if_neg (by simp [room])

end

/-- A pass is a walk, then its record, the naming of the entries and the marker, and a feeding (R83 to R92, R150). -/
theorem State.makePass_eq (cause : PassCause) (s : State) : ∃ (w : Walk) (f : Arbiter → Arbiter) (g : CallQueue → CallQueue),
    w = walkEntries (cause == .evaluation) (s.setting .guardBand) (s.setting .holdBackTime) s.calls.entries
      { state := s, headroom := s.headroom, grants := 0, named := [], blocking := none, replayGranted := false } ∧
    s.makePass cause =
      let x := ((w.state.onArbiter f).onCalls g).setMarker w.blocking
      if w.replayGranted then x.feed else x := ⟨_, _, _, rfl, rfl⟩

/-! ### The blocks that passes, checks and ageing touch only in part -/

/-- From s to t notices may have joined the queue and a STOP an empty slot, the mode may have left REPLAY, the persistence count and
the hold-off may have changed, and no completion of an erase has been counted. -/
structure State.Drained (s t : State) : Prop where
  queue : ∃ added, t.link = { s.link with
    queue := s.link.queue ++ added, stopSlot := t.link.stopSlot, headAttempt := t.link.headAttempt }
  stopSlot : s.link.stopSlot ≠ none → t.link.stopSlot = s.link.stopSlot
  modes : s.mode ≠ .replay → t.modes = s.modes
  replay : s.mode = .replay → t.mode = .replay ∨ (t.mode = .coordinating ∧ t.modes.roster = [])
  account : t.account = { s.account with persistence := t.account.persistence }
  shed : t.shed = { s.shed with holdOff := t.shed.holdOff }
  erases : t.counter .erasesCompleted = s.counter .erasesCompleted

namespace State.Drained

theorem of_same {s t : State} (link : t.link = s.link) (modes : t.modes = s.modes) (account : t.account = s.account)
    (shed : t.shed = s.shed) (erases : t.counter .erasesCompleted = s.counter .erasesCompleted) : s.Drained t where
  queue := ⟨[], by rw [link]; simp⟩
  stopSlot _ := by rw [link]
  modes _ := modes
  replay inReplay := .inl (by rw [State.mode, modes]; exact inReplay)
  account := by rw [account]
  shed := by rw [shed]
  erases := erases

theorem refl (s : State) : s.Drained s := .of_same rfl rfl rfl rfl rfl

theorem trans {s t x : State} (a : s.Drained t) (b : t.Drained x) : s.Drained x where
  queue := by
    obtain ⟨first, eq⟩ := a.queue
    obtain ⟨second, eq'⟩ := b.queue
    exact ⟨first ++ second, by rw [eq', eq]; simp⟩
  stopSlot taken := by
    have same := a.stopSlot taken
    rw [b.stopSlot (by rw [same]; exact taken), same]
  modes notReplay := by
    have same := a.modes notReplay
    rw [b.modes (by rw [State.mode, same]; exact notReplay), same]
  replay inReplay := by
    rcases a.replay inReplay with still | ⟨left, empty⟩
    · exact b.replay still
    · have same := b.modes (by rw [left]; simp)
      exact .inr ⟨by rw [State.mode, same]; exact left, by rw [same]; exact empty⟩
  account := by rw [b.account, a.account]
  shed := by rw [b.shed, a.shed]
  erases := b.erases.trans a.erases

theorem bump {c : Counter} (other : c ≠ .erasesCompleted) (s : State) : s.Drained (s.bump c) :=
  .of_same (by simp) (by simp) (by simp) (by simp) (State.bump_counter_other _ _ _ other)

theorem enqueue (n : Notice) (s : State) : s.Drained (s.enqueue n) where
  queue := ⟨[n], rfl⟩
  stopSlot _ := rfl
  modes _ := rfl
  replay inReplay := .inl inReplay
  account := rfl
  shed := rfl
  erases := rfl

theorem placeStop (f : StopFrame) (s : State) : s.Drained (s.placeStop f) := by
  unfold State.placeStop
  split
  · next empty =>
    exact ⟨⟨[], by simp⟩, fun taken => absurd (Option.isNone_iff_eq_none.mp empty) taken, fun _ => rfl, .inl, rfl, rfl, rfl⟩
  · exact enqueue _ s

theorem give (c : Cause) (s : State) : s.Drained (s.give c) := .of_same rfl rfl rfl rfl rfl

theorem onStage (st : StageId) (f : Stage → Stage) (s : State) : s.Drained (s.onStage st f) := .of_same rfl rfl rfl rfl rfl

theorem onArbiter (f : Arbiter → Arbiter) (s : State) : s.Drained (s.onArbiter f) := .of_same rfl rfl rfl rfl rfl

theorem onCalls (f : CallQueue → CallQueue) (s : State) : s.Drained (s.onCalls f) := .of_same rfl rfl rfl rfl rfl

theorem setMarker (m : Option Marker) (s : State) : s.Drained (s.setMarker m) := by
  have either : ∀ onset : Bool, s.Drained (if onset then (s.onArbiter fun a => { a with marker := m }).bump .blockingHeadOnsets
      else s.onArbiter fun a => { a with marker := m }) := fun onset => by
    split
    · exact (onArbiter _ s).trans (bump (by simp) _)
    · exact onArbiter _ s
  exact either _

theorem removeCall (st : StageId) (s : State) : s.Drained (s.removeCall st) := by
  refine .of_same (by simp) (by simp) (by simp) (by simp) ?_
  rw [State.removeCall_eq]
  unfold State.onsetCounters
  split
  · exact State.bump_counter_other (s := s) _ _ (by simp)
  · rfl

theorem feed (s : State) : s.Drained s.feed := by
  have queueOnly := State.QueueOnly.feed s
  refine ⟨⟨[], by simp⟩, fun _ => by simp, fun notReplay => by rw [State.feed_other notReplay], fun inReplay => ?_, by simp, by simp,
    queueOnly.counters _ (by simp) (by simp)⟩
  rw [State.feed_replay inReplay]
  have read : ∀ x : State, x.mode = .replay →
      x.advanceRead.mode = .replay ∨ (x.advanceRead.mode = .coordinating ∧ x.advanceRead.modes.roster = []) := by
    intro x still
    simp only [State.advanceRead]
    split
    · exact .inr ⟨by simp [State.setMode, Mode.admits, State.mode, State.formFallback],
        by simp [State.setMode, Mode.admits, State.emptyRoster, State.formFallback]⟩
    · exact .inl still
  refine read _ ?_
  exact feedEntries_induction (fun _ y => y.mode = .replay) (fun _ _ _ y h _ _ => by rw [State.mode, State.fedBy_modes]; exact h)
    (fun _ _ _ _ h _ _ => h) [] s.modes.roster s inReplay

/-- In REPLAY a change of the roster alone. -/
theorem onRoster {s : State} (f : Modes → Modes) (inReplay : s.mode = .replay) (mode : (f s.modes).mode = .replay) :
    s.Drained (s.onModes f) :=
  ⟨⟨[], by simp⟩, fun _ => rfl, fun notReplay => absurd inReplay notReplay, fun _ => .inl mode, rfl, rfl, rfl⟩

theorem markRemoved (st : StageId) (granted : Bool) (s : State) : s.Drained (s.markRemoved st granted) := by
  unfold State.markRemoved
  split
  · next inReplay => exact (onRoster _ inReplay inReplay).trans (bump (by cases granted <;> simp) _)
  · exact refl s

theorem replayDeclined (st : StageId) (s : State) : s.Drained (s.replayDeclined st) := by
  unfold State.replayDeclined
  split
  · next inReplay => exact ((onRoster _ inReplay inReplay).trans (bump (by simp) _)).trans (feed _)
  · exact refl s

theorem withdrawPermit (st : StageId) (s : State) : s.Drained (s.withdrawPermit st) := by
  simp only [State.withdrawPermit]
  refine trans ?_ (give _ _)
  split
  · exact (onStage st _ s).trans (replayDeclined st _)
  · exact onStage st _ s

theorem grantEntry (e : CallEntry) (s : State) : s.Drained (s.grantEntry e) := by
  simp only [State.grantEntry, State.grantStage]
  refine trans ?_ ((bump (by simp) _).trans (enqueue _ _))
  have granted := fun f g => ((onArbiter f s).trans (removeCall e.stage _)).trans (onStage e.stage g _)
  have marked : ∀ x : State, s.Drained x → s.Drained (if e.replay then x.markRemoved e.stage true else x) := fun x h => by
    split
    · exact h.trans (markRemoved _ _ _)
    · exact h
  split
  · exact ((marked _ (granted _ _)).trans (onArbiter _ _)).trans (bump (by simp) _)
  · exact marked _ (granted _ _)

theorem walk (onEvaluation : Bool) (guardBand holdBack : Nat) (entries : List CallEntry) (w : Walk) :
    w.state.Drained (walkEntries onEvaluation guardBand holdBack entries w).state := by
  induction entries generalizing w with
  | nil => exact refl _
  | cons e rest ih =>
    simp only [walkEntries]
    split
    · exact refl _
    split
    · exact ih w
    split
    · exact (grantEntry e w.state).trans (ih { w with
        state := w.state.grantEntry e, headroom := w.headroom - (w.state.stage e.stage).working.load, grants := w.grants + 1,
        replayGranted := w.replayGranted || e.replay })
    split
    · exact refl _
    · exact ih { w with named := if onEvaluation then w.named ++ [e.stage] else w.named }

theorem makePass (cause : PassCause) (s : State) : s.Drained (s.makePass cause) := by
  obtain ⟨w, f, g, walked, eq⟩ := s.makePass_eq cause
  have drained : s.Drained w.state := by rw [walked]; exact walk _ _ _ _ { state := s, .. }
  have passed := ((drained.trans (onArbiter f _)).trans (onCalls g _)).trans (setMarker w.blocking _)
  rw [eq]
  simp only
  split
  · exact passed.trans (feed _)
  · exact passed

theorem passCause (cause : PassCause) (s : State) : s.Drained (s.passCause cause) := by
  simp only [State.passCause]
  split
  · exact makePass cause s
  · split
    · exact (setMarker none s).trans (bump (by simp) _)
    · exact setMarker none s

theorem shedRevoke (st : StageId) (reason : StopReason) {counter : Counter} (other : counter ≠ .erasesCompleted) (s : State) :
    s.Drained (s.shedRevoke st reason counter).1 := by
  by_cases room : s.stopRoom = true
  · by_cases granted : (s.stage st).state = .granted
    · rw [State.shedRevoke_sent room granted]
      exact ((withdrawPermit st s).trans (bump other _)).trans (placeStop _ _)
    · rw [State.shedRevoke_refused room granted]; exact refl s
  · rw [State.shedRevoke_waits (Bool.eq_false_of_not_eq_true room)]; exact bump (by simp) s

theorem shedStop (st : StageId) (reason : StopReason) {counter : Counter} (other : counter ≠ .erasesCompleted) (s : State) :
    s.Drained (s.shedStop st reason counter).1 := by
  by_cases room : s.stopRoom = true
  · by_cases settled : (s.stage st).settled = true
    · rw [State.shedStop_sent room settled]
      exact (((onStage st _ s).trans (give _ _)).trans (bump other _)).trans (placeStop _ _)
    · rw [State.shedStop_refused room (Bool.eq_false_of_not_eq_true settled)]; exact refl s
  · rw [State.shedStop_waits (Bool.eq_false_of_not_eq_true room)]; exact bump (by simp) s

theorem orderStop (st : StageId) (s : State) : s.Drained (s.orderStop st) := by
  unfold State.orderStop
  split
  · split
    · exact shedRevoke st .order (by simp) s
    · split
      · exact shedStop st .order (by simp) s
      · exact refl s
    all_goals exact refl s
  · exact refl s

theorem shedOrders (s : State) : s.Drained s.shedOrders := by
  unfold State.shedOrders
  generalize s.stages.runOrder = l
  induction l using List.reverseRecOn with
  | nil => exact refl s
  | append_singleton l st ih => rw [List.foldl_concat]; exact ih.trans (orderStop st _)

theorem clearPersistence (s : State) : s.Drained s.clearPersistence :=
  ⟨⟨[], by simp⟩, fun _ => rfl, fun _ => rfl, .inl, rfl, rfl, rfl⟩

theorem demandShed (s : State) : s.Drained s.demandShed.1 := by
  have cleared : ∀ (x : State) (sent : Bool), s.Drained x → s.Drained (if sent then x.clearPersistence else x) := by
    intro x sent h
    split
    · exact h.trans (clearPersistence x)
    · exact h
  unfold State.demandShed
  split
  · exact refl s
  · refine cleared _ _ ?_
    split
    · exact shedRevoke _ _ (by simp) s
    · split
      · exact shedStop _ _ (by simp) s
      · exact (bump (by simp) s).trans (clearPersistence _)

theorem displacementShed (s : State) : s.Drained s.displacementShed := by
  unfold State.displacementShed
  split
  · exact refl s
  · split
    · split
      · exact refl s
      · next st _ =>
        simp only
        have stopped := shedStop st .displace (counter := .displacementStops) (by simp) s
        split
        · exact stopped.trans ⟨⟨[], by simp⟩, fun _ => rfl, fun _ => rfl, .inl, rfl, rfl, rfl⟩
        · exact stopped
    · exact refl s

theorem checkCause (s : State) : s.Drained s.checkCause := by
  unfold State.checkCause
  split
  · simp only
    have shed := (shedOrders s).trans (demandShed _)
    split
    · exact shed
    · exact shed.trans (displacementShed _)
  · exact refl s

theorem bumpTimes {c : Counter} (other : c ≠ .erasesCompleted) (n : Nat) (s : State) : s.Drained (s.bumpTimes c n) := by
  induction n generalizing s with
  | zero => exact refl s
  | succ n ih => exact (bump other s).trans (ih _)

theorem act (c : Cause) (s : State) : s.Drained (s.act c) := by
  cases c with
  | ageing =>
    exact (onCalls _ s).trans (bumpTimes (c := .promotions) (by simp) _ _)
  | pass cause => exact passCause cause s
  | check _ => exact checkCause s

theorem drainWith (choose : Nat → Nat) (fuel : Nat) (s : State) : s.Drained (State.drainWith choose fuel s) := by
  induction fuel generalizing s with
  | zero => exact .of_same rfl rfl rfl rfl rfl
  | succ n ih =>
    simp only [State.drainWith]
    split
    · exact refl s
    · have taken : ∀ (causes : List Cause) (drawn : Nat), s.Drained { s with causes := causes, drawn := drawn } :=
        fun _ _ => .of_same rfl rfl rfl rfl rfl
      exact (taken _ _).trans ((act _ _).trans (ih _))

theorem drain (s : State) : s.Drained s.drain := drainWith _ _ s

end State.Drained

end Sys2Proof.Machine
end

section
/-! Proofs/UntouchedStages.lean: the stages that no pass and no shed check can touch (O57). -/

namespace Sys2Proof.Machine

/-- A stage that no pass grants, no shed check revokes or stops, and no feeding QUEUES: HELD, TRIPPED, STOPPING, RUNNING and not
settled, or IDLE outside REPLAY. -/
def State.untouchable (s : State) (st : StageId) : Prop :=
  (s.stage st).state = .held ∨ (s.stage st).state = .tripped ∨ (s.stage st).state = .stopping ∨
    ((s.stage st).state = .running ∧ 0 < (s.stage st).run) ∨ ((s.stage st).state = .idle ∧ s.mode ≠ .replay)

/-- From s to t such stages are left as they were. -/
def State.LeavesUntouchable (s t : State) : Prop := ∀ st, s.untouchable st → t.stage st = s.stage st

theorem State.untouchable.congr {s t : State} {st : StageId} (h : s.untouchable st) (drained : s.Drained t)
    (stage : t.stage st = s.stage st) : t.untouchable st := by
  unfold State.untouchable at h ⊢
  rw [stage]
  have mode : s.mode ≠ .replay → t.mode ≠ .replay := fun notReplay => by
    rw [State.mode, drained.modes notReplay]; exact notReplay
  exact h.imp_right <| Or.imp_right <| Or.imp_right <| Or.imp_right fun ⟨idle, notReplay⟩ => ⟨idle, mode notReplay⟩

theorem State.untouchable.not_queued {s : State} {st : StageId} (h : s.untouchable st) : (s.stage st).state ≠ .queued := by
  rcases h with h | h | h | ⟨h, -⟩ | ⟨h, -⟩ <;> simp [h]

theorem State.untouchable.not_granted {s : State} {st : StageId} (h : s.untouchable st) : (s.stage st).state ≠ .granted := by
  rcases h with h | h | h | ⟨h, -⟩ | ⟨h, -⟩ <;> simp [h]

theorem State.untouchable.not_settled {s : State} {st : StageId} (h : s.untouchable st) : (s.stage st).settled = false := by
  unfold Stage.settled
  rcases h with h | h | h | ⟨-, h⟩ | ⟨h, -⟩
  · rw [h]; rfl
  · rw [h]; rfl
  · rw [h]; rfl
  · simp [Nat.ne_of_gt h]
  · rw [h]; rfl

theorem State.Moves.callsExact {s t : State} (moves : s.Moves t) (h : s.callsExact) : t.callsExact := by
  induction moves with
  | refl => exact h
  | tail _ move ih => exact move.callsExact ih

theorem State.grantEntry_stage_other {s : State} {e : CallEntry} {st : StageId} (other : st ≠ e.stage) :
    (s.grantEntry e).stage st = s.stage st := by
  rw [State.stage, (State.grantEntry_stages_calls e s).1]
  exact (State.stage_onStage_other _ _ other).trans (by simp [State.stage])

theorem walkEntries_stage_other (onEvaluation : Bool) (guardBand holdBack : Nat) {entries : List CallEntry} {w : Walk} {st : StageId}
    (other : ∀ e ∈ entries, st ≠ e.stage) :
    (walkEntries onEvaluation guardBand holdBack entries w).state.stage st = w.state.stage st := by
  induction entries generalizing w with
  | nil => rfl
  | cons e rest ih =>
    have others := fun e' mem => other e' (List.mem_cons_of_mem _ mem)
    simp only [walkEntries]
    split
    · rfl
    split
    · exact ih others
    split
    · exact (ih others).trans (State.grantEntry_stage_other (other e (by simp)))
    split
    · rfl
    · exact ih others

namespace State.LeavesUntouchable

theorem same {s t : State} (stages : t.stages = s.stages) : s.LeavesUntouchable t := fun st _ => by rw [State.stage, stages]; rfl

theorem trans {s t x : State} (drained : s.Drained t) (a : s.LeavesUntouchable t) (b : t.LeavesUntouchable x) :
    s.LeavesUntouchable x := fun st h => (b st (h.congr drained (a st h))).trans (a st h)

theorem feed (s : State) : s.LeavesUntouchable s.feed := fun st h => by
  by_cases inReplay : s.mode = .replay
  · have busy : (s.stage st).state ≠ .idle := by
      rcases h with h | h | h | ⟨h, -⟩ | ⟨-, notReplay⟩
      · simp [h]
      · simp [h]
      · simp [h]
      · simp [h]
      · exact absurd inReplay notReplay
    exact State.unfeedable.feed (.inr (.inr busy))
  · rw [State.feed_other inReplay]

theorem onStage {s : State} {st : StageId} (f : Stage → Stage) (touched : ¬ s.untouchable st) : s.LeavesUntouchable (s.onStage st f) :=
  fun _ h => State.stage_onStage_other _ _ fun eq => touched (eq ▸ h)

theorem replayDeclined (st : StageId) (s : State) : s.LeavesUntouchable (s.replayDeclined st) := by
  unfold State.replayDeclined
  split
  · next inReplay =>
    exact trans ((State.Drained.onRoster _ inReplay inReplay).trans (.bump (by simp) _)) (same (by simp)) (feed _)
  · exact same rfl

theorem withdrawPermit {s : State} {st : StageId} (granted : (s.stage st).state = .granted) :
    s.LeavesUntouchable (s.withdrawPermit st) := by
  have touched : ¬ s.untouchable st := fun h => h.not_granted granted
  obtain ⟨f, eq⟩ : ∃ f, s.withdrawPermit st = State.give (.pass .stageChange)
    (if (s.stage st).rosterFlag then (s.onStage st f).replayDeclined st else s.onStage st f) := ⟨_, rfl⟩
  rw [eq]
  split
  · exact trans ((State.Drained.onStage st f s).trans (.replayDeclined st _))
      (trans (.onStage st f s) (onStage f touched) (replayDeclined st _)) (same rfl)
  · exact trans (.onStage st f s) (onStage f touched) (same rfl)

theorem makePass {s : State} (calls : s.callsExact) (cause : PassCause) : s.LeavesUntouchable (s.makePass cause) := by
  obtain ⟨w, f, g, walk, eq⟩ := s.makePass_eq cause
  have drained : s.Drained w.state := by rw [walk]; exact State.Drained.walk _ _ _ _ { state := s, .. }
  have walked : s.LeavesUntouchable w.state := fun st h => by
    rw [walk]
    refine walkEntries_stage_other _ _ _ (w := { state := s, .. }) fun e mem own => h.not_queued ?_
    exact (calls.2.2.1 st.unit st.slot).mp (List.mem_map.mpr ⟨e, mem, own.symm⟩)
  have marked : w.state.Drained (((w.state.onArbiter f).onCalls g).setMarker w.blocking) :=
    ((State.Drained.onArbiter f _).trans (.onCalls g _)).trans (.setMarker _ _)
  have left := trans drained walked (same (t := ((w.state.onArbiter f).onCalls g).setMarker w.blocking) (by simp))
  rw [eq]
  simp only
  split
  · exact trans (drained.trans marked) left (feed _)
  · exact left

theorem passCause {s : State} (calls : s.callsExact) (cause : PassCause) : s.LeavesUntouchable (s.passCause cause) := by
  simp only [State.passCause]
  split
  · exact makePass calls cause
  · split <;> exact same (by simp)

theorem shedRevoke (st : StageId) (reason : StopReason) (counter : Counter) (s : State) :
    s.LeavesUntouchable (s.shedRevoke st reason counter).1 := by
  by_cases room : s.stopRoom = true
  · by_cases granted : (s.stage st).state = .granted
    · rw [State.shedRevoke_sent room granted]
      exact trans (.withdrawPermit st s) (withdrawPermit granted) (same (by simp))
    · rw [State.shedRevoke_refused room granted]; exact same rfl
  · rw [State.shedRevoke_waits (Bool.eq_false_of_not_eq_true room)]; exact same (by simp)

theorem shedStop (st : StageId) (reason : StopReason) (counter : Counter) (s : State) :
    s.LeavesUntouchable (s.shedStop st reason counter).1 := by
  by_cases room : s.stopRoom = true
  · by_cases settled : (s.stage st).settled = true
    · rw [State.shedStop_sent room settled]
      have touched : ¬ s.untouchable st := fun h => by rw [h.not_settled] at settled; cases settled
      exact trans (.onStage st (Stage.stoppedBy (s.settingTime .stopTimeout) reason) s) (onStage _ touched) (same (by simp))
    · rw [State.shedStop_refused room (Bool.eq_false_of_not_eq_true settled)]; exact same rfl
  · rw [State.shedStop_waits (Bool.eq_false_of_not_eq_true room)]; exact same (by simp)

theorem orderStop (st : StageId) (s : State) : s.LeavesUntouchable (s.orderStop st) := by
  unfold State.orderStop
  split
  · split
    · exact shedRevoke st .order _ s
    · split
      · exact shedStop st .order _ s
      · exact same rfl
    all_goals exact same rfl
  · exact same rfl

theorem shedOrders (s : State) : s.LeavesUntouchable s.shedOrders := by
  unfold State.shedOrders
  suffices both : ∀ l : List StageId, s.Drained (l.foldl State.orderStop s) ∧ s.LeavesUntouchable (l.foldl State.orderStop s) from
    (both _).2
  intro l
  induction l using List.reverseRecOn with
  | nil => exact ⟨.refl s, same rfl⟩
  | append_singleton l st ih =>
    obtain ⟨drained, left⟩ := ih
    rw [List.foldl_concat]
    exact ⟨drained.trans (.orderStop st _), trans drained left (orderStop st _)⟩

theorem demandShed (s : State) : s.LeavesUntouchable s.demandShed.1 := by
  have cleared : ∀ (x : State) (sent : Bool), s.LeavesUntouchable x →
      s.LeavesUntouchable (if sent then x.clearPersistence else x) := by
    intro x sent h
    split
    · exact fun st was => (h st was)
    · exact h
  unfold State.demandShed
  split
  · exact same rfl
  · refine cleared _ _ ?_
    split
    · exact shedRevoke _ _ _ s
    · split
      · exact shedStop _ _ _ s
      · exact same (by simp)

theorem displacementShed (s : State) : s.LeavesUntouchable s.displacementShed := by
  unfold State.displacementShed
  split
  · exact same rfl
  · split
    · split
      · exact same rfl
      · next st _ =>
        simp only
        have stopped := shedStop st .displace .displacementStops s
        split
        · exact fun st was => stopped st was
        · exact stopped
    · exact same rfl

theorem checkCause (s : State) : s.LeavesUntouchable s.checkCause := by
  unfold State.checkCause
  split
  · simp only
    have drained := (State.Drained.shedOrders s).trans (.demandShed _)
    have shed := trans (.shedOrders s) (shedOrders s) (demandShed _)
    split
    · exact shed
    · exact trans drained shed (displacementShed _)
  · exact same rfl

theorem act {s : State} (calls : s.callsExact) (c : Cause) : s.LeavesUntouchable (s.act c) := by
  cases c with
  | ageing => exact same (by simp [State.act])
  | pass cause => exact passCause calls cause
  | check _ => exact checkCause s

theorem drainWith (choose : Nat → Nat) (fuel : Nat) {s : State} (calls : s.callsExact) :
    s.LeavesUntouchable (State.drainWith choose fuel s) := by
  induction fuel generalizing s with
  | zero => exact same rfl
  | succ n ih =>
    simp only [State.drainWith]
    split
    · exact same rfl
    · have taken : ∀ (causes : List Cause) (drawn : Nat) (c : Cause),
          s.LeavesUntouchable (State.drainWith choose n (State.act c { s with causes := causes, drawn := drawn })) := by
        intro causes drawn c
        have acted := act (s := { s with causes := causes, drawn := drawn }) calls c
        have drained : s.Drained { s with causes := causes, drawn := drawn } := .of_same rfl rfl rfl rfl rfl
        refine trans (drained.trans (.act c _)) (trans drained (same rfl) acted) (ih ?_)
        exact State.Moves.callsExact (State.act_moves c _) calls
      exact taken _ _ _

end State.LeavesUntouchable

end Sys2Proof.Machine
end

section
/-! Proofs/NoticesActedOn.lean: notices are acted on one after another (O57). -/

namespace Sys2Proof.Machine

/-! ### The ageing (R70) -/

theorem State.bumpTimes_counter (c d : Counter) (n : Nat) (s : State) :
    (s.bumpTimes c n).counter d = if d = c then raisedBy n (s.counter d) else s.counter d := by
  induction n generalizing s with
  | zero => simp [State.bumpTimes, raisedBy]
  | succ n ih =>
    rw [State.bumpTimes, ih, State.bump_counter]
    by_cases own : d = c
    · subst own
      have counted : raisedBy (n + 1) (s.counter d) = min 65535 (s.counter d + (n + 1)) := if_neg (Nat.succ_ne_zero n)
      rw [if_pos rfl, if_pos rfl, if_pos rfl, counted]
      unfold raisedBy max16
      split <;> omega
    · simp [own]

/-- An entry moves up one class: class 2 or 3, and the promote time waited at this evaluation. -/
theorem CallEntry.promotable_iff (n : Nat) (e : CallEntry) :
    e.age.promotable n = decide ((e.cls = 2 ∨ e.cls = 3) ∧ n ≤ min 65535 (e.waitAge + 1)) := by
  rw [Bool.eq_iff_iff]
  simp [CallEntry.promotable, CallEntry.age, satAdd, max16]

theorem CallEntry.ageOrPromote_eq (n : Nat) (e : CallEntry) : e.ageOrPromote n =
    if (e.cls = 2 ∨ e.cls = 3) ∧ n ≤ min 65535 (e.waitAge + 1) then { e with cls := e.cls - 1, waitAge := 0 }
    else { e with waitAge := min 65535 (e.waitAge + 1) } := by
  simp only [CallEntry.ageOrPromote, CallEntry.promotable_iff, decide_eq_true_eq]
  rfl

theorem State.ageCalls_calls (s : State) : s.ageCalls.calls =
    { s.calls with entries := sortEntries (s.calls.entries.map (CallEntry.ageOrPromote (s.setting .promoteTime))) } := by
  simp [State.ageCalls]

theorem State.bumpTimes_eq (c : Counter) (n : Nat) (s : State) :
    s.bumpTimes c n = { s with counters := (s.bumpTimes c n).counters } := by
  induction n generalizing s with
  | zero => rfl
  | succ n ih => exact (ih (s.bump c)).trans rfl

theorem State.ageCalls_eq (s : State) : s.ageCalls = { s with
    calls := { s.calls with entries := sortEntries (s.calls.entries.map (CallEntry.ageOrPromote (s.setting .promoteTime))) }
    counters := s.ageCalls.counters } := State.bumpTimes_eq ..

theorem CallEntry.before_iff (a b : CallEntry) : a.before b = true ↔ a.cls < b.cls ∨ (a.cls = b.cls ∧ a.stamp < b.stamp) := by
  simp [CallEntry.before]

theorem State.ageCalls_perm (s : State) : s.ageCalls.calls.entries.Perm (s.calls.entries.map fun e =>
    if (e.cls = 2 ∨ e.cls = 3) ∧ s.setting .promoteTime ≤ min 65535 (e.waitAge + 1) then { e with cls := e.cls - 1, waitAge := 0 }
    else { e with waitAge := min 65535 (e.waitAge + 1) }) := by
  rw [s.ageCalls_calls]
  exact (sortEntries_perm _).trans (.of_eq (List.map_congr_left fun e _ => e.ageOrPromote_eq _))

theorem State.ageCalls_ordered (s : State) (distinct : (s.calls.entries.map CallEntry.stamp).Nodup) :
    s.ageCalls.calls.entries.Pairwise fun a b => a.cls < b.cls ∨ (a.cls = b.cls ∧ a.stamp < b.stamp) := by
  have stamps : (s.calls.entries.map (CallEntry.ageOrPromote (s.setting .promoteTime))).map CallEntry.stamp =
      s.calls.entries.map CallEntry.stamp := by
    rw [List.map_map]
    exact List.map_congr_left fun e _ => (e.ageOrPromote_place _).2
  rw [s.ageCalls_calls]
  exact (sortEntries_ordered _ (stamps ▸ distinct)).imp fun {a b} => (a.before_iff b).mp

/-- The promotions are counted (R70). -/
theorem State.ageCalls_counter (s : State) (c : Counter) : s.ageCalls.counter c =
    if c = .promotions then
      raisedBy (s.calls.entries.countP fun e => e.age.promotable (s.setting .promoteTime)) (s.counter c) else s.counter c :=
  State.bumpTimes_counter _ _ _ _

theorem raisedBy_countP {α : Type} (l : List α) (test : α → Bool) (n : Nat) :
    raisedBy (l.countP test) n = if ∃ a ∈ l, test a = true then min 65535 (n + l.countP test) else n := by
  unfold raisedBy max16
  by_cases some : ∃ a ∈ l, test a = true
  · rw [if_neg (Nat.ne_of_gt (List.countP_pos_iff.mpr some)), if_pos some]
  · have none : l.countP test = 0 := List.countP_eq_zero.mpr fun a mem met => some ⟨a, mem, met⟩
    rw [if_pos none, if_neg some]

/-! ### One notice after another -/

/-- A drain acts on one of the notices and goes on with the rest and those it gave. -/
theorem State.drain_cons {s : State} (some : s.causes ≠ []) : ∃ (i : Fin s.causes.length) (n : Nat),
    (n = s.drawn ∨ n = s.drawn + 1) ∧ s.drain = (State.act s.causes[i] { s with causes := s.causes.eraseIdx i, drawn := n }).drain := by
  obtain ⟨first, others, given⟩ := List.exists_cons_of_ne_nil some
  have positive : s.budget = s.budget - 1 + 1 := by simp only [State.budget, given, List.length_cons]; omega
  let free := s.orderSeen first others
  have inside : (if free then Config.causeChoice s.drawn % (others.length + 1) else 0) < s.causes.length := by
    rw [given, List.length_cons]
    have := Nat.mod_lt (Config.causeChoice s.drawn) (Nat.succ_pos others.length)
    split <;> omega
  let i : Fin s.causes.length := ⟨_, inside⟩
  let n := if free then s.drawn + 1 else s.drawn
  refine ⟨i, n, by simp only [n]; split <;> simp, ?_⟩
  let x : State := { s with causes := s.causes.eraseIdx i, drawn := n }
  have step : State.drainWith Config.causeChoice (s.budget - 1 + 1) s =
      State.drainWith Config.causeChoice (s.budget - 1) (State.act s.causes[i] x) := by
    have taken : (first :: others).getD (if free then Config.causeChoice s.drawn % (others.length + 1) else 0) first = s.causes[i] := by
      rw [← given]
      exact List.getD_eq_getElem _ _ inside
    simp only [State.drainWith]
    split
    · next none => exact absurd none some
    · next f o eq =>
      obtain ⟨rfl, rfl⟩ := List.cons.inj (eq.symm.trans given)
      rw [taken, ← given]
  have lower : x.budget ≤ s.budget - 1 := by
    have short : (s.causes.eraseIdx i).length + 1 = s.causes.length := by
      rw [List.length_eraseIdx, if_pos i.isLt]; omega
    simp only [State.budget, State.mode, x]
    omega
  rw [State.drain, positive, step]
  exact State.drainWith_enough _ _ _ ((State.budget_act _ _).trans lower)

/-- A single notice is acted on in the only order there is. -/
theorem State.drain_single {s : State} {c : Cause} (given : s.causes = [c]) :
    s.drain = (State.act c { s with causes := [] }).drain := by
  have positive : s.budget = s.budget - 1 + 1 := by simp only [State.budget, given, List.length_cons]; omega
  have lower : ({ s with causes := [] } : State).budget ≤ s.budget - 1 := by
    simp only [State.budget, State.mode, given, List.length_cons, List.length_nil]
    omega
  rw [State.drain, positive, State.drainWith_single _ _ s c given]
  exact State.drainWith_enough _ _ _ ((State.budget_act _ _).trans lower)

theorem State.Drained.frame {s t : State} (h : s.Drained t) (supplied : t.supplied = s.supplied) (pins : t.pins = s.pins)
    (supervisor : t.supervisor = s.supervisor) (lines : t.lines = s.lines) (store : t.store = s.store)
    (pending : t.pending = s.pending) (causes : t.causes = []) :
    t = { s with stages := t.stages, calls := t.calls, arbiter := t.arbiter,
                 account := { s.account with persistence := t.account.persistence },
                 shed := { s.shed with holdOff := t.shed.holdOff }, modes := t.modes,
                 link := { s.link with queue := t.link.queue, stopSlot := t.link.stopSlot,
                                       headAttempt := t.link.headAttempt },
                 counters := t.counters, causes := [], drawn := t.drawn } := by
  obtain ⟨added, link⟩ := h.queue
  have account := h.account
  have shed := h.shed
  have queue : t.link.queue = s.link.queue ++ added := congrArg Link.queue link
  rw [← queue] at link
  cases t
  simp only [State.mk.injEq]
  exact ⟨supplied, pins, trivial, trivial, trivial, account, shed, supervisor, lines, trivial, link, store, trivial, causes, trivial,
    pending⟩

/-! ### Where no pass and no check is made -/

/-- From s to t only the entries' ages and classes, the marker and the counters have changed, and notices have been acted on. -/
structure State.Idled (s t : State) : Prop where
  frame : t = { s with calls := { s.calls with entries := t.calls.entries }, arbiter := { s.arbiter with marker := t.arbiter.marker },
                       counters := t.counters, causes := t.causes }
  marker : t.arbiter.marker = s.arbiter.marker ∨ t.arbiter.marker = none
  entries : ∀ st, st ∈ t.calls.entries.map CallEntry.stage ↔ st ∈ s.calls.entries.map CallEntry.stage

namespace State.Idled

theorem refl (s : State) : s.Idled s := ⟨rfl, .inl rfl, fun _ => .rfl⟩

theorem trans {s t x : State} (a : s.Idled t) (b : t.Idled x) : s.Idled x where
  frame := Eq.trans b.frame (congrArg (fun w : State =>
    { w with calls := { w.calls with entries := x.calls.entries }, arbiter := { w.arbiter with marker := x.arbiter.marker },
             counters := x.counters, causes := x.causes }) a.frame)
  marker := b.marker.elim (fun same => a.marker.imp same.trans same.trans) .inr
  entries st := (b.entries st).trans (a.entries st)

theorem mode {s t : State} (h : s.Idled t) : t.mode = s.mode := by rw [h.frame]; rfl

theorem onBus {s t : State} (h : s.Idled t) : t.onBus = s.onBus := by rw [h.frame]; rfl

theorem ageCalls (s : State) : s.Idled s.ageCalls where
  frame := by
    have arbiter : s.ageCalls.arbiter = s.arbiter := by simp
    have causes : s.ageCalls.causes = s.causes := by simp
    rw [arbiter, causes, s.ageCalls_calls]
    exact s.ageCalls_eq
  marker := .inl (by simp)
  entries st := by
    have same : (s.calls.entries.map (CallEntry.ageOrPromote (s.setting .promoteTime))).map CallEntry.stage =
        s.calls.entries.map CallEntry.stage := by
      rw [List.map_map]
      exact List.map_congr_left fun e _ => (e.ageOrPromote_place _).1
    rw [State.ageCalls_calls, ← same]
    exact ((sortEntries_perm _).map _).mem_iff

theorem act {s : State} (quiet : s.mode.admits = false ∨ s.onBus = false) (c : Cause) : s.Idled (State.act c s) := by
  cases c with
  | ageing => exact ageCalls s
  | pass cause =>
    have barred : s.passAllowed = false := by
      unfold State.passAllowed
      rcases quiet with h | h <;> simp [h]
    have marked : s.Idled (s.setMarker none) := ⟨rfl, .inr rfl, fun _ => .rfl⟩
    have counted : (s.setMarker none).Idled ((s.setMarker none).bump .passesDeferred) := ⟨rfl, .inl (by simp), fun _ => .rfl⟩
    simp only [State.act, State.passCause, barred]
    split
    · next h => cases h
    · split
      · exact marked.trans counted
      · exact marked
  | check _ =>
    simp only [State.act, State.checkCause]
    rcases quiet with h | h <;> simp [h, refl]

theorem drainWith (choose : Nat → Nat) (fuel : Nat) {s : State} (quiet : s.mode.admits = false ∨ s.onBus = false) :
    s.Idled (State.drainWith choose fuel s) := by
  induction fuel generalizing s with
  | zero => exact ⟨rfl, .inl rfl, fun _ => .rfl⟩
  | succ n ih =>
    have unseen : ∀ first others, s.orderSeen first others = false := fun first others => by
      unfold State.orderSeen
      rcases quiet with h | h <;> simp [h]
    simp only [State.drainWith, unseen]
    split
    · exact refl s
    · have taken : ∀ (causes : List Cause) (c : Cause),
          s.Idled (State.drainWith choose n (State.act c { s with causes := causes })) := fun causes c => by
        have first : s.Idled { s with causes := causes } := ⟨rfl, .inl rfl, fun _ => .rfl⟩
        have acted := first.trans (act (s := { s with causes := causes }) quiet c)
        exact acted.trans (ih (by rw [acted.mode, acted.onBus]; exact quiet))
      exact taken _ _

end State.Idled

end Sys2Proof.Machine

namespace Sys2Proof.Proofs
open Sys2Proof.Machine

/-- Settles O57: the budget never cuts a drain off (`State.drain_cons`), and what passes, checks and ageing touch is kept over the
notices (`State.Drained`, `State.LeavesUntouchable`, `State.Idled`). -/
theorem drainKeepsTheRest : Obligations.DrainKeepsTheRest := by
  intro s t
  have drained := State.Drained.drain s
  obtain ⟨added, link⟩ := drained.queue
  refine ⟨s.drain_none, fun c => State.drain_single, State.drain_cons, fun _ => rfl, fun _ => rfl,
    ⟨s.ageCalls_perm, s.ageCalls_ordered, ?_, fun c => ?_⟩, ?_, ⟨added, congrArg Link.queue link⟩, drained.stopSlot,
    drained.modes, drained.replay, fun calls st rests => State.LeavesUntouchable.drainWith _ _ calls st rests, fun quiet => ?_⟩
  · exact s.ageCalls_eq.trans (congrArg (fun l : List CallEntry =>
      { s with calls := { s.calls with entries := l }, counters := s.ageCalls.counters })
      (congrArg CallQueue.entries s.ageCalls_calls).symm)
  · refine (s.ageCalls_counter c).trans ?_
    by_cases own : c = .promotions
    · rw [if_pos own, raisedBy_countP]
      simp only [CallEntry.promotable_iff, decide_eq_true_eq, own, true_and]
    · rw [if_neg own, if_neg fun h => own h.1]
  · exact drained.frame (by simp) (by simp) (by simp) (by simp) (by simp) (by simp) (by simp)
  · have idled : s.Idled t := State.Idled.drainWith _ _ quiet
    have frame := idled.frame
    rw [show t.causes = [] from s.drain_causes] at frame
    exact ⟨frame, idled.marker, idled.entries⟩

end Sys2Proof.Proofs
end

section
/-! Proofs/ErasedStages.lean: the stages told one after another of an erased profile (O44). -/

namespace Sys2Proof.Machine

/-! ### Which stages the feeder can have QUEUED -/

/-- From s to x the stages have the records r gives, but for some whose roster entry was WAITING in s; and no entry waits that did
not wait in s. -/
structure State.FedFrom (s x : State) (r : StageId → Stage) : Prop where
  waiting : ∀ e ∈ x.modes.roster, e.outcome = .waiting → e ∈ s.modes.roster
  stage : ∀ st, x.stage st = r st ∨ ({ stage := st, outcome := .waiting } : RosterEntry) ∈ s.modes.roster

namespace State.FedFrom

variable {s x : State} {r : StageId → Stage}

theorem refl (s : State) : s.FedFrom s s.stage := ⟨fun _ h _ => h, fun _ => .inl rfl⟩

theorem like {y : State} (h : s.FedFrom x r) (like : x.Like y) : s.FedFrom y r :=
  ⟨like.modes ▸ h.waiting, fun st => by rw [like.stage]; exact h.stage st⟩

theorem onStage {r' : StageId → Stage} (h : s.FedFrom x r) {st : StageId} {f : Stage → Stage} (own : f (x.stage st) = r' st)
    (others : ∀ st', st' ≠ st → r' st' = r st') : s.FedFrom (x.onStage st f) r' where
  waiting := h.waiting
  stage st' := by
    rw [State.stage_onStage]
    by_cases same : st' = st
    · rw [if_pos same, same]; exact .inl own
    · rw [if_neg same, others st' same]; exact h.stage st'

theorem feed (h : s.FedFrom x r) : s.FedFrom x.feed r := by
  by_cases inReplay : x.mode = .replay
  · rw [State.feed_replay inReplay]
    have fed := feedEntries_induction
      (fun R y => (∀ e ∈ R, e.outcome = .waiting → e ∈ s.modes.roster) ∧
        ∀ st, y.stage st = r st ∨ ({ stage := st, outcome := .waiting } : RosterEntry) ∈ s.modes.roster)
      (fun done e rest y ⟨waiting, stage⟩ would _ => by
        have was : e ∈ s.modes.roster := waiting e (by simp) would.1
        refine ⟨fun e' mem waits => ?_, fun st => ?_⟩
        · rcases List.mem_append.mp mem with mem | mem
          · exact waiting e' (by simp [mem]) waits
          · rcases List.mem_cons.mp mem with rfl | mem
            · cases waits
            · exact waiting e' (by simp [mem]) waits
        · rw [State.stage_fedBy]
          by_cases own : st = e.stage
          · refine .inr ?_
            have is : e = { stage := st, outcome := .waiting } := by
              obtain ⟨stage, outcome⟩ := e
              simp only at own
              rw [own, show outcome = .waiting from would.1]
            exact is ▸ was
          · rw [if_neg own]; exact stage st)
      (fun done e rest y ⟨waiting, stage⟩ _ _ => by
        refine ⟨fun e' mem waits => ?_, stage⟩
        rcases List.mem_append.mp mem with mem | mem
        · exact waiting e' (by simp [mem]) waits
        · rcases List.mem_cons.mp mem with rfl | mem
          · cases waits
          · exact waiting e' (by simp [mem]) waits)
      [] x.modes.roster x ⟨h.waiting, h.stage⟩
    obtain ⟨waiting, stage⟩ := fed
    refine ⟨fun e mem waits => ?_, fun st => ?_⟩
    · simp only [State.advanceRead] at mem
      split at mem
      · simp [State.setMode, Mode.admits, State.emptyRoster, State.formFallback] at mem
      · exact waiting e mem waits
    · refine (stage st).imp_left fun h => ?_
      rw [← h]
      simp [State.stage]
  · rw [State.feed_other inReplay]; exact h

theorem dropCall (h : s.FedFrom x r) (st : StageId) : s.FedFrom (x.dropCall st) r := by
  have removed : s.FedFrom (x.removeCall st) r := ⟨by simpa using h.waiting, fun st => by simpa [State.stage] using h.stage st⟩
  have marked : s.FedFrom ((x.removeCall st).markRemoved st false) r := by
    refine ⟨fun e mem waits => ?_, fun st' => by simpa [State.stage] using h.stage st'⟩
    simp only [State.markRemoved] at mem
    split at mem
    · obtain ⟨e', mem', eq⟩ := List.mem_map.mp (show e ∈ markRoster st .fed .dropped (x.removeCall st).modes.roster from mem)
      split at eq
      · rw [← eq] at waits; cases waits
      · exact removed.waiting e (eq ▸ mem') waits
    · exact removed.waiting e mem waits
  rcases x.dropCall_cases st with ⟨-, eq⟩ | ⟨e, -, -, eq⟩ | ⟨e, -, -, -, eq⟩ <;> rw [eq]
  · exact h
  · exact removed
  · exact marked.feed

end State.FedFrom

/-! ### What a stage becomes -/

/-- The record of a stage told of an erased profile (R3). -/
def Stage.erasedBy (r : Stage) : Stage :=
  match r.state with
  | .idle | .tripped => { r with working := erasedProfile }
  | .queued => { r with working := erasedProfile, state := .idle }
  | .granted | .running | .stopping | .held => { r with pendingProfile := true }

/-- What the erased profiles make of the stages they change, in the state s. -/
def State.erasePlan (s : State) : StagePlan where
  record st := (s.stage st).erasedBy
  out st := (s.stage st).state == .queued
  outReplay st := (s.stage st).state == .queued || (s.stage st).state == .idle
  notices _ := []

/-- A stage told keeps what it adds to the sums, and its place in the list. -/
theorem Stage.erasedBy_loads (r : Stage) :
    r.erasedBy.runLoad = r.runLoad ∧ r.erasedBy.pendLoad = r.pendLoad ∧ r.erasedBy.state.listed = r.state.listed := by
  unfold Stage.erasedBy
  cases state : r.state <;> simp [Stage.runLoad_eq, Stage.pendLoad, state, StageState.listed]

theorem StageTable.pendLoad_le {t : StageTable} (exact_ : t.sumsExact) (st : StageId) : (t.get st).pendLoad ≤ t.cPend := by
  rw [exact_.2]
  exact List.le_sum_of_mem (List.mem_map_of_mem (t.get_mem st))

theorem State.onStage_erasedBy_table (x : State) (st : StageId) :
    (x.onStage st Stage.erasedBy).stages.runOrder = x.stages.runOrder ∧
      (x.stages.sumsExact → (x.onStage st Stage.erasedBy).stages.cRun = x.stages.cRun ∧
        (x.onStage st Stage.erasedBy).stages.cPend = x.stages.cPend) := by
  obtain ⟨run, pend, listed⟩ := Stage.erasedBy_loads (x.stages.get st)
  refine ⟨?_, fun exact_ => ⟨?_, ?_⟩⟩
  · refine (StageTable.put_runOrder ..).trans ?_
    rw [listed]
    cases (x.stages.get st).state.listed <;> rfl
  · refine Eq.trans (b := x.stages.cRun - (x.stages.get st).runLoad + (x.stages.get st).erasedBy.runLoad) rfl ?_
    rw [run, Nat.sub_add_cancel (StageTable.runLoad_le exact_ st)]
  · refine Eq.trans (b := x.stages.cPend - (x.stages.get st).pendLoad + (x.stages.get st).erasedBy.pendLoad) rfl ?_
    rw [pend, Nat.sub_add_cancel (StageTable.pendLoad_le exact_ st)]

section
variable {x : State} {st : StageId} (erased : x.store.profile st = erasedProfile)
include erased

theorem State.profileChange_kept (unqueued : (x.stage st).state ≠ .queued) : x.profileChange st = x.onStage st Stage.erasedBy := by
  have told : ∀ f : Stage → Stage, f (x.stage st) = (x.stage st).erasedBy → x.onStage st f = x.onStage st Stage.erasedBy :=
    fun f eq => State.onStage_congr eq
  unfold State.profileChange
  cases state : (x.stage st).state
  case queued => exact absurd state unqueued
  all_goals exact told _ (by simp only [Stage.erasedBy, state, erased])

theorem State.profileChange_taken (queued : (x.stage st).state = .queued) :
    x.profileChange st = ((x.onStage st Stage.erasedBy).sendDefer st .noProfile).dropCall st := by
  have told : x.onStage st (fun r => { r with working := erasedProfile, state := .idle }) = x.onStage st Stage.erasedBy :=
    State.onStage_congr (by simp only [Stage.erasedBy, queued])
  simp only [State.profileChange, queued, erased]
  rw [if_pos (show erasedProfile.kind = .none from rfl), told]

end

/-- A stage the feeder has QUEUED since is left as it would have been. -/
theorem Stage.erasedBy_fed {r : Stage} (idle : r.state = .idle) : ({ r with state := .queued } : Stage).erasedBy = r.erasedBy := by
  simp [Stage.erasedBy, idle]

theorem State.Like.sendDefer (st : StageId) (reason : DeferReason) (x : State) : x.Like (x.sendDefer st reason) where
  stages := by simp
  calls := by simp
  marker := by simp
  modes := by simp
  store := by simp
  presence u := by simp [State.unit]
  dropped := State.place_counter_other _ _ (by simp)
  onsets := State.place_counter_other _ _ (by simp)

/-- From s to x nothing has changed but the blocks that stages told of a profile can change. -/
def State.ToldFrame (s x : State) : Prop :=
  x = { s with stages := x.stages, calls := x.calls, arbiter := { s.arbiter with marker := x.arbiter.marker }, modes := x.modes,
               link := x.link, counters := x.counters, causes := x.causes }

theorem State.ToldFrame.trans {x y z : State} (a : x.ToldFrame y) (b : y.ToldFrame z) : x.ToldFrame z :=
  Eq.trans b (congrArg (fun w : State =>
    { w with stages := z.stages, calls := z.calls, arbiter := { w.arbiter with marker := z.arbiter.marker }, modes := z.modes,
             link := z.link, counters := z.counters, causes := z.causes }) a)

theorem State.CallFrame.told {x y : State} (a : x.CallFrame y) : x.ToldFrame y := by
  have link : y.link = x.link := by rw [a]
  unfold State.ToldFrame
  rw [link]
  exact a

/-- The DEFERs of stages, in order (R3). -/
def State.deferred (s : State) (l : List StageId) : State := l.foldl (fun x st => x.sendDefer st .noProfile) s

/-- From s to x the stages of l have been told of an erased profile; those that `again` names were QUEUED by the feeder first. -/
structure State.Erasing (s x : State) (l : List StageId) (again : StageId → Bool) : Prop where
  frame : s.ToldFrame x
  runOrder : x.stages.runOrder = s.stages.runOrder
  sums : s.stages.sumsExact → x.stages.sumsExact ∧ x.stages.cRun = s.stages.cRun ∧ x.stages.cPend = s.stages.cPend
  link : x.link = (s.deferred (l.filter fun st => (s.stage st).state == .queued || again st)).link
  fed : s.FedFrom x (s.erasePlan.after s l)
  again : ∀ st, again st = true → st ∈ l ∧ s.mode = .replay ∧ (s.stage st).state = .idle ∧
    ({ stage := st, outcome := .waiting } : RosterEntry) ∈ s.modes.roster
  counters : ∀ c : Counter, c ∉ [.noticesDropped, .congestionOnsets, .rosterDropped] → x.counter c = s.counter c

theorem State.Erasing.refl (s : State) : s.Erasing s [] fun _ => false :=
  ⟨rfl, rfl, fun h => ⟨h, rfl, rfl⟩, rfl, .refl s, fun _ h => absurd h (by simp), fun _ _ => rfl⟩

section
variable {s x : State} {l : List StageId} {again : StageId → Bool} {st : StageId}

/-- One more stage is told, and its record alone changes. -/
theorem State.Erasing.kept (e : s.Erasing x l again) (new : st ∉ l) (same : x.stage st = s.stage st)
    (unqueued : (s.stage st).state ≠ .queued) : s.Erasing (x.onStage st Stage.erasedBy) (l ++ [st]) again := by
  obtain ⟨order, sums⟩ := x.onStage_erasedBy_table st
  have unfed : again st = false := Bool.eq_false_of_not_eq_true fun h => new (e.again st h).1
  refine ⟨e.frame.trans rfl, order.trans e.runOrder, fun exact_ => ?_, ?_, ?_, fun st' h => ?_, e.counters⟩
  · obtain ⟨exactX, run, pend⟩ := e.sums exact_
    obtain ⟨run', pend'⟩ := sums exactX
    exact ⟨StageTable.put_sumsExact exactX st _, run'.trans run, pend'.trans pend⟩
  · have listed : (l ++ [st]).filter (fun st => (s.stage st).state == .queued || again st) =
        l.filter fun st => (s.stage st).state == .queued || again st := by
      rw [filter_concat, unfed, beq_eq_false_iff_ne.mpr unqueued]; simp
    rw [listed]; exact e.link
  · exact e.fed.onStage (by rw [StagePlan.after_self, same]; rfl) fun st' other => StagePlan.after_other _ _ _ other
  · obtain ⟨mem, rest⟩ := e.again st' h
    exact ⟨List.mem_append_left _ mem, rest⟩

/-- One more stage is told, its call entry leaving with a DEFER. -/
theorem State.Erasing.taken (e : s.Erasing x l again) (new : st ∉ l) (record : (x.stage st).erasedBy = (s.stage st).erasedBy)
    (waited : (s.stage st).state = .queued ∨ (s.mode = .replay ∧ (s.stage st).state = .idle ∧
      ({ stage := st, outcome := .waiting } : RosterEntry) ∈ s.modes.roster))
    (exact_ : x.stages.sumsExact → (((x.onStage st Stage.erasedBy).sendDefer st .noProfile).dropCall st).stages.sumsExact) :
    s.Erasing (((x.onStage st Stage.erasedBy).sendDefer st .noProfile).dropCall st) (l ++ [st])
      fun st' => again st' || (st' == st && (s.stage st).state == .idle) := by
  obtain ⟨order, sums⟩ := x.onStage_erasedBy_table st
  have unfed : again st = false := Bool.eq_false_of_not_eq_true fun h => new (e.again st h).1
  let z := (x.onStage st Stage.erasedBy).sendDefer st .noProfile
  have dropped := State.QueueOnly.dropCall st z
  have stages : z.stages = (x.onStage st Stage.erasedBy).stages := by simp [z]
  refine ⟨?_, ?_, fun exactS => ?_, ?_, ?_, fun st' h => ?_, fun c other => ?_⟩
  · have sent : (x.onStage st Stage.erasedBy).ToldFrame z := by
      simp only [z, State.sendDefer, State.place]
      split <;> exact rfl
    exact ((e.frame.trans (y := x) (z := x.onStage st Stage.erasedBy) rfl).trans sent).trans dropped.frame.told
  · rw [dropped.runOrder, stages]; exact order.trans e.runOrder
  · obtain ⟨exactX, run, pend⟩ := e.sums exactS
    obtain ⟨run', pend'⟩ := sums exactX
    refine ⟨exact_ exactX, ?_, ?_⟩
    · rw [dropped.cRun, stages]; exact run'.trans run
    · rw [dropped.cPend, stages]; exact pend'.trans pend
  · have listed : (l ++ [st]).filter (fun st' => (s.stage st').state == .queued || (again st' || (st' == st && (s.stage st).state == .idle)))
        = (l.filter fun st => (s.stage st).state == .queued || again st) ++ [st] := by
      have own : ((s.stage st).state == .queued || (again st || (st == st && (s.stage st).state == .idle))) = true := by
        rcases waited with h | ⟨-, h, -⟩ <;> simp [h]
      have same : ∀ st' ∈ l, ((s.stage st').state == .queued || (again st' || (st' == st && (s.stage st).state == .idle))) =
          ((s.stage st').state == .queued || again st') := fun st' mem => by
        have other : (st' == st) = false := beq_eq_false_iff_ne.mpr fun same => new (same ▸ mem)
        rw [other, Bool.false_and, Bool.or_false]
      rw [filter_concat, if_pos own, List.filter_congr same]
    have sent : (((x.onStage st Stage.erasedBy).sendDefer st .noProfile).dropCall st).link = (x.sendDefer st .noProfile).link :=
      (State.dropCall_frame st z).2.2.2.2.2.2.1.trans (State.place_link _ rfl)
    rw [listed, State.deferred, List.foldl_concat, sent]
    exact State.place_link _ e.link
  · have told := e.fed.onStage (f := Stage.erasedBy) (r' := s.erasePlan.after s (l ++ [st])) (by rw [StagePlan.after_self, record]; rfl)
      fun st' other => StagePlan.after_other _ _ _ other
    exact (told.like (.sendDefer st _ _)).dropCall st
  · rcases Bool.or_eq_true_iff.mp h with h | h
    · obtain ⟨mem, rest⟩ := e.again st' h
      exact ⟨List.mem_append_left _ mem, rest⟩
    · simp only [Bool.and_eq_true, beq_iff_eq] at h
      obtain ⟨rfl, idle⟩ := h
      obtain ⟨inReplay, -, roster⟩ := waited.resolve_left (by rw [idle]; simp)
      exact ⟨by simp, inReplay, idle, roster⟩
  · simp only [List.mem_cons, List.not_mem_nil, or_false, not_or] at other
    obtain ⟨notices, onsets, roster⟩ := other
    rw [dropped.counters c onsets roster]
    exact (State.place_counter_other _ _ notices).trans (e.counters c (by simp [notices, onsets, roster]))

/-- One more stage is told of an erased profile. -/
theorem State.Acted.tell (a : s.Acted s.erasePlan x l) (e : s.Erasing x l again) (new : st ∉ l)
    (erased : s.store.profile st = erasedProfile) :
    s.Acted s.erasePlan (x.profileChange st) (l ++ [st]) ∧ ∃ again', s.Erasing (x.profileChange st) (l ++ [st]) again' := by
  have stored : x.store.profile st = erasedProfile := by rw [a.store]; exact erased
  have exact_ : x.stages.sumsExact → (x.profileChange st).stages.sumsExact := (State.profileChange_moves st x).sumsExact
  have left := a.leftOrFed st
  rw [StagePlan.after, if_neg new] at left
  have nothing : ∀ c ∈ s.erasePlan.notices st, c.ofFeed = false := fun c mem => absurd mem (by simp [State.erasePlan])
  by_cases queued : (x.stage st).state = .queued
  · rw [State.profileChange_taken stored queued] at exact_ ⊢
    have acts : (x.stage st).erasedBy = (s.stage st).erasedBy → x.Acts
        (((x.onStage st Stage.erasedBy).sendDefer st .noProfile).dropCall st) st (s.erasePlan.record st) (s.erasePlan.notices st) true :=
      fun record => .dropped Stage.erasedBy _ record (.sendDefer st .noProfile _) (by simp) (.refl _) (by simp [State.erasePlan])
    rcases left with same | ⟨inReplay, -, idle, fed, -⟩
    · have was : (s.stage st).state = .queued := same ▸ queued
      have record : (x.stage st).erasedBy = (s.stage st).erasedBy := by rw [same]
      exact ⟨a.next new (acts record) nothing (fun _ => by simp [State.erasePlan, was]) fun _ => .inl (by simp [State.erasePlan, was]),
        _, e.taken new record (.inl was) exact_⟩
    · have record : (x.stage st).erasedBy = (s.stage st).erasedBy := by rw [fed]; exact Stage.erasedBy_fed idle
      have waited : ({ stage := st, outcome := .waiting } : RosterEntry) ∈ s.modes.roster := by
        refine (e.fed.stage st).resolve_left fun same => ?_
        rw [StagePlan.after, if_neg new] at same
        rw [same, idle] at queued
        cases queued
      exact ⟨a.next new (acts record) nothing (fun notReplay => absurd inReplay notReplay)
          fun _ => .inl (by simp [State.erasePlan, idle]),
        _, e.taken new record (.inr ⟨inReplay, idle, waited⟩) exact_⟩
  · have same : x.stage st = s.stage st := left.resolve_right fun ⟨_, _, _, fed, _⟩ => queued (by rw [fed])
    rw [State.profileChange_kept stored queued]
    have was : (s.stage st).state ≠ .queued := same ▸ queued
    exact ⟨a.next new (.changed Stage.erasedBy (by rw [same]; rfl) (.inl queued) (.refl _) (by simp [State.erasePlan])) nothing
        (fun _ => by simpa [State.erasePlan] using was) fun _ => .inr ⟨rfl, queued⟩, again, e.kept new same was⟩

end

/-- The stages of a list told one after another. -/
theorem State.profileChange_foldl {s : State} (erased : ∀ st, s.store.profile st = erasedProfile) (l : List StageId)
    (distinct : l.Nodup) :
    let x := l.foldl (fun s st => s.profileChange st) s
    s.Acted s.erasePlan x l ∧ ∃ again, s.Erasing x l again := by
  induction l using List.reverseRecOn with
  | nil => exact ⟨.refl _ s, _, .refl s⟩
  | append_singleton l st ih =>
    obtain ⟨new, distinct⟩ := List.nodup_cons.mp (List.perm_append_singleton st l |>.nodup_iff.mp distinct)
    obtain ⟨a, again, e⟩ := ih distinct
    rw [List.foldl_concat]
    exact a.tell e new (erased st)

end Sys2Proof.Machine
end

section
/-! Proofs/ErasedSettings.lean: the units told of erased group codes, and the owners of the settings told of the defaults (O44). -/

namespace Sys2Proof.Machine

/-! ### The group codes -/

theorem State.groupChanged_foldl {x : State} (erased : ∀ u, x.store.group u = 0) (l : List UnitId) :
    let y := l.foldl (fun s u => s.groupChanged u) x
    y = { x with supervisor := { x.supervisor with records := y.supervisor.records } } ∧
      ∀ u, y.unit u = if u ∈ l then { x.unit u with group := 0 } else x.unit u := by
  induction l using List.reverseRecOn with
  | nil => exact ⟨rfl, fun u => rfl⟩
  | append_singleton l v ih =>
    obtain ⟨frame, unit⟩ := ih
    rw [List.foldl_concat]
    generalize l.foldl (fun s u => s.groupChanged u) x = y at frame unit ⊢
    have store : y.store = x.store := by rw [frame]
    refine ⟨Eq.trans (b := { y with supervisor := { y.supervisor with records := (y.groupChanged v).supervisor.records } }) rfl
      (by rw [frame]), fun u => ?_⟩
    have told : (y.groupChanged v).unit u = if u = v then { y.unit v with group := y.store.group v } else y.unit u :=
      y.unit_onUnit v _ u
    have listed : u ∈ l ++ [v] ↔ u ∈ l ∨ u = v := by simp
    rw [told, store, erased, unit]
    by_cases own : u = v
    · subst own
      rw [if_pos rfl, if_pos (listed.mpr (.inr rfl))]
      split <;> rfl
    · rw [if_neg own, unit]
      exact if_congr (listed.trans (or_iff_left own)).symm rfl rfl

/-! ### The settings -/

/-- The settings whose owner acts at once (R170). -/
def Setting.actsAtOnce (x : Setting) : Bool :=
  [Setting.fallbackCeiling, .intervalLength, .minimumWidthCode, .maximumWidthCode, .errorThreshold, .curtailLineLevel,
    .congestionThreshold].contains x

theorem State.settingChanged_later {x : Setting} (later : x.actsAtOnce = false) (y : State) : y.settingChanged x = y := by
  cases x
  case fallbackCeiling | intervalLength | minimumWidthCode | maximumWidthCode | errorThreshold | curtailLineLevel
    | congestionThreshold => cases later
  all_goals rfl

/-- The owner of a setting told of it where it changed (R170, R172). -/
def State.told (y : State) (x : Setting) (changed : Bool) : State := if changed then y.settingChanged x else y

theorem State.settingChanged_foldl (y : State) (changed : Setting → Bool) :
    (Setting.all.filter changed).foldl (fun s x => s.settingChanged x) y =
      ((((((y.told .fallbackCeiling (changed .fallbackCeiling)).told .intervalLength (changed .intervalLength)).told
        .minimumWidthCode (changed .minimumWidthCode)).told .maximumWidthCode (changed .maximumWidthCode)).told
        .errorThreshold (changed .errorThreshold)).told .curtailLineLevel (changed .curtailLineLevel)).told
        .congestionThreshold (changed .congestionThreshold) := by
  have skipped : (fun (s : State) x => s.told x (changed x)) = fun s x => if x.actsAtOnce then s.told x (changed x) else s := by
    funext s x
    by_cases acts : x.actsAtOnce = true
    · rw [if_pos acts]
    · rw [if_neg acts, State.told, State.settingChanged_later (Bool.eq_false_of_not_eq_true acts), ite_self]
  have first : Setting.all.filter Setting.actsAtOnce = [.fallbackCeiling, .intervalLength, .minimumWidthCode, .maximumWidthCode,
    .errorThreshold, .curtailLineLevel, .congestionThreshold] := rfl
  calc (Setting.all.filter changed).foldl (fun s x => s.settingChanged x) y
      = Setting.all.foldl (fun s x => s.told x (changed x)) y := List.foldl_filter ..
    _ = (Setting.all.filter Setting.actsAtOnce).foldl (fun s x => s.told x (changed x)) y := by
      rw [congrArg (fun f => Setting.all.foldl f y) skipped]
      exact List.foldl_filter.symm
    _ = _ := by rw [first]; rfl

/-- A valid pulse found stuck: its weight, its report and the estimate (R35, R39, R40). -/
theorem State.stuckPulse_eq (x : State) (weight : Nat) (silence : Millis) :
    ((x.onAccount fun a =>
      { a with metering := .metered, energy := satAdd max32 a.energy weight, windowEnergy := satAdd max32 a.windowEnergy weight,
               silence := silence }).bump .validPulses).stuckReport = { x with
      account := { x.account with
        metering := .estimated .stuck, stuckStanding := true, windowMetered := false
        energy := satAdd max32 x.account.energy weight
        windowEnergy := satAdd max32 x.account.windowEnergy weight
        silence := silence }
      counters := ((x.bump .validPulses).bump .estimateEntries).counters } := rfl

theorem State.pulseStuck_eq (y : State) : y.pulseStuck = { y with
    lines := { y.lines with pulse := { y.lines.pulse with state := .stuck } }
    account := { y.account with
      metering := .estimated .stuck, stuckStanding := true, windowMetered := false
      energy := satAdd max32 y.account.energy (y.setting .pulseWeight * 36)
      windowEnergy := satAdd max32 y.account.windowEnergy (y.setting .pulseWeight * 36)
      silence := y.settingTime .silenceTimeout }
    counters := (((y.bump .stuckReports).bump .validPulses).bump .estimateEntries).counters } :=
  State.stuckPulse_eq ((y.onLines fun l => { l with pulse := { l.pulse with state := .stuck } }).bump .stuckReports) _ _

section
variable {y : State} (defaults : ∀ x, y.setting x = x.default) (b : Bool)
include defaults

theorem State.told_fallbackCeiling : y.told .fallbackCeiling b = { y with account := { y.account with
    ceiling := if b = true ∧ y.account.supervision = .standalone then 2000 else y.account.ceiling } } := by
  cases b with
  | false => rfl
  | true =>
    by_cases alone : y.account.supervision = .standalone
    · have told : y.told .fallbackCeiling true = y.onAccount fun a => { a with ceiling := y.setting .fallbackCeiling } := if_pos alone
      rw [told, defaults, if_pos ⟨rfl, alone⟩]; rfl
    · rw [if_neg fun h => alone h.2]
      exact if_neg alone

theorem State.told_intervalLength : y.told .intervalLength b = { y with account := { y.account with
    pendingLength := if b = true then (if y.account.intervalLength = 900 then none else some 900) else y.account.pendingLength } } := by
  cases b with
  | false => rfl
  | true =>
    have length : (if (900 : Nat) = y.account.intervalLength then none else some 900) =
      if y.account.intervalLength = 900 then none else some 900 := if_congr eq_comm rfl rfl
    have told : y.told .intervalLength true = { y with account := { y.account with pendingLength :=
      if (y.setting .intervalLength) = y.account.intervalLength then none else some (y.setting .intervalLength) } } := rfl
    rw [told, defaults]
    exact congrArg (fun p => { y with account := { y.account with pendingLength := p } }) length

theorem State.told_minimumWidthCode : y.told .minimumWidthCode b = { y with lines := { y.lines with pulse := { y.lines.pulse with
    state := if b = true ∧ y.lines.pulse.state = .timing ∧ 20 ≤ y.lines.pulse.width then .valid else y.lines.pulse.state } } } := by
  have width : minimumWidth (y.setting .minimumWidthCode) = 20 := by rw [defaults]; rfl
  cases b with
  | false => rfl
  | true =>
    have told : y.told .minimumWidthCode true =
        if y.lines.pulse.state = .timing ∧ minimumWidth (y.setting .minimumWidthCode) ≤ y.lines.pulse.width then
          y.onLines fun l => { l with pulse := { l.pulse with state := .valid } }
        else y := rfl
    rw [told, width]
    by_cases ended : y.lines.pulse.state = .timing ∧ 20 ≤ y.lines.pulse.width
    · rw [if_pos ended, if_pos ⟨rfl, ended⟩]; rfl
    · rw [if_neg ended, if_neg fun h => ended h.2]

/-- A closure that the new width ends is a valid pulse and stuck (R56, R40). -/
theorem State.told_maximumWidthCode :
    let stuck := b = true ∧ y.lines.pulse.state = .valid ∧ 1000 ≤ y.lines.pulse.width
    y.told .maximumWidthCode b = { y with
      lines := { y.lines with pulse := { y.lines.pulse with state := if stuck then .stuck else y.lines.pulse.state } }
      account := { y.account with
        metering := if stuck then .estimated .stuck else y.account.metering
        stuckStanding := if stuck then true else y.account.stuckStanding
        windowMetered := if stuck then false else y.account.windowMetered
        energy := if stuck then min 4294967295 (y.account.energy + 360) else y.account.energy
        windowEnergy := if stuck then min 4294967295 (y.account.windowEnergy + 360) else y.account.windowEnergy
        silence := if stuck then 120000 else y.account.silence }
      counters := (y.told .maximumWidthCode b).counters } := by
  intro stuck
  have width : maximumWidth (y.setting .maximumWidthCode) = 1000 := by rw [defaults]; rfl
  have told : y.told .maximumWidthCode b = if stuck then y.pulseStuck else y := by
    cases b with
    | false => exact (if_neg fun h : stuck => absurd h.1 (by simp)).symm
    | true =>
      have told : y.told .maximumWidthCode true =
        if y.lines.pulse.state = .valid ∧ maximumWidth (y.setting .maximumWidthCode) ≤ y.lines.pulse.width then y.pulseStuck
        else y := rfl
      rw [told, width]
      exact if_congr (by simp [stuck]) rfl rfl
  by_cases is : stuck
  · have weight : y.setting .pulseWeight = 10 := defaults _
    have silence : y.settingTime .silenceTimeout = 120000 := by rw [State.settingTime, defaults]; rfl
    have eq := y.pulseStuck_eq
    have weighed : ∀ n, satAdd max32 n (10 * 36) = min 4294967295 (n + 360) := fun _ => rfl
    rw [weight, silence, weighed, weighed] at eq
    simp only [told, if_pos is]
    rw [eq]
  · simp only [told, if_neg is]

theorem State.told_errorThreshold : y.told .errorThreshold b = { y with supervisor := { y.supervisor with
    records := if b = true then mapTable (UnitRec.newThreshold 4) y.supervisor.records else y.supervisor.records } } := by
  cases b with
  | false => rfl
  | true =>
    have told : y.told .errorThreshold true = y.onSupervisor fun d => { d with
      records := mapTable (UnitRec.newThreshold (y.setting .errorThreshold)) d.records } := rfl
    rw [told, defaults]; rfl

theorem State.told_curtailLineLevel :
    let level := if y.lines.curtail.qualified = 0 then 0 else if y.lines.curtail.qualified = 3 then 3 else 2
    let moved := b = true ∧ level ≠ y.lines.curtail.delivered
    y.told .curtailLineLevel b = { y with
      lines := { y.lines with curtail := { y.lines.curtail with delivered := if moved then level else y.lines.curtail.delivered } }
      shed := { y.shed with
        lineLevel := if moved then level else y.shed.lineLevel
        lambda := if moved then max level y.shed.gatewayLevel else y.shed.lambda }
      counters := (y.told .curtailLineLevel b).counters } := by
  intro level moved
  have reads : y.lineLevelOf y.lines.curtail.qualified = level := by
    have two : y.setting .curtailLineLevel = 2 := defaults _
    rw [State.lineLevelOf_eq, two]
    simp only [level]
    generalize y.lines.curtail.qualified = code
    fin_cases code <;> rfl
  by_cases is : moved
  · have told : y.told .curtailLineLevel b = y.deliverCurtail := if_pos is.1
    simp only [if_pos is]
    rw [told, State.deliverCurtail_new reads is.2]
  · have told : y.told .curtailLineLevel b = y := by
      cases b with
      | false => rfl
      | true => exact State.deliverCurtail_same (reads.trans (Classical.not_not.mp fun h => is ⟨rfl, h⟩))
    simp only [if_neg is]
    rw [told]

theorem State.told_congestionThreshold : y.told .congestionThreshold b = { y with
    calls := { y.calls with congested := if b = true then decide (24 ≤ y.calls.entries.length) else y.calls.congested }
    counters := (y.told .congestionThreshold b).counters } := by
  cases b with
  | false => rfl
  | true =>
    have told : y.told .congestionThreshold true = y.formCongestion := rfl
    have threshold : y.setting .congestionThreshold = 24 := defaults _
    rw [if_pos rfl, told, State.formCongestion, threshold]
    split <;> rfl

end

theorem State.told_store (y : State) (x : Setting) (b : Bool) : (y.told x b).store = y.store := by
  unfold State.told
  split
  · simp
  · rfl

theorem State.told_counter (y : State) (x : Setting) (b : Bool) {c : Counter}
    (other : c ∉ [.validPulses, .stuckReports, .estimateEntries, .lineCurtailChanges, .curtailChanges, .congestionOnsets]) :
    (y.told x b).counter c = y.counter c := by
  simp only [List.mem_cons, List.not_mem_nil, or_false, not_or] at other
  obtain ⟨pulses, stuck, estimates, line, curtail, onsets⟩ := other
  cases b
  · rfl
  show (y.settingChanged x).counter c = y.counter c
  cases later : x.actsAtOnce
  · rw [State.settingChanged_later later]
  cases x
  case fallbackCeiling => simp only [State.settingChanged]; split <;> rfl
  case intervalLength | errorThreshold => rfl
  case minimumWidthCode => simp only [State.settingChanged]; split <;> rfl
  case maximumWidthCode =>
    simp only [State.settingChanged]
    split
    · have counters : y.pulseStuck.counter c = (((y.bump .stuckReports).bump .validPulses).bump .estimateEntries).counter c := by
        rw [State.counter, State.pulseStuck_eq]; rfl
      rw [counters, State.bump_counter_other _ _ _ (Ne.symm estimates), State.bump_counter_other _ _ _ (Ne.symm pulses),
        State.bump_counter_other _ _ _ (Ne.symm stuck)]
    · rfl
  case curtailLineLevel =>
    show y.deliverCurtail.counter c = y.counter c
    by_cases same : y.lineLevelOf y.lines.curtail.qualified = y.lines.curtail.delivered
    · rw [State.deliverCurtail_same same]
    · rw [State.counter, State.deliverCurtail_new rfl same]
      show (if _ then (y.bump .lineCurtailChanges).counters else ((y.bump .lineCurtailChanges).bump .curtailChanges).counters)[c.index] = _
      split
      · exact State.bump_counter_other _ _ _ (Ne.symm line)
      · exact (State.bump_counter_other _ _ _ (Ne.symm curtail)).trans (State.bump_counter_other _ _ _ (Ne.symm line))
  case congestionThreshold =>
    show y.formCongestion.counter c = y.counter c
    unfold State.formCongestion
    simp only
    split
    · exact State.bump_counter_other _ _ _ (Ne.symm onsets)
    · rfl
  all_goals cases later

/-- What the owners make of the defaults (R172): each field by the setting it follows. -/
theorem State.settings_told {y : State} (defaults : ∀ x, y.setting x = x.default) (changed : Setting → Bool) :
    let z := (Setting.all.filter changed).foldl (fun s x => s.settingChanged x) y
    let pulse : PulseState :=
      if changed .minimumWidthCode = true ∧ y.lines.pulse.state = .timing ∧ 20 ≤ y.lines.pulse.width then .valid
      else y.lines.pulse.state
    let stuck := changed .maximumWidthCode = true ∧ pulse = .valid ∧ 1000 ≤ y.lines.pulse.width
    let level := if y.lines.curtail.qualified = 0 then 0 else if y.lines.curtail.qualified = 3 then 3 else 2
    let moved := changed .curtailLineLevel = true ∧ level ≠ y.lines.curtail.delivered
    z = { y with
      account := { y.account with
        ceiling := if changed .fallbackCeiling = true ∧ y.account.supervision = .standalone then 2000 else y.account.ceiling
        pendingLength := if changed .intervalLength = true then (if y.account.intervalLength = 900 then none else some 900)
          else y.account.pendingLength
        metering := if stuck then .estimated .stuck else y.account.metering
        stuckStanding := if stuck then true else y.account.stuckStanding
        windowMetered := if stuck then false else y.account.windowMetered
        energy := if stuck then min 4294967295 (y.account.energy + 360) else y.account.energy
        windowEnergy := if stuck then min 4294967295 (y.account.windowEnergy + 360) else y.account.windowEnergy
        silence := if stuck then 120000 else y.account.silence }
      lines := { y.lines with
        pulse := { y.lines.pulse with state := if stuck then .stuck else pulse }
        curtail := { y.lines.curtail with delivered := if moved then level else y.lines.curtail.delivered } }
      shed := { y.shed with
        lineLevel := if moved then level else y.shed.lineLevel
        lambda := if moved then max level y.shed.gatewayLevel else y.shed.lambda }
      supervisor := { y.supervisor with
        records := if changed .errorThreshold = true then mapTable (UnitRec.newThreshold 4) y.supervisor.records
          else y.supervisor.records }
      calls := { y.calls with
        congested := if changed .congestionThreshold = true then decide (24 ≤ y.calls.entries.length) else y.calls.congested }
      counters := z.counters } := by
  intro z pulse stuck level moved
  have kept : ∀ {w : State} {x : Setting} {b : Bool}, (∀ x, w.setting x = x.default) → ∀ x', (w.told x b).setting x' = x'.default :=
    fun {w x b} h x' => by rw [State.setting, w.told_store]; exact h x'
  have all : z = _ := State.settingChanged_foldl y changed
  obtain ⟨y1, told1⟩ : ∃ w, w = y.told .fallbackCeiling (changed .fallbackCeiling) := ⟨_, rfl⟩
  obtain ⟨y2, told2⟩ : ∃ w, w = y1.told .intervalLength (changed .intervalLength) := ⟨_, rfl⟩
  obtain ⟨y3, told3⟩ : ∃ w, w = y2.told .minimumWidthCode (changed .minimumWidthCode) := ⟨_, rfl⟩
  obtain ⟨y4, told4⟩ : ∃ w, w = y3.told .maximumWidthCode (changed .maximumWidthCode) := ⟨_, rfl⟩
  obtain ⟨y5, told5⟩ : ∃ w, w = y4.told .errorThreshold (changed .errorThreshold) := ⟨_, rfl⟩
  obtain ⟨y6, told6⟩ : ∃ w, w = y5.told .curtailLineLevel (changed .curtailLineLevel) := ⟨_, rfl⟩
  rw [← told1, ← told2, ← told3, ← told4, ← told5, ← told6] at all
  have defaults1 : ∀ x, y1.setting x = x.default := told1 ▸ kept defaults
  have defaults2 : ∀ x, y2.setting x = x.default := told2 ▸ kept defaults1
  have defaults3 : ∀ x, y3.setting x = x.default := told3 ▸ kept defaults2
  have defaults4 : ∀ x, y4.setting x = x.default := told4 ▸ kept defaults3
  have defaults5 : ∀ x, y5.setting x = x.default := told5 ▸ kept defaults4
  have defaults6 : ∀ x, y6.setting x = x.default := told6 ▸ kept defaults5
  have eq1 := told1.trans (State.told_fallbackCeiling defaults _)
  have eq2 := told2.trans (State.told_intervalLength defaults1 _)
  have eq3 := told3.trans (State.told_minimumWidthCode defaults2 _)
  have eq4 := told4.trans (State.told_maximumWidthCode defaults3 _)
  have eq5 := told5.trans (State.told_errorThreshold defaults4 _)
  have eq6 := told6.trans (State.told_curtailLineLevel defaults5 _)
  have eq7 := all.trans (State.told_congestionThreshold defaults6 _)
  rw [← told4] at eq4
  rw [← told6] at eq6
  rw [← all] at eq7
  rw [eq6, eq5, eq4, eq3, eq2, eq1] at eq7
  exact eq7

end Sys2Proof.Machine
end

section
/-! Proofs/EraseCompletions.lean: the completion of an erase, all the owners told (O44). -/

namespace Sys2Proof.Machine

/-- The state with its contents erased, before the owners are told (R172). -/
def State.erasedContents (s : State) : State := (s.onStore fun d => d.erase.complete).bump .erasesCompleted

theorem Store.erase_group (store : Store) (u : UnitId) : store.erase.complete.group u = 0 := by
  simp [Store.complete, Store.erase, Store.group]

theorem Store.erase_digest (store : Store) : store.erase.complete.digest = 61252 :=
  Eq.trans rfl erasedStore_digest

section
variable (s : State)

theorem State.erasedContents_profile (st : StageId) : s.erasedContents.store.profile st = erasedProfile :=
  (s.store.erase.complete_profile st).trans (s.store.erase_profile st)

theorem State.erasedContents_group (u : UnitId) : s.erasedContents.store.group u = 0 := s.store.erase_group u

theorem State.erasedContents_setting (x : Setting) : s.erasedContents.setting x = x.default :=
  (s.store.erase.complete_setting x).trans (s.store.erase_setting x)

/-- The stages told: those whose profile was not the erased one. -/
def State.toldStages : List StageId := allStages.filter fun st => s.store.profile st != erasedProfile

/-- The state with the stages told. -/
def State.stagesErased : State := s.toldStages.foldl (fun s st => s.profileChange st) s.erasedContents

/-- The state with the stages and the units told. -/
def State.groupsErased : State := (units.filter fun u => s.store.group u != 0).foldl (fun s u => s.groupChanged u) s.stagesErased

/-- The state with all the owners told. -/
def State.ownersTold : State :=
  (Setting.all.filter fun x => s.setting x != x.default).foldl (fun s x => s.settingChanged x) s.groupsErased

theorem State.notifyChanges_erased : s.erasedContents.notifyChanges s.store = s.ownersTold := by
  have profiles : (allStages.filter fun st => s.erasedContents.store.profile st != s.store.profile st) = s.toldStages :=
    List.filter_congr fun st _ => by rw [s.erasedContents_profile, bne_comm]
  have groups : (units.filter fun u => s.erasedContents.store.group u != s.store.group u) =
      units.filter fun u => s.store.group u != 0 :=
    List.filter_congr fun u _ => by rw [s.erasedContents_group, bne_comm]
  have settings : (Setting.all.filter fun x => s.erasedContents.store.setting x != s.store.setting x) =
      Setting.all.filter fun x => s.setting x != x.default :=
    List.filter_congr fun x _ => by
      rw [show s.erasedContents.store.setting x = x.default from s.erasedContents_setting x, bne_comm]; rfl
  simp only [State.notifyChanges]
  rw [profiles, groups, settings]; rfl

end

theorem State.Drained.sendDefer (st : StageId) (reason : DeferReason) (s : State) : s.Drained (s.sendDefer st reason) := by
  simp only [State.sendDefer, State.place]
  split
  · exact .enqueue _ s
  · exact .bump (by simp) s

theorem State.Drained.dropCall (st : StageId) (s : State) : s.Drained (s.dropCall st) := by
  rcases s.dropCall_cases st with ⟨-, eq⟩ | ⟨e, -, -, eq⟩ | ⟨e, -, -, -, eq⟩ <;> rw [eq]
  · exact .refl s
  · exact .removeCall st s
  · exact ((State.Drained.removeCall st s).trans (.markRemoved st false _)).trans (.feed _)

theorem State.Drained.profileChange (st : StageId) (s : State) : s.Drained (s.profileChange st) := by
  have told : ∀ f : Stage → Stage, s.Drained (s.onStage st f) := fun f => .onStage st f s
  simp only [State.profileChange]
  split
  · exact told _
  · exact told _
  · split
    · exact ((told _).trans (.sendDefer st .noProfile _)).trans (.dropCall st _)
    · exact told _
  all_goals exact told _

/-- The report of the completion to the mode controller, with the settings at their defaults (R143). -/
theorem State.endHalt_eq {y : State} (defaults : ∀ x, y.setting x = x.default) : y.endHalt = { y with
    modes := if y.mode = .halted then { y.modes with mode := .startup, timer := 15000, fallback := true } else y.modes } := by
  unfold State.endHalt
  by_cases halted : y.mode = .halted
  · have join : y.store.joinTime = 15000 := by
      rw [Store.joinTime, show y.store.setting .beaconPeriod = 5 from defaults _]; rfl
    rw [if_pos halted, if_pos halted, join]; rfl
  · rw [if_neg halted, if_neg halted]

/-- Two states whose blocks agree are one. -/
theorem State.eq_of_fields {a b : State} (supplied : a.supplied = b.supplied) (pins : a.pins = b.pins) (stages : a.stages = b.stages)
    (calls : a.calls = b.calls) (arbiter : a.arbiter = b.arbiter) (account : a.account = b.account) (shed : a.shed = b.shed)
    (supervisor : a.supervisor = b.supervisor) (lines : a.lines = b.lines) (modes : a.modes = b.modes) (link : a.link = b.link)
    (store : a.store = b.store) (counters : a.counters = b.counters) (causes : a.causes = b.causes) (drawn : a.drawn = b.drawn)
    (pending : a.pending = b.pending) : a = b := by
  cases a
  cases b
  simp only [State.mk.injEq]
  exact ⟨supplied, pins, stages, calls, arbiter, account, shed, supervisor, lines, modes, link, store, counters, causes, drawn, pending⟩

section
variable (s : State)

theorem State.stagesErased_acted : s.erasedContents.Acted s.erasedContents.erasePlan s.stagesErased s.toldStages ∧
    ∃ again, s.erasedContents.Erasing s.stagesErased s.toldStages again :=
  State.profileChange_foldl s.erasedContents_profile _ (allStages_nodup.filter _)

theorem State.stagesErased_drained : s.erasedContents.Drained s.stagesErased := by
  unfold State.stagesErased
  generalize s.toldStages = l
  induction l using List.reverseRecOn with
  | nil => exact .refl _
  | append_singleton l st ih => rw [List.foldl_concat]; exact ih.trans (.profileChange st _)

theorem State.stagesErased_halted : s.stagesErased.mode = .halted ↔ s.mode = .halted := by
  have drained := s.stagesErased_drained
  have mode : s.erasedContents.mode = s.mode := rfl
  by_cases inReplay : s.mode = .replay
  · refine iff_of_false (fun halted => ?_) (by rw [inReplay]; simp)
    rcases drained.replay inReplay with h | ⟨h, -⟩ <;> (rw [h] at halted; cases halted)
  · have same := drained.modes (by rw [mode]; exact inReplay)
    rw [State.mode, same]; rfl

theorem State.stagesErased_store : s.stagesErased.store = s.erasedContents.store := s.stagesErased_acted.1.store

theorem State.groupsErased_eq : s.groupsErased = { s.stagesErased with
      supervisor := { s.stagesErased.supervisor with records := s.groupsErased.supervisor.records } } ∧
    ∀ u, s.groupsErased.unit u = { s.stagesErased.unit u with group := if s.store.group u = 0 then (s.stagesErased.unit u).group else 0 } := by
  have erased : ∀ u, s.stagesErased.store.group u = 0 := fun u => by rw [s.stagesErased_store]; exact s.erasedContents_group u
  obtain ⟨frame, unit⟩ := State.groupChanged_foldl erased (units.filter fun u => s.store.group u != 0)
  refine ⟨frame, fun u => (unit u).trans ?_⟩
  by_cases none : s.store.group u = 0
  · rw [if_neg (by simp [none]), if_pos none]
  · have listed : u ∈ units.filter fun u => s.store.group u != 0 := List.mem_filter.mpr ⟨mem_units u, bne_iff_ne.mpr none⟩
    rw [if_pos listed, if_neg none]

/-- The state in which all the owners have been told and a halt has ended (R172). -/
def State.eraseEnded : State := s.ownersTold.endHalt

/-- What an erase leaves, block by block; the stages, the queue, the roster and the notices are as the stages told left them. -/
theorem State.eraseEnded_eq :
    let p := s.eraseEnded
    let x := s.stagesErased
    let changed := fun x : Setting => s.setting x ≠ x.default
    let pulse : PulseState :=
      if changed .minimumWidthCode ∧ s.lines.pulse.state = .timing ∧ 20 ≤ s.lines.pulse.width then .valid
      else s.lines.pulse.state
    let stuck := changed .maximumWidthCode ∧ pulse = .valid ∧ 1000 ≤ s.lines.pulse.width
    let level := if s.lines.curtail.qualified = 0 then 0 else if s.lines.curtail.qualified = 3 then 3 else 2
    let moved := changed .curtailLineLevel ∧ level ≠ s.lines.curtail.delivered
    p = { x with
      account := { s.account with
        ceiling := if changed .fallbackCeiling ∧ s.account.supervision = .standalone then 2000 else s.account.ceiling
        pendingLength := if changed .intervalLength then (if s.account.intervalLength = 900 then none else some 900)
          else s.account.pendingLength
        metering := if stuck then .estimated .stuck else s.account.metering
        stuckStanding := if stuck then true else s.account.stuckStanding
        windowMetered := if stuck then false else s.account.windowMetered
        energy := if stuck then min 4294967295 (s.account.energy + 360) else s.account.energy
        windowEnergy := if stuck then min 4294967295 (s.account.windowEnergy + 360) else s.account.windowEnergy
        silence := if stuck then 120000 else s.account.silence }
      lines := { s.lines with
        pulse := { s.lines.pulse with state := if stuck then .stuck else pulse }
        curtail := { s.lines.curtail with delivered := if moved then level else s.lines.curtail.delivered } }
      shed := { s.shed with
        lineLevel := if moved then level else s.shed.lineLevel
        lambda := if moved then max level s.shed.gatewayLevel else s.shed.lambda }
      supervisor := { s.supervisor with records := p.supervisor.records }
      calls := { x.calls with
        congested := if changed .congestionThreshold then decide (24 ≤ x.calls.entries.length) else x.calls.congested }
      modes := if s.mode = .halted then { s.modes with mode := .startup, timer := 15000, fallback := true } else x.modes
      counters := p.counters } ∧
    p.supervisor.records = if changed .errorThreshold then mapTable (UnitRec.newThreshold 4) s.groupsErased.supervisor.records
      else s.groupsErased.supervisor.records := by
  intro p x changed pulse stuck level moved
  have isChanged : ∀ x : Setting, ((s.setting x != x.default) = true) = changed x := fun x => propext bne_iff_ne
  obtain ⟨again, e⟩ := s.stagesErased_acted.2
  obtain ⟨groups, -⟩ := s.groupsErased_eq
  have store : s.groupsErased.store = s.erasedContents.store := by rw [groups]; exact s.stagesErased_store
  have defaults : ∀ x, s.groupsErased.setting x = x.default := fun x => by
    rw [State.setting, store]; exact s.erasedContents_setting x
  have told : s.ownersTold = _ := State.settings_told defaults fun x => s.setting x != x.default
  simp only [isChanged] at told
  have toldStore : s.ownersTold.store = s.groupsErased.store := (congrArg State.store told).trans rfl
  have ended : p = _ := State.endHalt_eq (y := s.ownersTold) fun x => by rw [State.setting, toldStore]; exact defaults x
  have account : s.groupsErased.account = s.account := by rw [groups, e.frame]; rfl
  have lines : s.groupsErased.lines = s.lines := by rw [groups, e.frame]; rfl
  have shed : s.groupsErased.shed = s.shed := by rw [groups, e.frame]; rfl
  have attention : s.groupsErased.supervisor.attention = s.supervisor.attention := by rw [groups, e.frame]; rfl
  have calls : s.groupsErased.calls = x.calls := by rw [groups]
  have modes : s.ownersTold.modes = x.modes :=
    (congrArg State.modes told).trans (show s.groupsErased.modes = x.modes by rw [groups])
  rw [account, lines, shed, calls] at told
  have passed : ∀ {α : Type} (block : State → α), block p = block s.ownersTold → block s.ownersTold = block s.groupsErased →
    block s.groupsErased = block x → block p = block x := fun _ ended told groups => ended.trans (told.trans groups)
  refine ⟨?_, (show p.supervisor.records = s.ownersTold.supervisor.records by rw [ended]).trans
    (congrArg (·.supervisor.records) told :)⟩
  refine State.eq_of_fields ?_ ?_ ?_ ?_ ?_ ?_ ?_ ?_ ?_ ?_ ?_ ?_ rfl ?_ ?_ ?_
  · exact passed State.supplied (by rw [ended]) (by rw [told]) (by rw [groups])
  · exact passed State.pins (by rw [ended]) (by rw [told]) (by rw [groups])
  · exact passed State.stages (by rw [ended]) (by rw [told]) (by rw [groups])
  · exact (show p.calls = s.ownersTold.calls by rw [ended]).trans (congrArg State.calls told :)
  · exact passed State.arbiter (by rw [ended]) (by rw [told]) (by rw [groups])
  · exact (show p.account = s.ownersTold.account by rw [ended]).trans (congrArg State.account told :)
  · exact (show p.shed = s.ownersTold.shed by rw [ended]).trans (congrArg State.shed told :)
  · have same : p.supervisor.attention = s.supervisor.attention := by
      rw [ended]
      exact (show s.ownersTold.supervisor.attention = s.groupsErased.supervisor.attention by rw [told]).trans attention
    exact congrArg (fun b => ({ records := p.supervisor.records, attention := b } : Supervisor)) same
  · exact (show p.lines = s.ownersTold.lines by rw [ended]).trans (congrArg State.lines told :)
  · refine (congrArg State.modes ended :).trans ?_
    by_cases halted : s.mode = .halted
    · have same : x.modes = s.modes := s.stagesErased_drained.modes (by
        rw [show s.erasedContents.mode = s.mode from rfl, halted]; simp)
      have still : s.ownersTold.mode = .halted := by rw [State.mode, modes, same]; exact halted
      refine (if_pos still).trans ?_
      rw [modes, same]
      exact (if_pos halted).symm
    · have still : s.ownersTold.mode ≠ .halted := fun h => halted (s.stagesErased_halted.mp (by rw [State.mode, ← modes]; exact h))
      exact ((if_neg still).trans modes).trans (if_neg halted).symm
  · exact passed State.link (by rw [ended]) (by rw [told]) (by rw [groups])
  · exact passed State.store (by rw [ended]) (by rw [told]) (by rw [groups])
  · exact passed State.causes (by rw [ended]) (by rw [told]) (by rw [groups])
  · exact passed State.drawn (by rw [ended]) (by rw [told]) (by rw [groups])
  · exact passed State.pending (by rw [ended]) (by rw [told]) (by rw [groups])

/-- The owners of settings count their own events alone. -/
theorem State.eraseEnded_counter {c : Counter}
    (other : c ∉ [.validPulses, .stuckReports, .estimateEntries, .lineCurtailChanges, .curtailChanges, .congestionOnsets]) :
    s.eraseEnded.counter c = s.stagesErased.counter c := by
  have ended : s.eraseEnded.counter c = s.ownersTold.counter c := by
    rw [State.eraseEnded]
    unfold State.endHalt
    split
    · simp [State.counter]
    · rfl
  have told : ∀ (l : List Setting) (y : State), (l.foldl (fun s x => s.settingChanged x) y).counter c = y.counter c := by
    intro l
    induction l with
    | nil => intro y; rfl
    | cons x l ih => intro y; exact (ih _).trans (y.told_counter x true other)
  have groups : s.groupsErased.counter c = s.stagesErased.counter c := by
    rw [State.counter, s.groupsErased_eq.1]; rfl
  exact (ended.trans (told _ _)).trans groups

theorem State.eraseEnded_unit (u : UnitId) : s.eraseEnded.unit u =
    { s.unit u with
      group := if s.store.group u = 0 then (s.unit u).group else 0
      errors :=
        if s.setting .errorThreshold ≠ Setting.errorThreshold.default then
          match (s.unit u).presence with
          | .present => if 4 ≤ (s.unit u).errors then 3 else (s.unit u).errors
          | .absent => 4
          | .unknown | .awaiting => (s.unit u).errors
        else (s.unit u).errors } := by
  obtain ⟨again, e⟩ := s.stagesErased_acted.2
  have was : s.stagesErased.unit u = s.unit u := by
    rw [State.unit, e.frame]; rfl
  have group := s.groupsErased_eq.2 u
  rw [was] at group
  have records := s.eraseEnded_eq.2
  by_cases changed : s.setting .errorThreshold ≠ Setting.errorThreshold.default
  · rw [if_pos changed] at records
    have unit : s.eraseEnded.unit u = (s.groupsErased.unit u).newThreshold 4 := by
      rw [State.unit, records]
      exact mapTable_get _ _ u.val u.isLt
    rw [unit, group, if_pos changed, UnitRec.newThreshold_eq]
    generalize s.unit u = r
    obtain ⟨presence, phase, window, period, errors, trip, further, anomaly, code⟩ := r
    cases presence <;> rfl
  · rw [if_neg changed] at records
    have unit : s.eraseEnded.unit u = s.groupsErased.unit u := by rw [State.unit, records]; rfl
    rw [unit, group, if_neg changed]

end

end Sys2Proof.Machine
end

section
/-! Proofs/Erases.lean: what the completion of an erase leaves (O44). -/

namespace Sys2Proof.Machine

/-- Which stages `out` names matters only for those in the queue, and for FED ones. -/
theorem State.replayRemoved_out {s p : State} {out out' : StageId → Bool}
    (entries : ∀ e ∈ s.calls.entries, out e.stage = out' e.stage)
    (fed : ∀ e ∈ s.modes.roster, e.outcome = .fed → out e.stage = out' e.stage) (h : s.replayRemoved p out) :
    s.replayRemoved p out' := by
  have removed : (s.calls.entries.filter fun e => out e.stage) = s.calls.entries.filter fun e => out' e.stage :=
    List.filter_congr entries
  simp only [State.replayRemoved] at h ⊢
  rw [removed] at h
  obtain ⟨mode, gone, left, origin, congested, arbiter, roster, dropped⟩ := h
  refine ⟨mode, gone, fun e he out => left e he ((entries e he).trans out), fun x hx => ?_, congested, arbiter, fun inReplay => ?_,
    dropped⟩
  · exact (origin x hx).imp_left fun ⟨e, he, out, eq⟩ => ⟨e, he, (entries e he).symm.trans out, eq⟩
  · obtain ⟨stages, kept, count⟩ := roster inReplay
    refine ⟨stages, fun e he => (kept e he).imp_right (Or.imp_left fun ⟨is, out⟩ => ⟨is, (fed e he is).symm.trans out⟩), count⟩

/-- What follows leaves the queue, the roster and the marker, and forms the congestion flag where it was formed. -/
theorem State.replayRemoved_after {s x p : State} {out : StageId → Bool} (entries : p.calls.entries = x.calls.entries)
    (congested : x.calls.congested = decide (x.setting .congestionThreshold ≤ x.calls.entries.length) →
      p.calls.congested = decide (p.setting .congestionThreshold ≤ p.calls.entries.length))
    (arbiter : p.arbiter = x.arbiter) (modes : p.modes = x.modes) (counter : p.counter .rosterDropped = x.counter .rosterDropped)
    (h : s.replayRemoved x out) : s.replayRemoved p out := by
  simp only [State.replayRemoved] at h ⊢
  obtain ⟨mode, gone, left, origin, formed, marker, roster, dropped⟩ := h
  have sameMode : p.mode = x.mode := by rw [State.mode, modes]; rfl
  rw [sameMode, entries, arbiter, modes, counter]
  rw [entries] at congested
  exact ⟨mode, gone, left, origin, fun some => congested (formed some), marker, roster, dropped⟩

theorem State.deferred_link {s x : State} (link : x.link = s.link) (l : List StageId) :
    (x.deferred l).link = (s.deferred l).link := by
  induction l using List.reverseRecOn with
  | nil => exact link
  | append_singleton l st ih =>
    simp only [State.deferred, List.foldl_concat]
    exact State.place_link _ ih

section
variable {s : State} {f : Flight} (powered : s.powered) (flight : s.store.flight = some f)
include powered

theorem State.exec_eraseCompletion : exec .eraseCompletion s = .next s.eraseCompletes.drain :=
  State.take_supplied _ s powered.1

include flight

theorem State.exec_erased (operation : f.operation = .erase) : exec .eraseCompletion s = .next s.eraseEnded.drain := by
  obtain ⟨op, ahead⟩ := f
  subst operation
  have eq : s.eraseCompletes = (s.erasedContents.notifyChanges s.store).endHalt := by
    simp only [State.eraseCompletes, flight]; rfl
  rw [State.exec_eraseCompletion powered, eq, s.notifyChanges_erased]; rfl

theorem State.exec_unerased (operation : f.operation ≠ .erase) : exec .eraseCompletion s = .next s := by
  obtain ⟨op, ahead⟩ := f
  have eq : s.eraseCompletes = s := by
    simp only [State.eraseCompletes, flight]
    split
    · next is => exact absurd (congrArg Flight.operation (Option.some.inj is)) operation
    · rfl
  rw [State.exec_eraseCompletion powered, eq]
  exact State.next_drain powered.2

end

theorem State.erasedContents_store (s : State) : s.erasedContents.store = { s.store with
    profiles := s.erasedContents.store.profiles, groups := s.erasedContents.store.groups
    settings := s.erasedContents.store.settings, digest := 61252, completionMark := true, lock := false, flight := none } := by
  have digest : s.erasedContents.store.digest = 61252 := s.store.erase_digest
  rw [← digest]; rfl

theorem State.erasedContents_counter (s : State) (c : Counter) : s.erasedContents.counter c =
    if c = .erasesCompleted then min 65535 (s.counter c + 1) else s.counter c := by
  rw [State.erasedContents, State.bump_counter]
  split
  · next own => rw [own]; rfl
  · rfl

section
variable (s : State)

/-- The units and the settings' owners leave the stages, the notices and the queue's entries as the stages told left them. -/
theorem State.eraseEnded_rest : s.eraseEnded.stages = s.stagesErased.stages ∧ s.eraseEnded.link = s.stagesErased.link ∧
    s.eraseEnded.arbiter = s.stagesErased.arbiter ∧ s.eraseEnded.causes = s.stagesErased.causes ∧
    s.eraseEnded.calls.entries = s.stagesErased.calls.entries ∧
    (s.mode ≠ .halted → s.eraseEnded.modes = s.stagesErased.modes) := by
  have eq := s.eraseEnded_eq.1
  refine ⟨(congrArg State.stages eq :), (congrArg State.link eq :), (congrArg State.arbiter eq :), (congrArg State.causes eq :),
    (congrArg (·.calls.entries) eq :), fun notHalted => (congrArg State.modes eq :).trans (if_neg notHalted)⟩

theorem State.eraseEnded_calls : s.eraseEnded.calls = { s.stagesErased.calls with
    congested := if s.setting .congestionThreshold ≠ Setting.congestionThreshold.default
      then decide (24 ≤ s.stagesErased.calls.entries.length) else s.stagesErased.calls.congested } :=
  (congrArg State.calls s.eraseEnded_eq.1).trans rfl

theorem State.mem_toldStages {st : StageId} : st ∈ s.toldStages ↔ s.store.profile st ≠ erasedProfile := by
  simp [State.toldStages, mem_allStages]

theorem State.eraseEnded_leftOrFed (st : StageId) :
    s.leftOrFed s.eraseEnded st (if s.store.profile st = erasedProfile then s.stage st else (s.stage st).erasedBy) := by
  obtain ⟨stages, -, -, -, -, modes⟩ := s.eraseEnded_rest
  have left := s.stagesErased_acted.1.leftOrFed st
  have record : s.erasedContents.erasePlan.after s.erasedContents s.toldStages st =
      if s.store.profile st = erasedProfile then s.stage st else (s.stage st).erasedBy := by
    by_cases same : s.store.profile st = erasedProfile
    · rw [if_pos same, StagePlan.after, if_neg fun mem => s.mem_toldStages.mp mem same]; rfl
    · rw [if_neg same, StagePlan.after_mem _ _ (s.mem_toldStages.mpr same)]; rfl
  rw [record] at left
  have stage : s.eraseEnded.stage st = s.stagesErased.stage st := congrArg (fun t : StageTable => t.get st) stages
  refine left.imp (fun same => stage.trans same) fun ⟨inReplay, still, idle, fed, entry⟩ => ?_
  have same := modes (by rw [show s.mode = .replay from inReplay]; simp)
  refine ⟨inReplay, ?_, idle, stage.trans fed, by rw [same]; exact entry⟩
  rw [State.mode, same]; exact still

/-- Stages told give no notice of their own: all there are come of feedings. -/
theorem State.eraseEnded_causes (settled : s.causes = []) : (∀ c ∈ s.eraseEnded.causes, c.ofFeed = true) ∧
    (s.mode ≠ .replay → s.eraseEnded.causes = []) := by
  obtain ⟨-, -, -, causes, -, -⟩ := s.eraseEnded_rest
  have a := s.stagesErased_acted.1
  have unnoticed : s.toldStages.flatMap s.erasedContents.erasePlan.notices = [] :=
    List.flatMap_eq_nil_iff.mpr fun _ _ => rfl
  have none : s.erasedContents.causes = [] := settled
  rw [causes]
  refine ⟨fun c mem => ?_, fun notReplay => ?_⟩
  · obtain ⟨given, eq, own⟩ := a.notices
    rw [eq, none, List.nil_append] at mem
    rw [unnoticed] at own
    simpa using List.filter_eq_nil_iff.mp own c mem
  · rw [(a.quiet notReplay).2, unnoticed, none]; rfl

/-- The stages whose call entry leaves at the completion. -/
def State.eraseTakes (st : StageId) : Bool := (s.stage st).state == .queued && s.store.profile st != erasedProfile

theorem State.erasePlan_out (st : StageId) :
    decide (st ∈ s.toldStages.filter s.erasedContents.erasePlan.out) = s.eraseTakes st := by
  rw [Bool.eq_iff_iff]
  simp only [decide_eq_true_eq, List.mem_filter, s.mem_toldStages, State.eraseTakes, Bool.and_eq_true, bne_iff_ne]
  exact and_comm

theorem State.erasePlan_outReplay {st : StageId} (queued : (s.stage st).state = .queued) :
    decide (st ∈ s.toldStages.filter s.erasedContents.erasePlan.outReplay) = s.eraseTakes st := by
  rw [← s.erasePlan_out, Bool.eq_iff_iff]
  have stage : s.erasedContents.stage st = s.stage st := rfl
  simp only [decide_eq_true_eq, List.mem_filter, State.erasePlan, stage, queued]
  simp

/-- Outside REPLAY the entries of the stages told leave the queue; the congestion flag is formed for them or for its threshold. -/
theorem State.eraseEnded_quiet (notReplay : s.mode ≠ .replay) :
    let left := s.calls.entries.filter fun e => s.eraseTakes e.stage
    s.eraseEnded.calls = { s.calls with
      entries := s.calls.entries.filter fun e => !s.eraseTakes e.stage
      congested := if left ≠ [] ∨ s.setting .congestionThreshold ≠ Setting.congestionThreshold.default
        then decide (24 ≤ s.eraseEnded.calls.entries.length) else s.calls.congested } ∧
    s.eraseEnded.counter .rosterDropped = s.counter .rosterDropped ∧
    s.eraseEnded.arbiter.marker = s.arbiter.marker.filter (fun m => !(left.any fun e => e.stage == m.stage)) := by
  intro left
  obtain ⟨q, -⟩ := s.stagesErased_acted.1.quiet notReplay
  obtain ⟨calls, marker, -⟩ := q.named (s := s.erasedContents) (out := s.eraseTakes) rfl rfl rfl rfl rfl
    fun e _ => s.erasePlan_out e.stage
  obtain ⟨-, -, arbiter, -, entries, -⟩ := s.eraseEnded_rest
  have threshold : s.erasedContents.setting .congestionThreshold = 24 := s.erasedContents_setting _
  rw [threshold] at calls
  refine ⟨?_, ?_, ?_⟩
  · rw [entries]
    have flag := congrArg CallQueue.congested calls
    have kept : ∀ b, ({ s.stagesErased.calls with congested := b } : CallQueue) =
        { s.calls with entries := s.calls.entries.filter fun e => !s.eraseTakes e.stage, congested := b } := fun b =>
      congrArg (fun c : CallQueue => { c with congested := b }) calls
    refine (s.eraseEnded_calls.trans (kept _)).trans ?_
    refine congrArg (fun b => ({ s.calls with entries := s.calls.entries.filter fun e => !s.eraseTakes e.stage, congested := b } :
      CallQueue)) ?_
    by_cases changed : s.setting .congestionThreshold ≠ Setting.congestionThreshold.default
    · rw [if_pos changed]; exact (if_pos (.inr changed)).symm
    · rw [if_neg changed, flag]
      by_cases none : left = []
      · exact (if_pos none).trans (if_neg (not_or.mpr ⟨not_not.mpr none, changed⟩)).symm
      · exact (if_neg none).trans (if_pos (.inl none)).symm
  · refine (s.eraseEnded_counter (by simp)).trans (q.rosterDropped.trans ?_)
    rw [s.erasedContents_counter, if_neg (by simp)]
  · rw [arbiter]; exact marker

/-- In REPLAY the stages told and the feeder leave the queue and the roster as State.replayRemoved says. -/
theorem State.eraseEnded_replay (inReplay : s.mode = .replay) (calls : s.callsExact) (roster : s.rosterExact) :
    s.replayRemoved s.eraseEnded s.eraseTakes := by
  obtain ⟨a, again, e⟩ := s.stagesErased_acted
  obtain ⟨R, t⟩ := a.replay inReplay calls roster
  have removed := t.replayRemoved (congrArg State.arbiter e.frame) roster.1
  obtain ⟨-, -, arbiter, -, entries, modes⟩ := s.eraseEnded_rest
  have queued : ∀ e ∈ s.calls.entries, (s.stage e.stage).state = .queued := fun e he =>
    (calls.2.2.1 e.stage.unit e.stage.slot).mp (List.mem_map_of_mem he)
  have fed : ∀ e ∈ s.modes.roster, e.outcome = .fed → (s.stage e.stage).state = .queued := fun e he is => by
    obtain ⟨stage, outcome⟩ := e
    cases is
    obtain ⟨x, mem, own, -⟩ := (roster.2.2.2.2.2.1 stage.unit stage.slot).mpr he
    have waits := queued x mem
    rw [own] at waits
    exact waits
  have named := State.replayRemoved_out (s := s.erasedContents) (out' := s.eraseTakes)
    (fun e he => s.erasePlan_outReplay (queued e he)) (fun e he is => s.erasePlan_outReplay (fed e he is)) removed
  have threshold : s.stagesErased.setting .congestionThreshold = 24 := by
    rw [State.setting, s.stagesErased_store]; exact s.erasedContents_setting _
  have after := State.replayRemoved_after (p := s.eraseEnded) entries (fun formed => ?_) arbiter (modes (by rw [inReplay]; simp))
    (s.eraseEnded_counter (by simp)) named
  · refine State.replayRemoved_congr (s' := s.erasedContents) rfl rfl rfl ?_ after
    rw [s.erasedContents_counter, if_neg (by simp)]
  · have stored : s.eraseEnded.store = s.stagesErased.store := (congrArg State.store s.eraseEnded_eq.1 :)
    rw [State.setting, stored, entries]
    rw [threshold] at formed
    refine (congrArg CallQueue.congested s.eraseEnded_calls).trans ?_
    refine Eq.trans ?_ (congrArg (fun n => decide (n ≤ _)) threshold).symm
    by_cases changed : s.setting .congestionThreshold ≠ Setting.congestionThreshold.default
    · rw [if_pos changed]
    · rw [if_neg changed]; exact formed

/-- The sums stay where they were exact. -/
theorem State.eraseEnded_sums (exact_ : s.stages.sumsExact) :
    s.eraseEnded.stages = { s.stages with records := s.eraseEnded.stages.records } := by
  obtain ⟨again, e⟩ := s.stagesErased_acted.2
  obtain ⟨-, run, pend⟩ := e.sums exact_
  have order := e.runOrder
  rw [s.eraseEnded_rest.1]
  generalize s.stagesErased.stages = t at run pend order
  obtain ⟨records, cRun, cPend, runOrder⟩ := t
  cases run; cases pend; cases order; rfl

/-- The DEFERs stand in stage order (R3). -/
theorem State.eraseEnded_link {again : StageId → Bool} (e : s.erasedContents.Erasing s.stagesErased s.toldStages again) :
    s.eraseEnded.link = (s.deferred (allStages.filter fun st => s.eraseTakes st || again st)).link := by
  have named : (s.toldStages.filter fun st => (s.erasedContents.stage st).state == .queued || again st) =
      allStages.filter fun st => s.eraseTakes st || again st := by
    rw [State.toldStages, List.filter_filter]
    refine List.filter_congr fun st _ => ?_
    have told : again st = true → (s.store.profile st != erasedProfile) = true := fun h =>
      bne_iff_ne.mpr (s.mem_toldStages.mp (e.again st h).1)
    rw [Bool.eq_iff_iff]
    simp only [Bool.and_eq_true, Bool.or_eq_true, State.eraseTakes]
    exact ⟨fun ⟨h, changed⟩ => h.imp_left fun queued => ⟨queued, changed⟩,
      fun h => h.elim (fun ⟨queued, changed⟩ => ⟨.inl queued, changed⟩) fun h => ⟨.inr h, told h⟩⟩
  rw [s.eraseEnded_rest.2.1, e.link, named]
  exact State.deferred_link (s := s) (x := s.erasedContents) rfl _

end

end Sys2Proof.Machine

namespace Sys2Proof.Proofs
open Sys2Proof.Machine

/-- Settles O44: the stages are told one after another (`State.Acted`, `State.Erasing`), then the units and the settings' owners
(`State.eraseEnded_eq`), and the drain leaves those (`State.Drained`). -/
theorem erasesComplete : Obligations.ErasesComplete := by
  refine ⟨fun s powered none => ?_, fun s f powered flight => ?_⟩
  · rw [State.exec_eraseCompletion powered, show s.eraseCompletes = s by simp only [State.eraseCompletes, none]]
    exact State.next_drain powered.2
  intro erased changed pulse stuck level moved taken left
  refine ⟨State.exec_unerased powered flight, fun operation => ?_⟩
  obtain ⟨again, e⟩ := s.stagesErased_acted.2
  obtain ⟨drainSupplied, drainPins, drainSupervisor, drainLines, drainStore, drainPending⟩ := s.eraseEnded.drain_frame
  obtain ⟨stages, link, arbiter, -, entries, modes⟩ := s.eraseEnded_rest
  obtain ⟨ofFeed, noNotice⟩ := s.eraseEnded_causes powered.2
  have eq := s.eraseEnded_eq.1
  have drained := State.Drained.drain s.eraseEnded
  have ceiling := (congrArg Account.ceiling drained.account).trans (congrArg (·.account.ceiling) eq :)
  have pendingLength := (congrArg Account.pendingLength drained.account).trans (congrArg (·.account.pendingLength) eq :)
  have lineLevel := (congrArg Shed.lineLevel drained.shed).trans (congrArg (·.shed.lineLevel) eq :)
  have lambda := (congrArg Shed.lambda drained.shed).trans (congrArg (·.shed.lambda) eq :)
  have store : s.eraseEnded.drain.store = s.erasedContents.store :=
    drainStore.trans ((congrArg State.store eq).trans s.stagesErased_store)
  refine ⟨s.eraseEnded.drain, State.exec_erased powered flight operation, fun st => ?_, fun u => ?_, fun x => ?_, ?_, ?_, fun u => ?_, ?_,
    ?_, ?_, ?_, ?_, fun halted => ?_, s.eraseEnded, again, rfl, fun notReplay => ?_, fun st was => ?_, ?_, fun exact_ => ?_, fun st => ?_,
    ?_, ?_, fun c other => ?_, fun c mem => ?_, ?_, fun notReplay => ⟨fun notHalted => ?_, ?_, ?_, ?_⟩,
    fun inReplay calls roster => ?_⟩
  case _ => rw [store]; exact s.erasedContents_profile st
  case _ => rw [store]; exact s.erasedContents_group u
  case _ => rw [State.setting, store]; exact s.erasedContents_setting x
  case _ => rw [store]; exact s.erasedContents_store
  case _ =>
    refine (drained.erases.trans (s.eraseEnded_counter (by simp))).trans ((e.counters _ (by simp)).trans ?_)
    rw [s.erasedContents_counter, if_pos rfl]
  case _ =>
    rw [State.unit, drainSupervisor]
    exact s.eraseEnded_unit u
  case _ => rw [drainLines]; exact (congrArg State.lines eq :)
  case _ => exact lineLevel
  case _ => exact lambda
  case _ => exact ceiling
  case _ => exact pendingLength
  case _ =>
    have now := (congrArg State.modes eq).trans (if_pos halted)
    exact (drained.modes (by rw [State.mode, now]; simp)).trans now
  case _ => exact ⟨State.drain_none _ (noNotice notReplay), noNotice notReplay⟩
  case _ =>
    obtain ⟨told, inReplay, idle, waited⟩ := e.again st was
    exact ⟨inReplay, idle, s.mem_toldStages.mp told, waited⟩
  case _ => rw [stages]; exact e.runOrder
  case _ => exact s.eraseEnded_sums exact_
  case _ =>
    intro r
    have left := s.eraseEnded_leftOrFed st
    rw [Stage.erasedBy] at left
    exact left
  case _ => exact s.eraseEnded_link e
  case _ =>
    rw [ceiling, pendingLength]
    exact (congrArg State.account eq :)
  case _ =>
    simp only [List.mem_cons, List.not_mem_nil, or_false, not_or] at other
    obtain ⟨erases, notices, onsets, valid, stuckReports, estimates, line, curtails, dropped⟩ := other
    refine (s.eraseEnded_counter (by simp [*])).trans ((e.counters c (by simp [*])).trans ?_)
    rw [s.erasedContents_counter, if_neg erases]
  case _ =>
    simpa [Cause.ofFeed, or_assoc] using ofFeed c mem
  case _ =>
    refine State.eq_of_fields ?_ ?_ rfl rfl ?_ rfl ?_ ?_ drainLines.symm rfl rfl drainStore.symm rfl rfl ?_ ?_
    · exact (congrArg State.supplied eq :).trans (congrArg State.supplied e.frame :)
    · exact (congrArg State.pins eq :).trans (congrArg State.pins e.frame :)
    · exact arbiter.trans ((congrArg State.arbiter e.frame).trans (by rw [arbiter]; rfl))
    · rw [lineLevel, lambda]; exact (congrArg State.shed eq :)
    · rw [drainSupervisor]; exact (congrArg State.supervisor eq :)
    · exact (congrArg State.drawn eq :).trans (congrArg State.drawn e.frame :)
    · exact (congrArg State.pending eq :).trans (congrArg State.pending e.frame :)
  case _ =>
    rw [modes notHalted]
    exact s.stagesErased_drained.modes notReplay
  case _ => exact (s.eraseEnded_quiet notReplay).1
  case _ => exact (s.eraseEnded_quiet notReplay).2.1
  case _ => exact (s.eraseEnded_quiet notReplay).2.2
  case _ => exact s.eraseEnded_replay inReplay calls roster

end Sys2Proof.Proofs
end

section
/-! Proofs/OrderedStops.lean: the order stops taken one after another, while there is room for their STOPs (R110, O59). -/

namespace Sys2Proof.Machine

/-! ### Room for STOPs (R109) -/

/-- How many STOPs can be placed: one in an empty slot, and one for each notice below 24 (R109). -/
def State.stopPlaces (s : State) : Nat := (if s.link.stopSlot = none then 1 else 0) + (24 - s.link.queue.length)

theorem State.stopRoom_places (s : State) : s.stopRoom = true ↔ 0 < s.stopPlaces := by
  rw [State.stopRoom_iff, State.stopPlaces]
  by_cases empty : s.link.stopSlot = none
  · simp [empty]
  · simp [empty]

theorem State.stopPlaces_placeStop {s : State} (room : s.stopRoom = true) (f : StopFrame) :
    (s.placeStop f).stopPlaces + 1 = s.stopPlaces := by
  have free := (s.stopRoom_iff).mp room
  by_cases empty : s.link.stopSlot = none
  · rw [State.placeStop_empty empty]
    simp only [State.stopPlaces, empty]
    simp [Nat.add_comm]
  · have few := free.resolve_left empty
    rw [State.placeStop_taken empty]
    simp only [State.stopPlaces, State.enqueue, State.onLink, empty, List.length_append, List.length_singleton]
    simp
    omega

theorem State.stopPlaces_congr {s x : State} (link : x.link = s.link) : x.stopPlaces = s.stopPlaces := by
  rw [State.stopPlaces, link]; rfl

theorem State.placeStop_link_congr {s x : State} (link : x.link = s.link) (f : StopFrame) :
    (x.placeStop f).link = (s.placeStop f).link := by
  unfold State.placeStop State.enqueue State.onLink
  rw [link]
  split <;> rfl

/-- The state with STOPs placed one after another. -/
def State.stopsPlaced (s : State) (l : List StopFrame) : State := l.foldl (fun x f => x.placeStop f) s

theorem State.stopsPlaced_concat (s : State) (l : List StopFrame) (f : StopFrame) :
    s.stopsPlaced (l ++ [f]) = (s.stopsPlaced l).placeStop f := List.foldl_concat ..

/-! ### A permit withdrawn (R9, R153) -/

/-- Declining a replay permit keeps what the stages follow: no FED entry is marked. -/
theorem State.Follows.replayDeclined {x : State} {r : StageId → Stage} (h : x.Follows r) (st : StageId) :
    (x.replayDeclined st).Follows r := by
  unfold State.replayDeclined
  split
  · next inReplay =>
    refine State.Follows.feed (h.imp (fun ⟨replay, stands⟩ => ⟨replay, fun st' => ?_⟩) fun ⟨notReplay, _⟩ => absurd inReplay notReplay)
    refine (stands st').imp_right fun ⟨idle, queued, mem⟩ => ⟨idle, queued, ?_⟩
    show _ ∈ (markRoster st .restored .dropped x.modes.roster).drop x.modes.readPosition
    rw [markRoster, ← List.map_drop]
    exact List.mem_map.mpr ⟨_, mem, if_neg fun c => by simp at c⟩
  · exact h

/-- What a decline leaves of the stage table and the counters. -/
theorem State.replayDeclined_table (x : State) (st : StageId) :
    let y := x.replayDeclined st
    y.stages.runOrder = x.stages.runOrder ∧ y.stages.cRun = x.stages.cRun ∧ y.stages.cPend = x.stages.cPend ∧ x.FeedNotices y ∧
    (∀ c ∉ [Counter.replayDeclines, .rosterDropped, .congestionOnsets], y.counter c = x.counter c) ∧
    y = { x with stages := y.stages, calls := y.calls, modes := y.modes, counters := y.counters, causes := y.causes } := by
  unfold State.replayDeclined
  split
  · let z := (x.onModes fun d => { d with roster := markRoster st .restored .dropped d.roster }).bump .replayDeclines
    have fed := State.QueueOnly.feed z
    refine ⟨fed.runOrder, fed.cRun, fed.cPend, (State.FeedNotices.same rfl).trans (.feed z), fun c other => ?_, ?_⟩
    · simp only [List.mem_cons, List.not_mem_nil, or_false, not_or] at other
      obtain ⟨declines, dropped, onsets⟩ := other
      exact (fed.counters c onsets dropped).trans (State.bump_counter_other _ _ _ (Ne.symm declines))
    · have arbiter : z.feed.arbiter = x.arbiter := by simp [z]
      have frame := fed.frame
      rw [State.CallFrame, arbiter] at frame
      exact frame
  · exact ⟨rfl, rfl, rfl, .same rfl, fun _ _ => rfl, rfl⟩

/-- The feeder keeps whose entries the roster holds, or finishes it. -/
theorem State.feed_distinct {x : State} (inReplay : x.mode = .replay) (distinct : (x.modes.roster.map RosterEntry.stage).Nodup) :
    (x.feed.mode = .replay ∧ (x.feed.modes.roster.map RosterEntry.stage).Nodup) ∨
      (x.feed.mode = .coordinating ∧ x.feed.modes.roster = []) := by
  have stages := feedEntries_induction (fun R _ => R.map RosterEntry.stage = x.modes.roster.map RosterEntry.stage)
    (fun done e rest y same _ _ => by rw [← same]; simp) (fun done e rest y same _ _ => by rw [← same]; simp)
    [] x.modes.roster x rfl
  have modes := feedEntries_modes x.modes.roster x
  rw [State.feed_replay inReplay]
  generalize (feedEntries 0 x.modes.roster x).1 = R at *
  generalize (feedEntries 0 x.modes.roster x).2 = y at *
  let z := y.onModes fun d => { d with roster := R }
  rcases z.advanceRead_cases with ⟨⟨_, after⟩, -⟩ | ⟨passed, later, -, -, after⟩
  · exact .inr ⟨by rw [State.mode, after], by rw [after]⟩
  · refine .inl ⟨by rw [State.mode, after]; exact (congrArg Modes.mode modes).trans inReplay, ?_⟩
    rw [after]
    exact stages.symm ▸ distinct

end Sys2Proof.Machine
end

section
/-! Proofs/OrderStops.lean: each stage of the run order list with an order stop due is revoked or stopped while there is room
(R107, R110, O59). -/

namespace Sys2Proof.Machine

/-! ### The order stops due -/

section
variable (s : State)

/-- An order stop revokes the stage's permit. -/
def State.orderPermits (st : StageId) : Bool := s.stopOrdered st && (s.stage st).state == .granted

/-- An order stop stops the stage. -/
def State.orderStops (st : StageId) : Bool := s.stopOrdered st && (s.stage st).settled

/-- The order stops due of a list, from its first. -/
def State.orderDue (l : List StageId) : List StageId := l.filter fun st => s.orderPermits st || s.orderStops st

/-- The permit revoked is a replay permit. -/
def State.orderDeclines (st : StageId) : Bool := s.orderPermits st && (s.stage st).rosterFlag

/-- The record an order stop leaves (R20, R21). -/
def State.orderRecord (st : StageId) : Stage :=
  if s.orderPermits st then (s.stage st).withdrawnBy (s.store.profile st) (s.setting .confirmTimeout)
  else (s.stage st).stoppedBy (s.settingTime .stopTimeout) .order

/-- The STOP an order stop sends (R109). -/
def State.orderFrame (st : StageId) : StopFrame := { stage := st, reason := .order, token := (s.stage st).token.getD 0 }

/-- Each stage's record once the order stops of `done` have been taken. -/
def State.orderAfter (done : List StageId) (st : StageId) : Stage := if st ∈ done then s.orderRecord st else s.stage st

end

variable {s x : State} {done : List StageId} {waits : Nat} {st : StageId}

theorem State.orderAfter_self : s.orderAfter (done ++ [st]) st = s.orderRecord st := if_pos (by simp)

theorem State.orderAfter_other {st' : StageId} (other : st' ≠ st) : s.orderAfter (done ++ [st]) st' = s.orderAfter done st' := by
  simp [State.orderAfter, other]

theorem State.orderPermits_granted (h : s.orderPermits st = true) : (s.stage st).state = .granted := by
  simp only [State.orderPermits, Bool.and_eq_true, beq_iff_eq] at h
  exact h.2

theorem State.orderStops_settled (h : s.orderStops st = true) : (s.stage st).settled = true := by
  simp only [State.orderStops, Bool.and_eq_true] at h
  exact h.2

theorem Stage.settled_running {r : Stage} (h : r.settled = true) : r.state = .running := by
  simp only [Stage.settled, Bool.and_eq_true, beq_iff_eq] at h
  exact h.1

theorem State.orderStops_unpermitted (h : s.orderStops st = true) : s.orderPermits st = false := by
  have running := Stage.settled_running (s.orderStops_settled h)
  simp [State.orderPermits, running]

/-! ### What a withdrawal leaves -/

theorem State.Follows.congr {x y : State} {r : StageId → Stage} (h : x.Follows r) (stages : y.stages = x.stages)
    (modes : y.modes = x.modes) : y.Follows r := by
  unfold State.Follows State.AtOrFed State.mode State.stage at h ⊢
  rw [stages, modes]
  exact h

theorem State.Follows.withdrawPermit {r r' : StageId → Stage} (h : x.Follows r)
    (own : (x.stage st).withdrawnBy (x.store.profile st) (x.setting .confirmTimeout) = r' st)
    (others : ∀ st', st' ≠ st → r' st' = r st') : (x.withdrawPermit st).Follows r' := by
  have withdrawn : (x.withdrawn st).Follows r' := h.onStage
    (f := Stage.withdrawnBy (x.store.profile st) (x.setting .confirmTimeout)) own others
  rw [State.withdrawPermit_eq]
  split
  · exact (withdrawn.replayDeclined st).congr rfl rfl
  · exact withdrawn.congr rfl rfl

/-- What the withdrawal of a permit leaves of the stage table, the counters and the notices. -/
theorem State.withdrawPermit_table (granted : (x.stage st).state = .granted) :
    let y := x.withdrawPermit st
    y.stages.runOrder = x.stages.runOrder.filter (fun st' => st' != st) ∧ y.stages.cRun = x.stages.cRun ∧
    y.stages.cPend = x.stages.cPend - (x.stage st).working.load ∧
    (∃ fed, y.causes = x.causes ++ fed ++ [.pass .stageChange] ∧ ∀ c ∈ fed, c.ofFeed = true) ∧
    (∀ c ∉ [Counter.replayDeclines, .rosterDropped, .congestionOnsets], y.counter c = x.counter c) ∧
    y = { x with stages := y.stages, calls := y.calls, modes := y.modes, counters := y.counters, causes := y.causes } := by
  have run : (x.stages.get st).runLoad = 0 := by rw [Stage.runLoad_eq, x.stages_get, granted]; rfl
  have pend : (x.stages.get st).pendLoad = (x.stage st).working.load := by
    rw [Stage.pendLoad, if_pos (by rw [x.stages_get, granted])]; rfl
  have order : (x.withdrawn st).stages.runOrder = x.stages.runOrder.filter (fun st' => st' != st) := by
    refine (StageTable.put_runOrder ..).trans ?_
    exact (if_neg (by simp [Stage.withdrawnBy, StageState.listed])).trans (if_pos (by rw [x.stages_get, granted]; rfl))
  have cRun : (x.withdrawn st).stages.cRun = x.stages.cRun := by
    refine Eq.trans (b := x.stages.cRun - (x.stages.get st).runLoad) rfl ?_
    rw [run, Nat.sub_zero]
  have cPend : (x.withdrawn st).stages.cPend = x.stages.cPend - (x.stage st).working.load := by
    refine Eq.trans (b := x.stages.cPend - (x.stages.get st).pendLoad) rfl ?_
    rw [pend]
  rw [State.withdrawPermit_eq]
  split
  · obtain ⟨order', cRun', cPend', ⟨fed, causes, ofFeed⟩, counters, frame⟩ := (x.withdrawn st).replayDeclined_table st
    refine ⟨order'.trans order, cRun'.trans cRun, cPend'.trans cPend,
      ⟨fed, congrArg (fun l => l ++ [Cause.pass .stageChange]) causes, ofFeed⟩, counters, ?_⟩
    exact (congrArg (State.give (.pass .stageChange)) frame).trans rfl
  · exact ⟨order, cRun, cPend, ⟨[], by simp [State.give, State.withdrawn], by simp⟩, fun _ _ => rfl, rfl⟩

/-! ### The replay permits among them -/

/-- In REPLAY the roster entries of the replay permits withdrawn are DROPPED and counted, and the other RESTORED ones stand; or the
roster is finished (R152, R153). -/
def State.Declining (s x : State) (done : List StageId) : Prop :=
  (x.mode = .replay ∧ x.counter .replayDeclines = raisedBy (done.countP s.orderDeclines) (s.counter .replayDeclines) ∧
    (s.rosterExact → (x.modes.roster.map RosterEntry.stage).Nodup ∧
      ∀ st, ({ stage := st, outcome := .restored } : RosterEntry) ∈ s.modes.roster →
        ({ stage := st, outcome := if st ∈ done ∧ s.orderDeclines st = true then .dropped else .restored } : RosterEntry) ∈
          x.modes.roster)) ∨
  (x.mode = .coordinating ∧ x.modes.roster = [])

theorem State.Declining.refl (inReplay : s.mode = .replay) : s.Declining s [] :=
  .inl ⟨inReplay, rfl, fun roster => ⟨roster.1, fun st mem => by simpa using mem⟩⟩

theorem State.Declining.congr {y : State} (h : s.Declining x done) (modes : y.modes = x.modes)
    (counter : y.counter .replayDeclines = x.counter .replayDeclines) : s.Declining y done := by
  unfold State.Declining State.mode at h ⊢
  rw [modes, counter]
  exact h

/-- A stage without a replay permit changes nothing of it. -/
theorem State.Declining.other (h : s.Declining x done) (unpermitted : s.orderDeclines st = false) : s.Declining x (done ++ [st]) := by
  refine h.imp_left fun ⟨inReplay, counter, roster⟩ => ⟨inReplay, ?_, fun exact_ => ?_⟩
  · rw [List.countP_append, List.countP_singleton, unpermitted]; exact counter
  · obtain ⟨distinct, entries⟩ := roster exact_
    refine ⟨distinct, fun st' mem => ?_⟩
    have named : (st' ∈ done ++ [st] ∧ s.orderDeclines st' = true) ↔ (st' ∈ done ∧ s.orderDeclines st' = true) := by
      refine ⟨fun ⟨mem, declines⟩ => ⟨?_, declines⟩, fun ⟨mem, declines⟩ => ⟨List.mem_append_left _ mem, declines⟩⟩
      refine (List.mem_append.mp mem).resolve_right fun own => ?_
      rw [List.mem_singleton.mp own, unpermitted] at declines
      cases declines
    simp only [named]
    exact entries st' mem

/-- A replay permit withdrawn in REPLAY (R153). -/
theorem State.Declining.feed (h : s.Declining x done) (new : st ∉ done) (declines : s.orderDeclines st = true)
    (inReplay : x.mode = .replay) :
    s.Declining ((((x.withdrawn st).declineRoster st).bump .replayDeclines).feed) (done ++ [st]) := by
  let z := ((x.withdrawn st).declineRoster st).bump .replayDeclines
  have still : z.mode = .replay := inReplay
  obtain ⟨-, counter, roster⟩ := h.resolve_right fun ⟨left, _⟩ => by rw [inReplay] at left; cases left
  have counted : z.feed.counter .replayDeclines = raisedBy ((done ++ [st]).countP s.orderDeclines) (s.counter .replayDeclines) := by
    rw [(State.QueueOnly.feed z).counters _ (by simp) (by simp), List.countP_append, List.countP_singleton, declines, if_pos rfl,
      raisedBy_succ, ← counter]
    exact State.bump_counter_self _ _
  by_cases left : z.feed.mode = .replay
  · refine .inl ⟨left, counted, fun exact_ => ?_⟩
    obtain ⟨distinct, entries⟩ := roster exact_
    have marked : (z.modes.roster.map RosterEntry.stage).Nodup := (markRoster_stages st .restored .dropped _).symm ▸ distinct
    refine ⟨((State.feed_distinct still marked).resolve_right fun ⟨h, _⟩ => by rw [left] at h; cases h).2, fun st' mem => ?_⟩
    have was := entries st' mem
    have now : ({ stage := st', outcome := if st' ∈ done ++ [st] ∧ s.orderDeclines st' = true then .dropped else .restored } :
        RosterEntry) ∈ z.modes.roster := by
      by_cases own : st' = st
      · rw [own, if_neg fun h => new h.1] at was
        rw [own, if_pos ⟨by simp, declines⟩]
        exact mem_markRoster was
      · simp only [List.mem_append, List.mem_singleton, own, or_false]
        exact List.mem_map.mpr ⟨_, was, if_neg fun h => own h.1⟩
    have resolved : RosterEntry.resolved
        { stage := st', outcome := if st' ∈ done ++ [st] ∧ s.orderDeclines st' = true then .dropped else .restored } := by
      unfold RosterEntry.resolved
      split
      · exact .inr rfl
      · exact .inl rfl
    obtain ⟨-, -, stays⟩ := State.feed_resolved still now resolved marked
    exact (stays.resolve_right fun ⟨h, _⟩ => by rw [left] at h; cases h).2
  · exact .inr ((State.Drained.feed z).replay still |>.resolve_left left)

theorem State.Declining.withdrawPermit (h : s.Declining x done) (new : st ∉ done) (permits : s.orderPermits st = true)
    (was : x.stage st = s.stage st) : s.Declining (x.withdrawPermit st) (done ++ [st]) := by
  have finished : (x.mode = .coordinating ∧ x.modes.roster = []) → s.Declining (x.withdrawPermit st) (done ++ [st]) := by
    intro left
    rw [State.withdrawPermit_plain (.inr (by rw [left.1]; simp))]
    exact .inr left
  by_cases flag : (s.stage st).rosterFlag = true
  · have declines : s.orderDeclines st = true := by simp [State.orderDeclines, permits, flag]
    by_cases inReplay : x.mode = .replay
    · rw [State.withdrawPermit_replay (by rw [was]; exact flag) inReplay]
      exact (h.feed new declines inReplay).congr rfl rfl
    · exact finished (h.resolve_left fun ⟨still, _⟩ => inReplay still)
  · have clear : (s.stage st).rosterFlag = false := Bool.eq_false_of_not_eq_true flag
    rw [State.withdrawPermit_plain (.inl (by rw [was]; exact clear))]
    exact (h.other (by simp [State.orderDeclines, clear])).congr rfl rfl

end Sys2Proof.Machine
end

section
/-! Proofs/OrderStopsTaken.lean: the order stops of the run order list, one after another (R110, O59). -/

namespace Sys2Proof.Machine

theorem countP_concat {α : Type} (test : α → Bool) (l : List α) (a : α) :
    (l ++ [a]).countP test = l.countP test + if test a then 1 else 0 := by
  rw [List.countP_append, List.countP_singleton]

/-- From s to x nothing has changed but the blocks that order stops can change. -/
def State.OrderFrame (s x : State) : Prop :=
  x = { s with stages := x.stages, calls := x.calls, link := x.link, modes := x.modes, counters := x.counters, causes := x.causes }

theorem State.OrderFrame.trans {x y z : State} (a : x.OrderFrame y) (b : y.OrderFrame z) : x.OrderFrame z :=
  Eq.trans b (congrArg (fun w : State =>
    { w with stages := z.stages, calls := z.calls, link := z.link, modes := z.modes, counters := z.counters, causes := z.causes }) a)

theorem State.OrderFrame.placeStop (f : StopFrame) (x : State) : x.OrderFrame (x.placeStop f) := by
  unfold State.OrderFrame State.placeStop
  split <;> rfl

/-- From s to x the order stops of `done` have been taken, and `waits` more have found no room. -/
structure State.Ordered (s x : State) (done : List StageId) (waits : Nat) : Prop where
  frame : s.OrderFrame x
  link : x.link = (s.stopsPlaced (done.map s.orderFrame)).link
  places : x.stopPlaces + done.length = s.stopPlaces
  follows : x.Follows (s.orderAfter done)
  runOrder : x.stages.runOrder = s.stages.runOrder.filter fun st => !(done.contains st && s.orderPermits st)
  moves : s.Moves x
  cRun : s.stages.sumsExact → x.stages.cRun = s.stages.cRun
  cPend : x.stages.cPend = s.stages.cPend - ((done.filter s.orderPermits).map fun st => (s.stage st).working.load).sum
  revokes : x.counter .orderRevokes = raisedBy (done.countP s.orderPermits) (s.counter .orderRevokes)
  stops : x.counter .orderStops = raisedBy (done.countP s.orderStops) (s.counter .orderStops)
  waiting : x.counter .shedsWaiting = raisedBy waits (s.counter .shedsWaiting)
  counters : ∀ c ∉ [Counter.orderRevokes, .orderStops, .shedsWaiting, .replayDeclines, .rosterDropped, .congestionOnsets],
    x.counter c = s.counter c
  notices : ∃ given, x.causes = s.causes ++ given ∧
    given.filter (fun c => !c.ofFeed) = List.replicate done.length (.pass .stageChange)
  quiet : s.mode ≠ .replay → x.calls = s.calls ∧ x.modes = s.modes ∧
    x.causes = s.causes ++ List.replicate done.length (.pass .stageChange) ∧
    ∀ c ∈ [Counter.replayDeclines, .rosterDropped, .congestionOnsets], x.counter c = s.counter c
  declining : s.mode = .replay → s.Declining x done

theorem State.Ordered.refl (s : State) : s.Ordered s [] 0 where
  frame := rfl
  link := rfl
  places := rfl
  follows := by
    by_cases inReplay : s.mode = .replay
    · exact .inl ⟨inReplay, fun _ => .inl rfl⟩
    · exact .inr ⟨inReplay, fun _ => rfl⟩
  runOrder := by simp
  moves := .refl s
  cRun _ := rfl
  cPend := rfl
  revokes := rfl
  stops := rfl
  waiting := rfl
  counters _ _ := rfl
  notices := ⟨[], by simp, rfl⟩
  quiet _ := ⟨rfl, rfl, by simp, fun _ _ => rfl⟩
  declining := .refl

/-- Without an order stop due nothing is done. -/
theorem State.orderStop_undue (x : State) {st : StageId} (unpermitted : x.orderPermits st = false) (unstopped : x.orderStops st = false) :
    x.orderStop st = x := by
  unfold State.orderStop
  split
  · next ordered =>
    rw [State.orderPermits, ordered, Bool.true_and] at unpermitted
    rw [State.orderStops, ordered, Bool.true_and] at unstopped
    split
    · next granted => simp [granted] at unpermitted
    · rw [unstopped]; rfl
    all_goals rfl
  · rfl

section
variable {s x : State} {done : List StageId} {waits : Nat} {st : StageId}

/-- A stage of the list is as it was until its own order stop. -/
theorem State.Ordered.stage (o : s.Ordered x done waits) (new : st ∉ done) (busy : (s.stage st).state ≠ .idle) :
    x.stage st = s.stage st := by
  have after : s.orderAfter done st = s.stage st := if_neg new
  rcases o.follows with ⟨-, h⟩ | ⟨-, h⟩
  · exact ((h st).resolve_right fun ⟨idle, _⟩ => busy (after ▸ idle)).trans after
  · exact (h st).trans after

/-- An order stop that finds no room waits (R109). -/
theorem State.Ordered.wait (o : s.Ordered x done waits) : s.Ordered (x.bump .shedsWaiting) done (waits + 1) where
  frame := o.frame.trans rfl
  link := o.link
  places := o.places
  follows := o.follows.congr rfl rfl
  runOrder := o.runOrder
  moves := o.moves.trans (State.bump_moves _ x)
  cRun := o.cRun
  cPend := o.cPend
  revokes := (x.bump_counter_other _ _ (by simp)).trans o.revokes
  stops := (x.bump_counter_other _ _ (by simp)).trans o.stops
  waiting := by rw [raisedBy_succ, ← o.waiting]; exact x.bump_counter_self _
  counters c other := (x.bump_counter_other _ _ fun own => other (by simp [← own])).trans (o.counters c other)
  notices := o.notices
  quiet notReplay := by
    obtain ⟨calls, modes, causes, counters⟩ := o.quiet notReplay
    exact ⟨calls, modes, causes, fun c mem => (x.bump_counter_other _ _ fun own => by simp [← own] at mem).trans (counters c mem)⟩
  declining inReplay := (o.declining inReplay).congr rfl (x.bump_counter_other _ _ (by simp))

/-- From x to y the stage st has been revoked or stopped by its order stop, whose STOP is yet to be placed. -/
structure State.OrderStep (s x y : State) (done : List StageId) (st : StageId) : Prop where
  frame : x.OrderFrame y
  link : y.link = x.link
  follows : y.Follows (s.orderAfter (done ++ [st]))
  runOrder : y.stages.runOrder = x.stages.runOrder.filter fun st' => !(st' == st && s.orderPermits st)
  cRun : x.stages.sumsExact → y.stages.cRun = x.stages.cRun
  cPend : y.stages.cPend = x.stages.cPend - if s.orderPermits st then (s.stage st).working.load else 0
  revokes : y.counter .orderRevokes = raisedBy (if s.orderPermits st then 1 else 0) (x.counter .orderRevokes)
  stops : y.counter .orderStops = raisedBy (if s.orderStops st then 1 else 0) (x.counter .orderStops)
  counters : ∀ c ∉ [Counter.orderRevokes, .orderStops, .replayDeclines, .rosterDropped, .congestionOnsets], y.counter c = x.counter c
  notices : ∃ fed, y.causes = x.causes ++ fed ++ [.pass .stageChange] ∧ ∀ c ∈ fed, c.ofFeed = true
  quiet : x.mode ≠ .replay → y.calls = x.calls ∧ y.modes = x.modes ∧ y.causes = x.causes ++ [.pass .stageChange] ∧
    ∀ c ∈ [Counter.replayDeclines, .rosterDropped, .congestionOnsets], y.counter c = x.counter c
  declining : s.Declining x done → s.Declining y (done ++ [st])

/-- A count raised and raised again. -/
theorem raisedBy_add (j k n : Nat) : raisedBy k (raisedBy j n) = raisedBy (j + k) n := by
  unfold raisedBy
  by_cases first : j = 0
  · simp [first]
  · by_cases second : k = 0
    · simp [second]
    · rw [if_neg first, if_neg second, if_neg (by omega)]
      omega

/-- The STOP of one more order stop is placed. -/
theorem State.Ordered.next {y : State} (o : s.Ordered x done waits) (step : s.OrderStep x y done st) (room : x.stopRoom = true)
    (moves : x.Moves (y.placeStop (s.orderFrame st))) : s.Ordered (y.placeStop (s.orderFrame st)) (done ++ [st]) waits := by
  have stages : (y.placeStop (s.orderFrame st)).stages = y.stages := by simp
  have modes : (y.placeStop (s.orderFrame st)).modes = y.modes := by simp
  have calls : (y.placeStop (s.orderFrame st)).calls = y.calls := by simp
  have causes : (y.placeStop (s.orderFrame st)).causes = y.causes := by simp
  have counter : ∀ c, (y.placeStop (s.orderFrame st)).counter c = y.counter c := fun c => by simp [State.counter]
  have length : (done ++ [st]).length = done.length + 1 := by simp
  refine ⟨(o.frame.trans step.frame).trans (.placeStop _ y), ?_, ?_, step.follows.congr stages modes, ?_, o.moves.trans moves,
    fun exact_ => ?_, ?_, ?_, ?_, ?_, fun c other => ?_, ?_, fun notReplay => ?_,
    fun inReplay => (step.declining (o.declining inReplay)).congr modes (counter _)⟩
  · rw [List.map_append, List.map_singleton, State.stopsPlaced_concat]
    exact State.placeStop_link_congr (step.link.trans o.link) _
  · have placed := State.stopPlaces_placeStop ((State.stopRoom_congr step.link).trans room) (s.orderFrame st)
    rw [State.stopPlaces_congr step.link] at placed
    have before := o.places
    omega
  · rw [stages, step.runOrder, o.runOrder, List.filter_filter]
    refine List.filter_congr fun st' _ => ?_
    by_cases own : st' = st
    · rw [own]
      cases s.orderPermits st <;> simp
    · simp [own]
  · rw [stages]; exact (step.cRun (o.moves.sumsExact exact_)).trans (o.cRun exact_)
  · rw [stages, step.cPend, o.cPend, filter_concat, Nat.sub_sub]
    split <;> simp
  · rw [counter, step.revokes, o.revokes, raisedBy_add, countP_concat]
  · rw [counter, step.stops, o.stops, raisedBy_add, countP_concat]
  · rw [counter, step.counters _ (by simp)]; exact o.waiting
  · have unstepped : c ∉ [Counter.orderRevokes, .orderStops, .replayDeclines, .rosterDropped, .congestionOnsets] := fun mem =>
      other (by simp at mem ⊢; tauto)
    rw [counter, step.counters c unstepped]; exact o.counters c other
  · obtain ⟨given, was, own⟩ := o.notices
    obtain ⟨fed, now, ofFeed⟩ := step.notices
    have noFed : fed.filter (fun c => !c.ofFeed) = [] := List.filter_eq_nil_iff.mpr fun c hc => by simp [ofFeed c hc]
    refine ⟨given ++ fed ++ [.pass .stageChange], by rw [causes, now, was]; simp, ?_⟩
    rw [List.filter_append, List.filter_append, own, noFed, length, List.replicate_succ', List.append_nil]; rfl
  · obtain ⟨calls', modes', causes', counters'⟩ := o.quiet notReplay
    obtain ⟨calls'', modes'', causes'', counters''⟩ := step.quiet (by rw [State.mode, modes']; exact notReplay)
    refine ⟨calls.trans (calls''.trans calls'), modes.trans (modes''.trans modes'), ?_, fun c mem => ?_⟩
    · rw [causes, causes'', causes', length, List.replicate_succ', List.append_assoc]
    · rw [counter, counters'' c mem, counters' c mem]

theorem State.Ordered.stopStep (o : s.Ordered x done waits) (stops : s.orderStops st = true) (was : x.stage st = s.stage st) :
    s.OrderStep x (((x.onStage st (Stage.stoppedBy (x.settingTime .stopTimeout) .order)).give (.pass .stageChange)).bump .orderStops)
      done st := by
  have running := Stage.settled_running (s.orderStops_settled stops)
  have unpermitted := s.orderStops_unpermitted stops
  have store : x.settingTime .stopTimeout = s.settingTime .stopTimeout := by
    rw [State.settingTime, State.setting, o.frame]; rfl
  have counter : ∀ c, c ≠ .orderStops → (x.bump .orderStops).counter c = x.counter c := fun c other =>
    x.bump_counter_other _ _ (Ne.symm other)
  refine ⟨rfl, rfl, ?_, ?_, fun exact_ => ?_, ?_, ?_, ?_, fun c other => counter c fun own => other (by simp [own]),
    ⟨[], by simp [State.give], by simp⟩, fun _ => ⟨rfl, rfl, rfl, fun c mem => counter c fun own => by simp [own] at mem⟩,
    fun declining => ?_⟩
  · exact (o.follows.onStage (f := Stage.stoppedBy (x.settingTime .stopTimeout) .order)
      (by rw [State.orderAfter_self, State.orderRecord, unpermitted, was, store]; rfl) fun st' => State.orderAfter_other).congr rfl rfl
  · have kept : (x.stages.put st ((x.stage st).stoppedBy (x.settingTime .stopTimeout) .order)).runOrder = x.stages.runOrder :=
      (StageTable.put_runOrder ..).trans ((if_pos rfl).trans (if_pos (by rw [x.stages_get, was, running]; rfl)))
    refine kept.trans ?_
    simp [unpermitted]
  · have runLoad : (x.stages.get st).runLoad = (x.stage st).working.load := by
      rw [Stage.runLoad_eq, x.stages_get, was, if_pos (.inl running)]
    have held := StageTable.runLoad_le exact_ st
    refine Eq.trans (b := x.stages.cRun - (x.stages.get st).runLoad + (x.stage st).working.load) rfl ?_
    rw [← runLoad, Nat.sub_add_cancel held]
  · refine Eq.trans (b := x.stages.cPend - (x.stages.get st).pendLoad) rfl ?_
    rw [Stage.pendLoad, if_neg (by rw [x.stages_get, was, running]; simp), unpermitted]; rfl
  · rw [unpermitted]; exact counter _ (by simp)
  · rw [stops]; exact (x.bump_counter_self _).trans (raisedBy_succ 0 _).symm
  · exact (declining.other (by simp [State.orderDeclines, unpermitted])).congr rfl (counter _ (by simp))

theorem State.Ordered.revokeStep (o : s.Ordered x done waits) (new : st ∉ done) (permits : s.orderPermits st = true)
    (was : x.stage st = s.stage st) : s.OrderStep x ((x.withdrawPermit st).bump .orderRevokes) done st := by
  have granted : (x.stage st).state = .granted := by rw [was]; exact s.orderPermits_granted permits
  have unstopped : s.orderStops st = false := by
    by_contra stops
    simp [s.orderStops_unpermitted (Bool.eq_true_of_not_eq_false stops)] at permits
  obtain ⟨order, cRun, cPend, notices, counters, frame⟩ := x.withdrawPermit_table granted
  have store : x.store = s.store := by rw [o.frame]
  have counter : ∀ c, c ≠ .orderRevokes → ((x.withdrawPermit st).bump .orderRevokes).counter c = (x.withdrawPermit st).counter c :=
    fun c other => State.bump_counter_other _ _ _ (Ne.symm other)
  have link : (x.withdrawPermit st).link = x.link := by simp
  have framed : x.OrderFrame (x.withdrawPermit st) := by rw [State.OrderFrame, link]; exact frame
  refine ⟨framed.trans (z := (x.withdrawPermit st).bump .orderRevokes) rfl, link, ?_, ?_, fun _ => cRun, ?_, ?_, ?_, fun c other => ?_, notices,
    fun notReplay => ?_, fun declining => ?_⟩
  · refine State.Follows.congr (x := x.withdrawPermit st) (o.follows.withdrawPermit ?_ fun st' => State.orderAfter_other) rfl rfl
    rw [State.orderAfter_self, State.orderRecord, if_pos permits, was, State.setting, store]; rfl
  · refine order.trans (List.filter_congr fun st' _ => ?_)
    rw [permits, Bool.and_true]; rfl
  · rw [permits, if_pos rfl, ← was]; exact cPend
  · rw [permits, if_pos rfl, ← counters .orderRevokes (by simp)]
    exact (State.bump_counter_self _ _).trans (raisedBy_succ 0 _).symm
  · rw [unstopped]; exact (counter _ (by simp)).trans (counters _ (by simp))
  · refine (counter c fun own => other (by simp [own])).trans (counters c fun mem => other ?_)
    simp at mem ⊢
    tauto
  · have eq := x.withdrawPermit_plain (st := st) (.inr notReplay)
    rw [eq]
    exact ⟨rfl, rfl, rfl, fun c mem => State.bump_counter_other (s := (x.withdrawn st).give (.pass .stageChange)) _ _
      fun own => by simp [← own] at mem⟩
  · exact (declining.withdrawPermit new permits was).congr rfl (counter _ (by simp))

/-- The order stop of one more stage of the list, with the order stops due before it. -/
theorem State.Ordered.orderStop (o : s.Ordered x done waits) (new : st ∉ done) (busy : (s.stage st).state ≠ .idle) :
    s.Ordered (x.orderStop st) (if (s.orderPermits st || s.orderStops st) && x.stopRoom then done ++ [st] else done)
      (if (s.orderPermits st || s.orderStops st) && !x.stopRoom then waits + 1 else waits) := by
  have was := o.stage new busy
  have ordered : x.stopOrdered st = s.stopOrdered st := by
    unfold State.stopOrdered ShedOrder.matchesStage State.unit
    rw [was, o.frame]
  have moves := State.orderStop_moves st x
  have token : s.orderFrame st = { stage := st, reason := .order, token := (x.stage st).token.getD 0 } := by
    rw [State.orderFrame, was]
  by_cases permits : s.orderPermits st = true
  · have granted : (x.stage st).state = .granted := by rw [was]; exact s.orderPermits_granted permits
    have due : s.stopOrdered st = true := by
      simp only [State.orderPermits, Bool.and_eq_true] at permits; exact permits.1
    have eq : x.orderStop st = (x.shedRevoke st .order .orderRevokes).1 := by
      rw [State.orderStop, if_pos (ordered.trans due)]; simp only [granted]
    rw [eq] at moves ⊢
    rw [permits, Bool.true_or, Bool.true_and, Bool.true_and]
    cases room : x.stopRoom with
    | true =>
      rw [State.shedRevoke_sent room granted, ← token] at moves ⊢
      exact o.next (o.revokeStep new permits was) room moves
    | false => rw [State.shedRevoke_waits room]; exact o.wait
  · have unpermitted : s.orderPermits st = false := Bool.eq_false_of_not_eq_true permits
    by_cases stops : s.orderStops st = true
    · have settled : (x.stage st).settled = true := by rw [was]; exact s.orderStops_settled stops
      have due : s.stopOrdered st = true := by
        simp only [State.orderStops, Bool.and_eq_true] at stops; exact stops.1
      have eq : x.orderStop st = (x.shedStop st .order .orderStops).1 := by
        rw [State.orderStop, if_pos (ordered.trans due)]
        simp only [Stage.settled_running settled, settled, if_true]
      rw [eq] at moves ⊢
      rw [stops, Bool.or_true, Bool.true_and, Bool.true_and]
      cases room : x.stopRoom with
      | true =>
        rw [State.shedStop_sent room settled, ← token] at moves ⊢
        exact o.next (o.stopStep stops was) room moves
      | false => rw [State.shedStop_waits room]; exact o.wait
    · have unstopped : s.orderStops st = false := Bool.eq_false_of_not_eq_true stops
      have eq : x.orderStop st = x := x.orderStop_undue (by rw [State.orderPermits, ordered, was]; exact unpermitted)
        (by rw [State.orderStops, ordered, was]; exact unstopped)
      rw [eq, unpermitted, unstopped]
      exact o

end

/-- The order stops of a list: those due are taken from its first on, as far as there is room, and the others wait (R110). -/
theorem State.foldl_orderStop (s : State) (l : List StageId) (distinct : l.Nodup) (busy : ∀ st ∈ l, (s.stage st).state ≠ .idle) :
    s.Ordered (l.foldl State.orderStop s) ((s.orderDue l).take s.stopPlaces) ((s.orderDue l).drop s.stopPlaces).length := by
  induction l using List.reverseRecOn with
  | nil =>
    have none : s.orderDue [] = [] := rfl
    rw [none, List.take_nil, List.drop_nil]
    exact .refl s
  | append_singleton l st ih =>
    obtain ⟨new, distinct⟩ := List.nodup_cons.mp (List.perm_append_singleton st l |>.nodup_iff.mp distinct)
    have o := ih distinct fun st mem => busy st (List.mem_append_left _ mem)
    have step := o.orderStop (st := st) (fun mem => new (List.mem_of_mem_filter (List.mem_of_mem_take mem))) (busy st (by simp))
    have places := o.places
    have room := State.stopRoom_places (l.foldl State.orderStop s)
    have due : s.orderDue (l ++ [st]) = s.orderDue l ++ if s.orderPermits st || s.orderStops st then [st] else [] := filter_concat ..
    rw [List.length_take] at places
    rw [List.foldl_concat, due]
    cases isDue : s.orderPermits st || s.orderStops st with
    | false =>
      rw [isDue] at step
      simpa using step
    | true =>
      rw [isDue] at step
      cases free : (l.foldl State.orderStop s).stopRoom with
      | true =>
        have short : (s.orderDue l).length < s.stopPlaces := by
          have := room.mp free
          omega
        rw [free] at step
        rw [if_pos rfl, List.take_of_length_le (by rw [List.length_append, List.length_singleton]; omega),
          List.drop_of_length_le (by rw [List.length_append, List.length_singleton]; omega)]
        rw [List.take_of_length_le (by omega), List.drop_of_length_le (by omega)] at step
        exact step
      | false =>
        have long : s.stopPlaces ≤ (s.orderDue l).length := by
          have : ¬ 0 < (l.foldl State.orderStop s).stopPlaces := fun h => by rw [room.mpr h] at free; cases free
          omega
        rw [free] at step
        rw [if_pos rfl, List.take_append_of_le_length long, List.drop_append_of_le_length long, List.length_append]
        exact step

/-- The order stops of a check (R110). -/
theorem State.shedOrders_ordered {s : State} (exact_ : s.stages.runOrderExact) :
    s.Ordered s.shedOrders ((s.orderDue s.stages.runOrder).take s.stopPlaces)
      ((s.orderDue s.stages.runOrder).drop s.stopPlaces).length :=
  s.foldl_orderStop _ exact_.1 fun st mem idle => by
    have listed := (exact_.2 st.unit st.slot).mp mem
    rw [show s.stages.get { unit := st.unit, slot := st.slot } = s.stage st from rfl, idle] at listed
    cases listed

end Sys2Proof.Machine
end

section
/-! Proofs/DemandSheds.lean: the demand shed and the displacement (R111 to R115, O59). -/

namespace Sys2Proof.Machine

/-- What a check does after its order stops: the demand shed, and the displacement if that sent no STOP (R108). -/
def State.shedRest (s : State) : State := if s.demandShed.2 then s.demandShed.1 else s.demandShed.1.displacementShed

theorem State.checkCause_eq {s : State} (admits : s.mode.admits = true) (onBus : s.onBus = true) :
    s.checkCause = s.shedOrders.shedRest := by
  have made : (s.mode.admits && s.onBus) = true := by rw [admits, onBus]; rfl
  rw [State.checkCause, if_pos made]; rfl

theorem State.checkCause_none {s : State} (h : s.mode.admits = false ∨ s.onBus = false) : s.checkCause = s :=
  if_neg (by rcases h with h | h <;> simp [h])

/-- The stage has a permit of a unit's call. -/
def Stage.revocable (r : Stage) : Bool := r.state == .granted && !r.rosterFlag

section
variable {s : State}

/-! ### The victims -/

theorem State.revokeVictim_none : s.revokeVictim = none ↔ ∀ st ∈ s.stages.runOrder, (s.stage st).revocable = false := by
  rw [State.revokeVictim, List.find?_eq_none]
  simp only [List.mem_reverse, Bool.not_eq_true]
  exact Iff.rfl

theorem State.revokeVictim_some {st : StageId} (h : s.revokeVictim = some st) :
    st ∈ s.stages.runOrder ∧ (s.stage st).state = .granted ∧ (s.stage st).rosterFlag = false := by
  have found := List.find?_some h
  simp only [Bool.and_eq_true, beq_iff_eq, Bool.not_eq_true'] at found
  exact ⟨List.mem_reverse.mp (List.mem_of_find?_eq_some h), found⟩

/-- The latest of the run order list is revoked (R112). -/
theorem State.revokeVictim_latest {pre post : List StageId} {st : StageId} (run : s.stages.runOrder = pre ++ st :: post)
    (own : (s.stage st).revocable = true) (later : ∀ x ∈ post, (s.stage x).revocable = false) : s.revokeVictim = some st := by
  have reversed : s.stages.runOrder.reverse = post.reverse ++ st :: pre.reverse := by rw [run]; simp
  exact List.find?_eq_some_iff_append.mpr
    ⟨own, _, _, reversed, fun x mem => (Bool.not_eq_true' _).mpr (later x (List.mem_reverse.mp mem))⟩

/-- The class number by which the demand shed chooses. -/
def State.shedClass (s : State) (st : StageId) : Nat := (s.stage st).working.shedClass

theorem State.worst_kept {b : StageId} {l : List StageId} (least : ∀ x ∈ l, s.shedClass x ≤ s.shedClass b) :
    l.foldl s.worse (some b) = some b := by
  induction l with
  | nil => rfl
  | cons x l ih =>
    have kept : s.worse (some b) x = some b := if_neg (Nat.not_lt.mpr (least x (by simp)))
    rw [List.foldl_cons, kept]
    exact ih fun y mem => least y (by simp [mem])

theorem State.worst_mem (l : List StageId) (best : Option StageId) :
    l.foldl s.worse best = best ∨ ∃ st ∈ l, l.foldl s.worse best = some st := by
  induction l generalizing best with
  | nil => exact .inl rfl
  | cons x l ih =>
    rw [List.foldl_cons]
    rcases ih (s.worse best x) with h | ⟨st, mem, h⟩
    · have step : s.worse best x = best ∨ s.worse best x = some x := by
        cases best with
        | none => exact .inr rfl
        | some b =>
          by_cases higher : s.shedClass b < s.shedClass x
          · exact .inr (if_pos higher)
          · exact .inl (if_neg higher)
      rw [h]
      exact step.imp_right fun taken => ⟨x, by simp, taken⟩
    · exact .inr ⟨st, by simp [mem], h⟩

theorem State.worst_some {l : List StageId} (some : l ≠ []) : ∃ st ∈ l, l.foldl s.worse none = .some st := by
  obtain ⟨x, l, rfl⟩ := List.exists_cons_of_ne_nil some
  rw [List.foldl_cons]
  rcases State.worst_mem (s := s) l (.some x) with h | ⟨st, mem, h⟩
  · exact ⟨x, by simp, h⟩
  · exact ⟨st, by simp [mem], h⟩

theorem State.stopVictim_none : s.stopVictim = none ↔ ∀ st ∈ s.stages.runOrder, (s.stage st).settled = false := by
  refine ⟨fun none => ?_, fun unsettled => ?_⟩
  · by_contra h
    have some : (s.stages.runOrder.filter fun st => (s.stage st).settled) ≠ [] := fun empty => h fun st mem =>
      Bool.eq_false_of_not_eq_true (List.filter_eq_nil_iff.mp empty st mem)
    obtain ⟨st, -, found⟩ := State.worst_some (s := s) some
    rw [State.stopVictim, found] at none
    cases none
  · have empty : (s.stages.runOrder.filter fun st => (s.stage st).settled) = [] :=
      List.filter_eq_nil_iff.mpr fun st mem => by rw [unsettled st mem]; simp
    rw [State.stopVictim, empty]; rfl

theorem State.stopVictim_some {st : StageId} (h : s.stopVictim = some st) :
    st ∈ s.stages.runOrder ∧ (s.stage st).settled = true := by
  rcases State.worst_mem (s := s) (s.stages.runOrder.filter fun st => (s.stage st).settled) none with none | ⟨st', mem, some⟩
  · rw [State.stopVictim, none] at h; cases h
  · rw [State.stopVictim, some] at h
    cases h
    exact List.mem_filter.mp mem

/-- The worst class, and the earliest of it, is stopped (R113). -/
theorem State.stopVictim_worst {pre post : List StageId} {st : StageId} (run : s.stages.runOrder = pre ++ st :: post)
    (own : (s.stage st).settled = true) (earlier : ∀ x ∈ pre, (s.stage x).settled = true → s.shedClass x < s.shedClass st)
    (later : ∀ x ∈ post, (s.stage x).settled = true → s.shedClass x ≤ s.shedClass st) : s.stopVictim = some st := by
  have listed : (s.stages.runOrder.filter fun st => (s.stage st).settled) =
      (pre.filter fun st => (s.stage st).settled) ++ st :: post.filter fun st => (s.stage st).settled := by
    rw [run, List.filter_append]
    exact congrArg _ (List.filter_cons_of_pos (p := fun st => (s.stage st).settled) own)
  have first : s.worse ((pre.filter fun st => (s.stage st).settled).foldl s.worse none) st = some st := by
    rcases State.worst_mem (s := s) (pre.filter fun st => (s.stage st).settled) none with none | ⟨b, mem, some⟩
    · rw [none]; rfl
    · obtain ⟨before, settled⟩ := List.mem_filter.mp mem
      rw [some]; exact if_pos (earlier b before settled)
  rw [State.stopVictim, listed, List.foldl_append, List.foldl_cons, first]
  exact State.worst_kept fun x mem => later x (List.mem_filter.mp mem).1 (List.mem_filter.mp mem).2

theorem State.displaceVictim_none : s.displaceVictim = none ↔
    ∀ st ∈ s.stages.runOrder, ((s.stage st).settled && (s.stage st).working.shedClass == 3) = false := by
  rw [State.displaceVictim, List.find?_eq_none]
  simp only [Bool.not_eq_true]

theorem State.displaceVictim_some {st : StageId} (h : s.displaceVictim = some st) :
    st ∈ s.stages.runOrder ∧ (s.stage st).settled = true := by
  have found := List.find?_some h
  simp only [Bool.and_eq_true] at found
  exact ⟨List.mem_of_find?_eq_some h, found.1⟩

/-- The earliest settled RUNNING stage of class 3 is displaced (R114). -/
theorem State.displaceVictim_earliest {pre post : List StageId} {st : StageId} (run : s.stages.runOrder = pre ++ st :: post)
    (own : ((s.stage st).settled && (s.stage st).working.shedClass == 3) = true)
    (earlier : ∀ x ∈ pre, ((s.stage x).settled && (s.stage x).working.shedClass == 3) = false) : s.displaceVictim = some st := by
  exact List.find?_eq_some_iff_append.mpr ⟨own, _, _, run, fun x mem => (Bool.not_eq_true' _).mpr (earlier x mem)⟩

/-! ### The two sheds, with and without room (R109, R111, R114) -/

/-- The shed persistence count has come to the shed delay (R111). -/
def State.demandDue (s : State) : Bool := decide (s.setting .shedDelay ≤ s.account.persistence)

/-- The demand shed has a stage to revoke or to stop (R112, R113). -/
def State.hasVictim (s : State) : Bool :=
  s.stages.runOrder.any fun st => (s.stage st).settled || (s.stage st).revocable

/-- A head that does not fit asks for a displacement, and there is a stage to displace (R114). -/
def State.displaces (s : State) : Bool :=
  (s.arbiter.marker.any fun m => decide (s.headroom - s.setting .guardBand < m.load)) && s.shed.holdOff == 0 &&
    s.stages.runOrder.any fun st => (s.stage st).settled && (s.stage st).working.shedClass == 3

theorem State.demandShed_early (early : s.demandDue = false) : s.demandShed = (s, false) :=
  if_pos (Nat.lt_of_not_le (of_decide_eq_false early))

section
variable (due : s.demandDue = true)
include due

theorem State.demandShed_due : s.demandShed =
    let tried := match s.revokeVictim with
      | some st => s.shedRevoke st .demand .demandRevokes
      | none => match s.stopVictim with
        | some st => s.shedStop st .demand .demandStops
        | none => ((s.bump .shedUnavailable).clearPersistence, false)
    (if tried.2 then tried.1.clearPersistence else tried.1, tried.2) :=
  if_neg (Nat.not_lt.mpr (of_decide_eq_true due))

theorem State.demandShed_revokes {st : StageId} (victim : s.revokeVictim = some st) : s.demandShed =
    let tried := s.shedRevoke st .demand .demandRevokes
    (if tried.2 then tried.1.clearPersistence else tried.1, tried.2) := by
  rw [State.demandShed_due due, victim]

theorem State.demandShed_stops {st : StageId} (none : s.revokeVictim = none) (victim : s.stopVictim = some st) : s.demandShed =
    let tried := s.shedStop st .demand .demandStops
    (if tried.2 then tried.1.clearPersistence else tried.1, tried.2) := by
  rw [State.demandShed_due due, none, victim]

theorem State.demandShed_unavailable (none : s.hasVictim = false) :
    s.demandShed = ((s.bump .shedUnavailable).clearPersistence, false) := by
  have neither : ∀ st ∈ s.stages.runOrder, (s.stage st).settled = false ∧ (s.stage st).revocable = false := fun st mem => by
    have h := List.any_eq_false.mp none st mem
    rw [Bool.not_eq_true, Bool.or_eq_false_iff] at h
    exact h
  have unrevoked : s.revokeVictim = .none := State.revokeVictim_none.mpr fun st mem => (neither st mem).2
  have unstopped : s.stopVictim = .none := State.stopVictim_none.mpr fun st mem => (neither st mem).1
  rw [State.demandShed_due due, unrevoked, unstopped]; rfl

/-- Without room a demand shed with a victim waits (R109). -/
theorem State.demandShed_waits (room : s.stopRoom = false) (some : s.hasVictim = true) :
    s.demandShed = (s.bump .shedsWaiting, false) := by
  cases revoked : s.revokeVictim with
  | some st => rw [State.demandShed_revokes due revoked, State.shedRevoke_waits room]; rfl
  | none =>
    cases stopped : s.stopVictim with
    | some st => rw [State.demandShed_stops due revoked stopped, State.shedStop_waits room]; rfl
    | none =>
      obtain ⟨st, mem, victim⟩ := List.any_eq_true.mp some
      rw [State.revokeVictim_none.mp revoked st mem, State.stopVictim_none.mp stopped st mem] at victim
      cases victim

end

theorem State.displacementShed_none (none : s.displaces = false) : s.displacementShed = s := by
  unfold State.displacementShed
  split
  · rfl
  · next m marker =>
    split
    · next asked =>
      have empty : s.displaceVictim = .none := State.displaceVictim_none.mpr fun st mem => by
        by_contra victim
        rw [State.displaces, marker] at none
        have some : (s.stages.runOrder.any fun st => (s.stage st).settled && (s.stage st).working.shedClass == 3) = true :=
          List.any_eq_true.mpr ⟨st, mem, Bool.eq_true_of_not_eq_false victim⟩
        rw [some, asked.2] at none
        simp [asked.1] at none
      rw [empty]
    · rfl

theorem State.displacementShed_some (some : s.displaces = true) : ∃ st, s.displaceVictim = .some st ∧ s.displacementShed =
    let tried := s.shedStop st .displace .displacementStops
    if tried.2 then tried.1.onShed fun d => { d with holdOff := tried.1.settingTime .shedDelay } else tried.1 := by
  simp only [State.displaces, Bool.and_eq_true, beq_iff_eq] at some
  obtain ⟨⟨marked, holdOff⟩, victim⟩ := some
  obtain ⟨m, marker⟩ : ∃ m, s.arbiter.marker = .some m :=
    Option.ne_none_iff_exists'.mp fun none => by rw [none] at marked; cases marked
  have unfit : decide (s.headroom - s.setting .guardBand < m.load) = true := by rw [marker] at marked; exact marked
  cases found : s.displaceVictim with
  | none =>
    obtain ⟨st, mem, own⟩ := List.any_eq_true.mp victim
    rw [State.displaceVictim_none.mp found st mem] at own
    cases own
  | some st =>
    refine ⟨st, rfl, ?_⟩
    rw [State.displacementShed, marker]
    simp only
    rw [if_pos ⟨of_decide_eq_true unfit, holdOff⟩, found]

theorem State.displacementShed_waits (room : s.stopRoom = false) (some : s.displaces = true) :
    s.displacementShed = s.bump .shedsWaiting := by
  obtain ⟨st, -, eq⟩ := State.displacementShed_some some
  rw [eq, State.shedStop_waits room]; rfl

end

end Sys2Proof.Machine
end

section
/-! Proofs/ShedsWaiting.lean: what the sheds after the order stops leave, with and without room (R108, R109, O59). -/

namespace Sys2Proof.Machine

variable {s y z t : State}

theorem State.shedRest_unsent (unsent : y.demandShed = (z, false)) : y.shedRest = z.displacementShed := by
  rw [State.shedRest, unsent]; rfl

theorem State.shedRest_sent (sent : y.demandShed = (z, true)) : y.shedRest = z := by
  rw [State.shedRest, sent]; rfl

/-! ### Without room -/

/-- From y to t the sheds have found no room: one that waits or that has no victim is counted (R109, R113). -/
structure State.Waited (y t : State) (waits unavailable : Nat) (persistence : Nat) : Prop where
  frame : t = { y with counters := t.counters, account := { y.account with persistence := persistence } }
  waiting : t.counter .shedsWaiting = raisedBy waits (y.counter .shedsWaiting)
  unavailable : t.counter .shedUnavailable = raisedBy unavailable (y.counter .shedUnavailable)
  counters : ∀ c : Counter, c ≠ .shedsWaiting → c ≠ .shedUnavailable → t.counter c = y.counter c

theorem State.Waited.refl (y : State) : y.Waited y 0 0 y.account.persistence := ⟨rfl, rfl, rfl, fun _ _ _ => rfl⟩

theorem State.Waited.wait {waits unavailable persistence : Nat} (w : y.Waited t waits unavailable persistence) :
    y.Waited (t.bump .shedsWaiting) (waits + 1) unavailable persistence where
  frame := (congrArg (fun x : State => { x with counters := (t.bump .shedsWaiting).counters }) w.frame).trans rfl
  waiting := by rw [raisedBy_succ, ← w.waiting]; exact t.bump_counter_self _
  unavailable := (t.bump_counter_other _ _ (by simp)).trans w.unavailable
  counters c other other' := (t.bump_counter_other _ _ (Ne.symm other)).trans (w.counters c other other')

theorem State.Waited.none (y : State) : y.Waited ((y.bump .shedUnavailable).clearPersistence) 0 1 0 where
  frame := rfl
  waiting := y.bump_counter_other _ _ (by simp)
  unavailable := (y.bump_counter_self _).trans (raisedBy_succ 0 _).symm
  counters c _ other := y.bump_counter_other _ _ (Ne.symm other)

theorem State.displaces_congr (account : z.account = { y.account with persistence := z.account.persistence })
    (stages : z.stages = y.stages) (arbiter : z.arbiter = y.arbiter) (shed : z.shed = y.shed) (store : z.store = y.store) :
    z.displaces = y.displaces := by
  have headroom : z.headroom = y.headroom := by rw [State.headroom, account, stages]; rfl
  have stage : ∀ st, z.stage st = y.stage st := fun st => by rw [State.stage, stages]; rfl
  have setting : z.setting .guardBand = y.setting .guardBand := by rw [State.setting, store]; rfl
  simp only [State.displaces, stage]
  rw [arbiter, shed, headroom, setting, stages]

/-- Without room both sheds wait, where they have a victim (R109). -/
theorem State.shedRest_waits (room : y.stopRoom = false) :
    y.Waited y.shedRest ((y.demandDue && y.hasVictim).toNat + y.displaces.toNat) (y.demandDue && !y.hasVictim).toNat
      (if y.demandDue && !y.hasVictim then 0 else y.account.persistence) := by
  have rest : ∀ (z : State) (waits unavailable persistence : Nat), y.demandShed = (z, false) →
      y.Waited z waits unavailable persistence → y.Waited y.shedRest (waits + y.displaces.toNat) unavailable persistence := by
    intro z waits unavailable persistence unsent w
    have frame := w.frame
    have same : z.displaces = y.displaces := State.displaces_congr
      ((congrArg State.account frame).trans (congrArg (fun n => { y.account with persistence := n })
        (congrArg (·.account.persistence) frame :).symm))
      (by rw [frame]) (by rw [frame]) (by rw [frame]) (by rw [frame])
    have full : z.stopRoom = false := (State.stopRoom_congr (by rw [frame])).trans room
    rw [State.shedRest_unsent unsent]
    cases displaces : y.displaces with
    | false => rw [State.displacementShed_none (same.trans displaces)]; exact w
    | true => rw [State.displacementShed_waits full (same.trans displaces)]; exact w.wait
  cases due : y.demandDue with
  | false => exact rest y 0 0 _ (State.demandShed_early due) (.refl y)
  | true =>
    cases victim : y.hasVictim with
    | false => exact rest _ 0 1 0 (State.demandShed_unavailable due victim) (.none y)
    | true => exact rest _ 1 0 _ (State.demandShed_waits due room victim) (State.Waited.refl y).wait

/-! ### The one STOP they can send -/

/-- From y to t these STOPs have been placed; only stages GRANTED or settled have changed, and not the mode controller. -/
structure State.MoreStops (y t : State) (more : List StopFrame) : Prop where
  link : t.link = (y.stopsPlaced more).link
  modes : t.modes = y.modes
  stage : ∀ st, (y.stage st).state ≠ .granted → (y.stage st).settled = false → t.stage st = y.stage st
  counters : ∀ c ∉ [Counter.demandRevokes, .demandStops, .displacementStops, .shedsWaiting, .shedUnavailable],
    t.counter c = y.counter c

theorem State.stopsPlaced_link_congr (link : z.link = y.link) (l : List StopFrame) :
    (z.stopsPlaced l).link = (y.stopsPlaced l).link := by
  induction l using List.reverseRecOn with
  | nil => exact link
  | append_singleton l f ih =>
    rw [State.stopsPlaced_concat, State.stopsPlaced_concat]
    exact State.placeStop_link_congr ih f

theorem State.MoreStops.trans {first second : List StopFrame} (a : y.MoreStops z first) (b : z.MoreStops t second) :
    y.MoreStops t (first ++ second) where
  link := by
    have placed : y.stopsPlaced (first ++ second) = (y.stopsPlaced first).stopsPlaced second := List.foldl_append
    rw [placed, b.link]
    exact State.stopsPlaced_link_congr a.link second
  modes := b.modes.trans a.modes
  stage st notGranted unsettled := by
    have same := a.stage st notGranted unsettled
    exact (b.stage st (by rw [same]; exact notGranted) (by rw [same]; exact unsettled)).trans same
  counters c other := (b.counters c other).trans (a.counters c other)

/-- A change of the counters alone, or of blocks that no STOP concerns. -/
theorem State.MoreStops.none (link : t.link = y.link) (modes : t.modes = y.modes) (stages : t.stages = y.stages)
    (counters : ∀ c ∉ [Counter.demandRevokes, .demandStops, .displacementStops, .shedsWaiting, .shedUnavailable],
      t.counter c = y.counter c) : y.MoreStops t [] :=
  ⟨link, modes, fun st _ _ => by rw [State.stage, stages]; rfl, counters⟩

theorem State.MoreStops.bump (y : State) {c : Counter}
    (own : c ∈ [Counter.demandRevokes, .demandStops, .displacementStops, .shedsWaiting, .shedUnavailable]) :
    y.MoreStops (y.bump c) [] :=
  .none rfl rfl rfl fun _ other => y.bump_counter_other _ _ fun same => other (same ▸ own)

theorem State.MoreStops.placed (f : StopFrame) : y.MoreStops (y.placeStop f) [f] :=
  ⟨rfl, by simp, fun st _ _ => by simp [State.stage], fun c _ => by simp [State.counter]⟩

/-- From y to t at most one STOP has been placed, not one of an order, and none where `sent` is false. -/
def State.SendsOne (y t : State) (sent : Bool) : Prop :=
  ∃ more, y.MoreStops t more ∧ (∀ f ∈ more, f.reason ≠ .order) ∧ more.length ≤ 1 ∧ (sent = false → more = [])

theorem State.MoreStops.sendsNone {sent : Bool} (h : y.MoreStops t []) : y.SendsOne t sent :=
  ⟨[], h, by simp, by simp, fun _ => rfl⟩

theorem State.MoreStops.sendsOne {f : StopFrame} (h : y.MoreStops t [f]) (reason : f.reason ≠ .order) : y.SendsOne t true :=
  ⟨[f], h, by simpa using reason, by simp, fun unsent => by cases unsent⟩

/-- Blocks that no STOP concerns may change after it. -/
theorem State.SendsOne.then {sent : Bool} (h : y.SendsOne z sent) (rest : z.MoreStops t []) : y.SendsOne t sent := by
  obtain ⟨more, stops, reasons, one, unsent⟩ := h
  exact ⟨more, List.append_nil more ▸ stops.trans rest, reasons, one, unsent⟩

theorem State.SendsOne.shedStop (st : StageId) {reason : StopReason} (unordered : reason ≠ .order) {counter : Counter}
    (own : counter ∈ [Counter.demandRevokes, .demandStops, .displacementStops, .shedsWaiting, .shedUnavailable]) (y : State) :
    y.SendsOne (y.shedStop st reason counter).1 (y.shedStop st reason counter).2 := by
  by_cases room : y.stopRoom = true
  · by_cases settled : (y.stage st).settled = true
    · let z := (y.onStage st (Stage.stoppedBy (y.settingTime .stopTimeout) reason)).give (.pass .stageChange)
      have stopped : y.MoreStops z [] := ⟨rfl, rfl, fun st' _ unsettled =>
        y.stage_onStage_other _ fun same => (by rw [same, settled] at unsettled; cases unsettled), fun _ _ => rfl⟩
      rw [State.shedStop_sent room settled]
      exact ((stopped.trans (.bump z own)).trans (.placed _)).sendsOne unordered
    · rw [State.shedStop_refused room (Bool.eq_false_of_not_eq_true settled)]
      exact (State.MoreStops.none rfl rfl rfl fun _ _ => rfl).sendsNone
  · rw [State.shedStop_waits (Bool.eq_false_of_not_eq_true room)]
    exact (State.MoreStops.bump y (by simp)).sendsNone

/-- The revoke of a permit of a unit's call. -/
theorem State.SendsOne.shedRevoke {st : StageId} (plain : (y.stage st).rosterFlag = false) :
    y.SendsOne (y.shedRevoke st .demand .demandRevokes).1 (y.shedRevoke st .demand .demandRevokes).2 := by
  by_cases room : y.stopRoom = true
  · by_cases granted : (y.stage st).state = .granted
    · let z := (y.withdrawn st).give (.pass .stageChange)
      have withdrawn : y.MoreStops z [] := ⟨rfl, rfl, fun st' notGranted _ =>
        y.stage_onStage_other (Stage.withdrawnBy (y.store.profile st) (y.setting .confirmTimeout))
          fun same => notGranted (same ▸ granted), fun _ _ => rfl⟩
      rw [State.shedRevoke_sent room granted, State.withdrawPermit_plain (.inl plain)]
      exact ((withdrawn.trans (.bump z (c := .demandRevokes) (by simp))).trans (.placed _)).sendsOne (by simp)
    · rw [State.shedRevoke_refused room granted]
      exact (State.MoreStops.none rfl rfl rfl fun _ _ => rfl).sendsNone
  · rw [State.shedRevoke_waits (Bool.eq_false_of_not_eq_true room)]
    exact (State.MoreStops.bump y (by simp)).sendsNone

theorem State.SendsOne.demandShed (y : State) : y.SendsOne y.demandShed.1 y.demandShed.2 := by
  have tried : ∀ tried : State × Bool, y.SendsOne tried.1 tried.2 →
      y.demandShed = (if tried.2 then tried.1.clearPersistence else tried.1, tried.2) → y.SendsOne y.demandShed.1 y.demandShed.2 := by
    intro tried sends eq
    rw [eq]
    dsimp only
    split
    · exact sends.then (.none rfl rfl rfl fun _ _ => rfl)
    · exact sends
  cases due : y.demandDue with
  | false =>
    rw [State.demandShed_early due]
    exact (State.MoreStops.none rfl rfl rfl fun _ _ => rfl).sendsNone
  | true =>
    cases revoked : y.revokeVictim with
    | some st =>
      obtain ⟨-, -, plain⟩ := State.revokeVictim_some revoked
      exact tried _ (State.SendsOne.shedRevoke plain) (State.demandShed_revokes due revoked)
    | none =>
      cases stopped : y.stopVictim with
      | some st => exact tried _ (State.SendsOne.shedStop st (by simp) (by simp) y) (State.demandShed_stops due revoked stopped)
      | none =>
        have unavailable : y.MoreStops ((y.bump .shedUnavailable).clearPersistence) [] :=
          (State.MoreStops.bump y (c := .shedUnavailable) (by simp)).trans (.none rfl rfl rfl fun _ _ => rfl)
        rw [State.demandShed_due due, revoked, stopped]
        exact unavailable.sendsNone

theorem State.SendsOne.displacementShed (y : State) : ∃ sent, y.SendsOne y.displacementShed sent := by
  cases displaces : y.displaces with
  | false =>
    rw [State.displacementShed_none displaces]
    exact ⟨false, (State.MoreStops.none rfl rfl rfl fun _ _ => rfl).sendsNone⟩
  | true =>
    obtain ⟨st, -, eq⟩ := State.displacementShed_some displaces
    have sends := State.SendsOne.shedStop st (reason := .displace) (by simp) (counter := .displacementStops) (by simp) y
    rw [eq]
    dsimp only
    split
    · exact ⟨_, sends.then (.none rfl rfl rfl fun _ _ => rfl)⟩
    · exact ⟨_, sends⟩

/-- After the order stops a check sends at most one more STOP (R108). -/
theorem State.SendsOne.shedRest (y : State) : ∃ sent, y.SendsOne y.shedRest sent := by
  have first := State.SendsOne.demandShed y
  cases sent : y.demandShed.2 with
  | true =>
    rw [State.shedRest, sent]
    exact ⟨_, first⟩
  | false =>
    obtain ⟨none, stops, -, -, unsent⟩ := first
    obtain ⟨sent', more, stops', reasons, one, unsent'⟩ := State.SendsOne.displacementShed y.demandShed.1
    rw [unsent sent] at stops
    rw [State.shedRest, sent]
    exact ⟨sent', more, stops.trans stops', reasons, one, unsent'⟩

end Sys2Proof.Machine
end

section
/-! Proofs/ShedChecks.lean: a shed check, from its order stops to the displacement (R108, O59). -/

namespace Sys2Proof.Machine

/-! ### After the order stops -/

section
variable {s y : State} {done : List StageId} {waits : Nat}

theorem State.Ordered.replay (o : s.Ordered y done waits) (inReplay : y.mode = .replay) : s.mode = .replay := by
  by_contra notReplay
  have same := (o.quiet notReplay).2.1
  rw [State.mode, same] at inReplay
  exact notReplay inReplay

/-- Each stage has its record, or, in REPLAY, the feeder has QUEUED it since. -/
theorem State.Ordered.leftOrFed (o : s.Ordered y done waits) (st : StageId) : s.leftOrFed y st (s.orderAfter done st) := by
  rcases o.follows with ⟨inReplay, h⟩ | ⟨-, h⟩
  · exact (h st).imp_right fun ⟨idle, queued, fed⟩ => ⟨o.replay inReplay, inReplay, idle, queued, List.mem_of_mem_drop fed⟩
  · exact .inl (h st)

theorem State.orderRecord_permits {st : StageId} (permits : s.orderPermits st = true) :
    s.orderRecord st = (s.stage st).withdrawnBy (s.store.profile st) (s.setting .confirmTimeout) := if_pos permits

theorem State.orderRecord_stops {st : StageId} (stops : s.orderStops st = true) :
    s.orderRecord st = (s.stage st).stoppedBy (s.settingTime .stopTimeout) .order :=
  if_neg (by simp [s.orderStops_unpermitted stops])

/-- A stage stopped is STOPPING. -/
theorem State.Ordered.stage_stopped (o : s.Ordered y done waits) {st : StageId} (mem : st ∈ done) (stops : s.orderStops st = true) :
    y.stage st = (s.stage st).stoppedBy (s.settingTime .stopTimeout) .order := by
  have left := o.leftOrFed st
  rw [State.orderAfter, if_pos mem, State.orderRecord_stops stops] at left
  exact left.resolve_right fun ⟨_, _, idle, _⟩ => by cases idle

theorem State.Ordered.stopOrdered (o : s.Ordered y done waits) {st : StageId} (same : y.stage st = s.stage st) :
    y.stopOrdered st = s.stopOrdered st := by
  unfold State.stopOrdered ShedOrder.matchesStage State.unit
  rw [same, o.frame]

variable (exact_ : s.stages.runOrderExact)
include exact_

theorem State.runOrder_busy {st : StageId} (mem : st ∈ s.stages.runOrder) : (s.stage st).state ≠ .idle := fun idle => by
  have listed := (exact_.2 st.unit st.slot).mp mem
  rw [show s.stages.get { unit := st.unit, slot := st.slot } = s.stage st from rfl, idle] at listed
  cases listed

theorem State.mem_runOrder {st : StageId} (listed : (s.stage st).state.listed = true) : st ∈ s.stages.runOrder :=
  (exact_.2 st.unit st.slot).mpr listed

/-- A stage the list still holds: it was stopped, or it is as it was. -/
theorem State.Ordered.listed (o : s.Ordered y done waits) (due : ∀ st ∈ done, s.orderPermits st = true ∨ s.orderStops st = true)
    {st : StageId} (mem : st ∈ y.stages.runOrder) :
    (st ∈ done ∧ s.orderStops st = true ∧ (y.stage st).state = .stopping) ∨ (st ∉ done ∧ y.stage st = s.stage st) := by
  rw [o.runOrder] at mem
  obtain ⟨run, unrevoked⟩ := List.mem_filter.mp mem
  by_cases reached : st ∈ done
  · have stops := (due st reached).resolve_left fun permits => by simp [reached, permits] at unrevoked
    exact .inl ⟨reached, stops, by rw [o.stage_stopped reached stops]; rfl⟩
  · exact .inr ⟨reached, o.stage reached (State.runOrder_busy exact_ run)⟩

end

section
variable {s : State}

theorem State.foldl_orderStop_undue (l : List StageId)
    (none : ∀ st ∈ l, s.orderPermits st = false ∧ s.orderStops st = false) : l.foldl State.orderStop s = s := by
  induction l with
  | nil => rfl
  | cons st l ih =>
    obtain ⟨unpermitted, unstopped⟩ := none st (by simp)
    rw [List.foldl_cons, s.orderStop_undue unpermitted unstopped]
    exact ih fun st' mem => none st' (by simp [mem])

theorem State.mem_orderDue {l : List StageId} {st : StageId} :
    st ∈ s.orderDue l ↔ st ∈ l ∧ (s.orderPermits st = true ∨ s.orderStops st = true) := by
  rw [State.orderDue, List.mem_filter, Bool.or_eq_true]

/-- With every order stop taken none is due: the check goes on as one of its own (R108). -/
theorem State.shedOrders_settled (exact_ : s.stages.runOrderExact)
    (all : (s.orderDue s.stages.runOrder).drop s.stopPlaces = []) : s.shedOrders.shedOrders = s.shedOrders := by
  have o := State.shedOrders_ordered exact_
  have reached : (s.orderDue s.stages.runOrder).take s.stopPlaces = s.orderDue s.stages.runOrder :=
    List.take_of_length_le (List.drop_eq_nil_iff.mp all)
  rw [reached] at o
  refine State.foldl_orderStop_undue _ fun st mem => ?_
  rcases o.listed exact_ (fun st mem => (State.mem_orderDue.mp mem).2) mem with ⟨-, -, stopping⟩ | ⟨unreached, same⟩
  · simp [State.orderPermits, State.orderStops, Stage.settled, stopping]
  · rw [o.runOrder] at mem
    have undue := fun h => unreached (State.mem_orderDue.mpr ⟨List.mem_of_mem_filter mem, h⟩)
    have ordered := o.stopOrdered same
    rw [State.orderPermits, State.orderStops, ordered, same]
    exact ⟨Bool.eq_false_of_not_eq_true fun h => undue (.inl h), Bool.eq_false_of_not_eq_true fun h => undue (.inr h)⟩

/-- Order stops begin and end no mode without passes, and leave the link ON_BUS. -/
theorem State.shedOrders_admits (admits : s.mode.admits = true) (onBus : s.onBus = true) :
    s.shedOrders.mode.admits = true ∧ s.shedOrders.onBus = true := by
  have drained := State.Drained.shedOrders s
  refine ⟨?_, ?_⟩
  · by_cases inReplay : s.mode = .replay
    · rcases drained.replay inReplay with h | ⟨h, -⟩ <;> (rw [h]; rfl)
    · rw [State.mode, drained.modes inReplay]; exact admits
  · obtain ⟨added, link⟩ := drained.queue
    have state : s.shedOrders.link.state = s.link.state := (congrArg Link.state link :)
    rw [State.onBus, state]; exact onBus

theorem State.orderDue_countP {test : StageId → Bool} (within : ∀ st, test st = true → s.orderPermits st = true ∨ s.orderStops st = true)
    (l : List StageId) : (s.orderDue l).countP test = l.countP test := by
  rw [State.orderDue, List.countP_filter]
  refine List.countP_congr fun st _ => ?_
  rw [Bool.and_eq_true, Bool.or_eq_true]
  exact ⟨fun h => h.1, fun h => ⟨h, within st h⟩⟩

end

/-! ### The check with no order stop due -/

section
variable {s : State}

theorem State.displaces_unmarked (none : s.arbiter.marker = none) : s.displaces = false := by
  rw [State.displaces, none]; rfl

theorem State.Waited.unmarked {y t : State} {waits unavailable persistence : Nat} (w : y.Waited t waits unavailable persistence)
    (none : y.arbiter.marker = .none) : t.displacementShed = t := by
  refine State.displacementShed_none (State.displaces_unmarked ?_)
  rw [w.frame]; exact none

theorem State.shedRest_full (full : s.stopRoom = false) (due : s.demandDue = true) (victim : s.hasVictim = true)
    (none : s.arbiter.marker = none) : s.shedRest = s.bump .shedsWaiting := by
  rw [State.shedRest_unsent (State.demandShed_waits due full victim)]
  exact (State.Waited.refl s).wait.unmarked none

theorem State.clearPersistence_placeStop (x : State) (f : StopFrame) : (x.placeStop f).clearPersistence =
    { x.placeStop f with account := { x.account with persistence := 0 } } := by
  have account : (x.placeStop f).account = x.account := by simp
  rw [← account]; rfl

/-- The revoke of a demand shed (R112). -/
theorem State.shedRest_revoked {st : StageId} (room : s.stopRoom = true) (due : s.demandDue = true) (victim : s.revokeVictim = some st) :
    s.shedRest =
      let x : State := { s with stages := s.stages.put st ((s.stage st).withdrawnBy (s.store.profile st) (s.setting .confirmTimeout)),
                                counters := (s.bump .demandRevokes).counters, causes := s.causes ++ [.pass .stageChange] }
      { x.placeStop { stage := st, reason := .demand, token := (s.stage st).token.getD 0 } with
        account := { s.account with persistence := 0 } } := by
  obtain ⟨-, granted, plain⟩ := State.revokeVictim_some victim
  have sent := State.demandShed_revokes due victim
  rw [State.shedRevoke_sent room granted, State.withdrawPermit_plain (.inl plain)] at sent
  exact (State.shedRest_sent sent).trans (State.clearPersistence_placeStop _ _)

/-- The stop of a demand shed (R113). -/
theorem State.shedRest_stopped {st : StageId} (room : s.stopRoom = true) (due : s.demandDue = true) (none : s.revokeVictim = none)
    (victim : s.stopVictim = some st) :
    s.shedRest =
      let x : State := { s with stages := s.stages.put st ((s.stage st).stoppedBy (s.settingTime .stopTimeout) .demand),
                                counters := (s.bump .demandStops).counters, causes := s.causes ++ [.pass .stageChange] }
      { x.placeStop { stage := st, reason := .demand, token := (s.stage st).token.getD 0 } with
        account := { s.account with persistence := 0 } } := by
  obtain ⟨-, settled⟩ := State.stopVictim_some victim
  have sent := State.demandShed_stops due none victim
  rw [State.shedStop_sent room settled] at sent
  exact (State.shedRest_sent sent).trans (State.clearPersistence_placeStop _ _)

theorem State.hasVictim_none (none : ∀ st ∈ s.stages.runOrder, (s.stage st).revocable = false ∧ (s.stage st).settled = false) :
    s.hasVictim = false :=
  List.any_eq_false.mpr fun st mem => by simp [none st mem]

theorem State.displaces_unsettled
    (none : ∀ st ∈ s.stages.runOrder, ((s.stage st).settled && (s.stage st).working.shedClass == 3) = false) : s.displaces = false := by
  have unfound : (s.stages.runOrder.any fun st => (s.stage st).settled && (s.stage st).working.shedClass == 3) = false :=
    List.any_eq_false.mpr fun st mem => by rw [none st mem]; simp
  rw [State.displaces, unfound, Bool.and_false]

/-- With no stage to shed the count returns to 0 (R113). -/
theorem State.shedRest_unavailable (due : s.demandDue = true)
    (none : ∀ st ∈ s.stages.runOrder, (s.stage st).revocable = false ∧ (s.stage st).settled = false) :
    s.shedRest = (s.bump .shedUnavailable).clearPersistence := by
  rw [State.shedRest_unsent (State.demandShed_unavailable due (State.hasVictim_none none))]
  refine State.displacementShed_none (State.displaces_unsettled fun st mem => ?_)
  exact (congrArg (fun b => b && _) (none st mem).2).trans (Bool.false_and _)

theorem State.shedRest_early (early : s.demandDue = false) : s.shedRest = s.displacementShed :=
  State.shedRest_unsent (State.demandShed_early early)

theorem State.placeStop_onShed (x : State) (f : StopFrame) (g : Shed → Shed) : (x.placeStop f).onShed g = (x.onShed g).placeStop f := by
  unfold State.placeStop
  have link : (x.onShed g).link = x.link := rfl
  rw [link]
  split <;> rfl

/-- The stop of a displacement, which loads the hold-off (R114, R115). -/
theorem State.displacementShed_stopped {st : StageId} (room : s.stopRoom = true) (displaces : s.displaces = true)
    (victim : s.displaceVictim = some st) :
    s.displacementShed =
      let x : State := { s with stages := s.stages.put st ((s.stage st).stoppedBy (s.settingTime .stopTimeout) .displace),
                                counters := (s.bump .displacementStops).counters, causes := s.causes ++ [.pass .stageChange],
                                shed := { s.shed with holdOff := s.settingTime .shedDelay } }
      x.placeStop { stage := st, reason := .displace, token := (s.stage st).token.getD 0 } := by
  obtain ⟨st', found, eq⟩ := State.displacementShed_some displaces
  cases victim.symm.trans found
  obtain ⟨-, settled⟩ := State.displaceVictim_some victim
  rw [eq, State.shedStop_sent room settled]
  let z := ((s.onStage st (Stage.stoppedBy (s.settingTime .stopTimeout) .displace)).give (.pass .stageChange)).bump .displacementStops
  let f : StopFrame := { stage := st, reason := .displace, token := (s.stage st).token.getD 0 }
  have store : (z.placeStop f).store = z.store := by simp
  have time : (z.placeStop f).settingTime .shedDelay = s.settingTime .shedDelay := by
    rw [State.settingTime, State.setting, store]; rfl
  exact (congrArg (fun n => (z.placeStop f).onShed fun d => { d with holdOff := n }) time).trans (State.placeStop_onShed _ _ _)

end

end Sys2Proof.Machine
end

section
/-! Proofs/Sheds.lean: what a shed check leaves (O59). -/

namespace Sys2Proof.Machine

section
variable {s : State}

theorem State.mem_reached {l : List StageId} {n : Nat} {st : StageId} (mem : st ∈ (s.orderDue l).take n) :
    s.orderPermits st = true ∨ s.orderStops st = true := (State.mem_orderDue.mp (List.mem_of_mem_take mem)).2

/-- Without a place for the STOPs of the order stops that wait, or in a full queue, there is no room left (R109). -/
theorem State.Ordered.full {y : State} {done : List StageId} {waits : Nat} (o : s.Ordered y done waits)
    (h : done.length = s.stopPlaces ∨ s.stopPlaces = 0) : y.stopRoom = false := by
  have places := o.places
  by_contra room
  have := (State.stopRoom_places y).mp (Bool.eq_true_of_not_eq_false room)
  omega

theorem Stage.revocable_iff (r : Stage) : r.revocable = true ↔ r.state = .granted ∧ r.rosterFlag = false := by
  simp [Stage.revocable]

theorem Stage.settled_iff (r : Stage) : r.settled = true ↔ r.state = .running ∧ r.run = 0 := by
  simp [Stage.settled]

theorem State.unplaced {st : StageId} (h : ¬ ((s.stage st).settled = true ∧ (s.stage st).working.shedClass = 3)) :
    ((s.stage st).settled && (s.stage st).working.shedClass == 3) = false :=
  Bool.eq_false_of_not_eq_true fun both => h (by simpa using both)

theorem State.displaces_unasked (h : ∀ m ∈ s.arbiter.marker, (m.load : Int) ≤ s.headroom - s.setting .guardBand ∨ s.shed.holdOff ≠ 0) :
    s.displaces = false := by
  cases marker : s.arbiter.marker with
  | none => exact State.displaces_unmarked marker
  | some m =>
    rw [State.displaces, marker]
    rcases h m marker with fits | runs
    · simp [Int.not_lt.mpr fits]
    · simp [runs]

theorem State.displaces_of {m : Marker} {st : StageId} (marker : s.arbiter.marker = some m)
    (unfit : s.headroom - s.setting .guardBand < m.load) (free : s.shed.holdOff = 0) (victim : s.displaceVictim = some st) :
    s.displaces = true := by
  have found := List.find?_some victim
  have listed : (s.stages.runOrder.any fun st => (s.stage st).settled && (s.stage st).working.shedClass == 3) = true :=
    List.any_eq_true.mpr ⟨st, List.mem_of_find?_eq_some victim, found⟩
  rw [State.displaces, marker, listed, free]
  simpa using unfit

theorem State.hasVictim_of {st : StageId} (mem : st ∈ s.stages.runOrder)
    (victim : (s.stage st).settled = true ∨ (s.stage st).revocable = true) : s.hasVictim = true :=
  List.any_eq_true.mpr ⟨st, mem, by simpa using victim⟩

theorem State.orderDue_listed {st : StageId} (due : s.orderPermits st = true ∨ s.orderStops st = true) :
    (s.stage st).state.listed = true := by
  rcases due with permits | stops
  · rw [s.orderPermits_granted permits]; rfl
  · rw [Stage.settled_running (s.orderStops_settled stops)]; rfl

theorem State.Ordered.setting {y : State} {done : List StageId} {waits : Nat} (o : s.Ordered y done waits) (x : Setting) :
    y.setting x = s.setting x := by rw [State.setting, o.frame]; rfl

theorem State.Ordered.demandDue {y : State} {done : List StageId} {waits : Nat} (o : s.Ordered y done waits) :
    y.demandDue = decide (s.setting .shedDelay ≤ y.account.persistence) := by rw [State.demandDue, o.setting]

/-- A stage that could be displaced after the order stops has the class it had. -/
theorem State.Ordered.displaces {y : State} {done : List StageId} {waits : Nat} (o : s.Ordered y done waits)
    (exact_ : s.stages.runOrderExact) (due : ∀ st ∈ done, s.orderPermits st = true ∨ s.orderStops st = true) :
    y.displaces = ((y.arbiter.marker.any fun m => decide (y.headroom - s.setting .guardBand < m.load)) && y.shed.holdOff == 0 &&
      y.stages.runOrder.any fun st => (y.stage st).settled && (s.stage st).working.shedClass == 3) := by
  have classes : (y.stages.runOrder.any fun st => (y.stage st).settled && (y.stage st).working.shedClass == 3) =
      y.stages.runOrder.any fun st => (y.stage st).settled && (s.stage st).working.shedClass == 3 := by
    rw [Bool.eq_iff_iff, List.any_eq_true, List.any_eq_true]
    refine exists_congr fun st => and_congr_right fun mem => ?_
    rcases o.listed exact_ due mem with ⟨-, -, stopping⟩ | ⟨-, same⟩
    · simp [Stage.settled, stopping]
    · rw [same]
  rw [State.displaces, o.setting, classes]

/-- The roster entry of a replay permit revoked is DROPPED, or the roster is finished (R153). -/
theorem State.Ordered.dropped {y : State} {done : List StageId} {waits : Nat} (o : s.Ordered y done waits) (inReplay : s.mode = .replay)
    (roster : s.rosterExact) {st : StageId} (mem : st ∈ done) (permits : s.orderPermits st = true)
    (flag : (s.stage st).rosterFlag = true) (restored : ({ stage := st, outcome := .restored } : RosterEntry) ∈ s.modes.roster) :
    ({ stage := st, outcome := .dropped } : RosterEntry) ∈ y.modes.roster ∨ (y.mode = .coordinating ∧ y.modes.roster = []) := by
  refine (o.declining inReplay).imp_left fun ⟨_, _, entries⟩ => ?_
  have entry := (entries roster).2 st restored
  rw [if_pos ⟨mem, by rw [State.orderDeclines, permits, flag]; rfl⟩] at entry
  exact entry

end

end Sys2Proof.Machine

namespace Sys2Proof.Proofs
open Sys2Proof.Machine

/-- Settles O59: the order stops are taken one after another while there is room (`State.Ordered`), and then the demand shed and
the displacement, which send at most one more STOP (`State.SendsOne`) or wait (`State.Waited`). -/
theorem shedsAreMade : Obligations.ShedsAreMade := by
  intro s t run delay h ordered revocable stoppable cls sent spent stopping full permitted running frame revoked stopped
  have isPermitted : permitted = s.orderPermits := funext fun st => by
    simp only [permitted, ordered, State.orderPermits, State.stopOrdered, ShedOrder.matchesStage, kindInSet, Bool.and_assoc]
  have isRunning : running = s.orderStops := funext fun st => by
    simp only [running, ordered, State.orderStops, State.stopOrdered, ShedOrder.matchesStage, kindInSet, Stage.settled, Bool.and_assoc]
  clear_value permitted running
  subst isPermitted isRunning
  refine ⟨State.checkCause_none, fun exact_ => ?_, fun admits onBus exact_ few => ?_, fun admits onBus none => ?_⟩
  · intro y due room reached late counted
    have o : s.Ordered y reached late.length := State.shedOrders_ordered exact_
    refine ⟨fun st unreached => ?_, fun st mem permits => ?_, fun st mem stops => ?_, o.link, o.runOrder, o.cRun, o.cPend, o.revokes,
      o.stops, o.waiting, fun inReplay still => ?_, fun inReplay roster st mem permits flag restored => ?_, ?_, o.counters, o.frame,
      o.quiet, fun admits onBus taken => ?_, fun admits onBus none => ?_⟩
    case _ =>
      have left := o.leftOrFed st
      rw [State.orderAfter, if_neg unreached] at left
      exact left
    case _ =>
      have left := o.leftOrFed st
      rw [State.orderAfter, if_pos mem, State.orderRecord_permits permits] at left
      exact left
    case _ => exact o.stage_stopped mem stops
    case _ => exact ((o.declining inReplay).resolve_right fun ⟨left, _⟩ => by rw [still] at left; cases left).2.1
    case _ => exact o.dropped inReplay roster mem permits flag restored
    case _ =>
      obtain ⟨given, causes, own⟩ := o.notices
      refine ⟨given, causes, filter_own own (fun c is => ?_) fun c mem => ?_⟩
      · rw [beq_iff_eq.mp is]; rfl
      · rw [List.eq_of_mem_replicate mem]; rfl
    case _ =>
      obtain ⟨admits', onBus'⟩ := State.shedOrders_admits admits onBus
      refine (State.checkCause_eq admits onBus).trans ((State.checkCause_eq admits' onBus').trans ?_).symm
      rw [State.shedOrders_settled exact_ taken]
    case _ =>
      intro listed settled demand victim left displaces
      have room : y.stopRoom = false := by
        refine o.full (none.imp (fun waits => ?_) fun ⟨slot, queue⟩ => ?_)
        · have : room < due.length := Nat.lt_of_not_le fun short => waits (List.drop_of_length_le short)
          exact (List.length_take ..).trans (Nat.min_eq_left (Nat.le_of_lt this))
        · rw [State.stopPlaces, if_neg slot]; omega
      have made : t = y.shedRest := State.checkCause_eq admits onBus
      have w := State.shedRest_waits room
      rw [o.demandDue, o.displaces exact_ fun st => State.mem_reached] at w
      rw [made]
      refine ⟨w.frame, ?_, w.unavailable.trans (congrArg _ (o.counters _ (by simp))), w.counters⟩
      have waiting := w.waiting
      rw [o.waiting, raisedBy_add, ← Nat.add_assoc] at waiting
      exact waiting
  · have o := State.shedOrders_ordered exact_
    have fits : (s.orderDue run).length ≤ s.stopPlaces := by
      have := List.length_filter_le (fun st => s.orderPermits st || s.orderStops st) run
      rw [State.orderDue, State.stopPlaces]
      omega
    rw [List.take_of_length_le fits] at o
    have reached : ∀ st, s.orderPermits st = true ∨ s.orderStops st = true → st ∈ s.orderDue run := fun st due =>
      State.mem_orderDue.mpr ⟨State.mem_runOrder exact_ (State.orderDue_listed due), due⟩
    have counted : ∀ test : StageId → Bool, (∀ st, test st = true → s.orderPermits st = true ∨ s.orderStops st = true) →
        (s.orderDue run).countP test = run.countP test := fun test within => State.orderDue_countP within run
    have made : t = s.shedOrders.shedRest := State.checkCause_eq admits onBus
    obtain ⟨sent, more, stops, reasons, one, -⟩ := State.SendsOne.shedRest s.shedOrders
    rw [← made] at stops
    refine ⟨fun st permits => ⟨?_, fun inReplay roster flag restored => ?_⟩, fun st stopped => ?_, ⟨more, one, reasons, ?_⟩,
      fun inReplay still => ?_, fun some => ?_, fun some => ?_⟩
    case _ =>
      have left := o.leftOrFed st
      rw [State.orderAfter, if_pos (reached st (.inl permits)), State.orderRecord_permits permits] at left
      rcases left with same | ⟨inReplay, -, -, queued, fed⟩
      · exact .inl ((stops.stage st (by rw [same]; simp [Stage.withdrawnBy]) (by rw [same]; rfl)).trans same)
      · refine .inr ⟨inReplay, (stops.stage st (by rw [queued]; simp) (by rw [queued]; rfl)).trans queued, ?_⟩
        rw [stops.modes]; exact fed
    case _ =>
      have dropped := o.dropped inReplay roster (reached st (.inl permits)) permits flag restored
      rw [State.mode, stops.modes]; exact dropped
    case _ =>
      have same := o.stage_stopped (reached st (.inr stopped)) stopped
      exact (stops.stage st (by rw [same]; simp [Stage.stoppedBy]) (by rw [same]; rfl)).trans same
    case _ =>
      rw [stops.link, List.foldl_append]
      exact State.stopsPlaced_link_congr o.link more
    case _ =>
      rw [State.mode, stops.modes] at still
      have declined := ((o.declining inReplay).resolve_right fun ⟨left, _⟩ => by rw [State.mode, still] at left; cases left).2.1
      rw [counted s.orderDeclines fun st declines => .inl (Bool.and_eq_true_iff.mp declines).1] at declined
      exact (stops.counters _ (by simp)).trans declined
    case _ =>
      refine (stops.counters _ (by simp)).trans (o.revokes.trans ?_)
      rw [counted _ fun st => .inl]
      exact if_neg (Nat.ne_of_gt some)
    case _ =>
      refine (stops.counters _ (by simp)).trans (o.stops.trans ?_)
      rw [counted _ fun st => .inr]
      exact if_neg (Nat.ne_of_gt some)
  · have made : t = s.shedRest := by
      have undue : s.shedOrders = s := State.foldl_orderStop_undue _ none
      exact (State.checkCause_eq admits onBus).trans (by rw [undue])
    have isFull : full ↔ s.stopRoom = false := by
      rw [← Bool.not_eq_true, s.stopRoom_iff, not_or, Nat.not_lt]
    have isRevocable : ∀ st, revocable st ↔ (s.stage st).revocable = true := fun st => (Stage.revocable_iff _).symm
    have isStoppable : ∀ st, stoppable st ↔ (s.stage st).settled = true := fun st => (Stage.settled_iff _).symm
    have late : delay ≤ s.account.persistence → s.demandDue = true := fun late => decide_eq_true late
    have soon : s.account.persistence < delay → s.demandDue = false := fun early => decide_eq_false (Nat.not_le.mpr early)
    have room : ¬ full → s.stopRoom = true := fun free => Bool.eq_true_of_not_eq_false fun none => free (isFull.mpr none)
    simp only [isRevocable, isStoppable, Bool.not_eq_true]
    rw [made]
    refine ⟨fun due pre st post list own later => ?_, fun due unrevoked pre st post list own earlier later => ?_, fun due neither => ?_,
      fun early unasked => ?_, fun early unsettled => ?_, fun early free m marker unfit pre st post list own cls3 earlier => ?_⟩
    case _ =>
      have victim := State.revokeVictim_latest list own later
      have some : s.hasVictim = true := State.hasVictim_of ((congrArg (st ∈ ·) list).mpr (by simp)) (.inr own)
      refine ⟨fun unfull => ?_, fun filled unmarked => State.shedRest_full (isFull.mp filled) (late due) some unmarked⟩
      obtain ⟨-, -, plain⟩ := State.revokeVictim_some victim
      rw [State.shedRest_revoked (room unfull) (late due) victim, Stage.withdrawnBy, plain]
    case _ =>
      have victim := State.stopVictim_worst list own earlier later
      have some : s.hasVictim = true := State.hasVictim_of ((congrArg (st ∈ ·) list).mpr (by simp)) (.inl own)
      refine ⟨fun unfull => ?_, fun filled unmarked => State.shedRest_full (isFull.mp filled) (late due) some unmarked⟩
      exact State.shedRest_stopped (room unfull) (late due) (State.revokeVictim_none.mpr unrevoked) victim
    case _ => exact State.shedRest_unavailable (late due) neither
    case _ =>
      rw [State.shedRest_early (soon early)]
      exact State.displacementShed_none (State.displaces_unasked unasked)
    case _ =>
      rw [State.shedRest_early (soon early)]
      exact State.displacementShed_none (State.displaces_unsettled fun st mem => State.unplaced (unsettled st mem))
    case _ =>
      have victim := State.displaceVictim_earliest list (by rw [own]; exact beq_iff_eq.mpr cls3) fun x mem => State.unplaced (earlier x mem)
      have displaces := State.displaces_of marker unfit free victim
      rw [State.shedRest_early (soon early)]
      refine ⟨fun unfull => ?_, fun filled => State.displacementShed_waits (isFull.mp filled) displaces⟩
      exact State.displacementShed_stopped (room unfull) displaces victim

end Sys2Proof.Proofs
end

section
/-! Proofs/AccountEvents.lean: SET CEILING, the evaluation, and the expiries of the demand account's timers (O38, O52, O53). -/

namespace Sys2Proof.Machine

/-! ### What the account forms -/

theorem Metering.isEstimated_iff (m : Metering) : m.isEstimated = true ↔ m ≠ .metered := by
  cases m <;> simp [Metering.isEstimated]

theorem Metering.not_isEstimated (m : Metering) : (!m.isEstimated) = decide (m = .metered) := by
  cases m <;> simp [Metering.isEstimated]

theorem remainingTime_eq (length elapsed : Nat) : remainingTime length elapsed = max (length - elapsed) 60 := by
  unfold remainingTime
  split <;> omega

/-- The allowance: the floor of the quotient, between -65535 and the effective ceiling (R47). -/
theorem allowanceOf_eq (effective length elapsed energy : Nat) : allowanceOf effective length elapsed energy =
    max (-65535) (min (effective : Int)
      (((effective * length : Nat) - (energy : Int)) / (max (length - elapsed) 60 : Nat))) := by
  unfold allowanceOf
  rw [remainingTime_eq, Int.fdiv_eq_ediv_of_nonneg _ (Int.natCast_nonneg _), remainingEnergy]
  generalize ((effective * length : Nat) - (energy : Int)) / (max (length - elapsed) 60 : Nat) = quotient
  simp only
  omega

theorem twoBytes_wordOf (hi lo : Byte) : twoBytes (wordOf hi lo) = [hi, lo] := by
  have high : wordOf hi lo / 256 = hi.toNat := by unfold wordOf; omega
  unfold twoBytes byteOf
  rw [high]
  refine congrArg₂ (fun a b => [a, b]) (by simp) ?_
  apply BitVec.eq_of_toNat_eq
  simp [wordOf]
  omega

/-! ### The evaluation (R31) -/

theorem State.advanceInterval_eq (s : State) : s.advanceInterval = { s with account := { s.account with
    elapsed := s.account.elapsed + 1
    energy := if s.account.metering = .metered then s.account.energy
      else min 4294967295 (s.account.energy + (s.account.uncontrolled + s.stages.cRun)) } } := by
  have energy : (if s.account.metering.isEstimated then satAdd max32 s.account.energy (s.account.uncontrolled + s.stages.cRun)
      else s.account.energy) = if s.account.metering = .metered then s.account.energy
        else min 4294967295 (s.account.energy + (s.account.uncontrolled + s.stages.cRun)) := by
    simp only [Metering.isEstimated_iff, ne_eq, ite_not]; rfl
  rw [← energy]; rfl

/-- Steps 4 and 5 of an evaluation: K_eff, A and H, and the persistence by the sign of H (R45 to R49). -/
theorem State.recompute_updatePersistence (s : State) :
    let a := s.account
    let effective := a.ceiling * (100 - s.curtailPercent) / 100
    let quotient : Int := ((effective * a.intervalLength : Nat) - (a.energy : Int)) /
      (max (a.intervalLength - a.elapsed) 60 : Nat)
    let allowance := max (-65535) (min (effective : Int) quotient)
    let headroom := allowance - ((a.uncontrolled + s.stages.cRun + s.stages.cPend : Nat) : Int)
    s.recomputeAllowance.updatePersistence = { s with account := { a with
      effectiveCeiling := effective, allowance := allowance
      persistence := if headroom < 0 then min 65535 (a.persistence + 1) else 0 } } := by
  intro a effective quotient allowance headroom
  have formed : allowanceOf effective a.intervalLength a.elapsed a.energy = allowance := allowanceOf_eq ..
  have recomputed : s.recomputeAllowance =
      { s with account := { a with effectiveCeiling := effective, allowance := allowance } } := by
    rw [← formed]; rfl
  rw [recomputed]; rfl

end Sys2Proof.Machine

namespace Sys2Proof.Proofs
open Sys2Proof.Machine

/-- Settles O38: the two words of a SET CEILING are what its ANSWER carries (`twoBytes_wordOf`). -/
theorem ceilingIsSetAndLapses : Obligations.CeilingIsSetAndLapses := by
  intro s hi lo
  refine ⟨fun ⟨⟨supplied, settled⟩, onBus⟩ running => ?_, fun powered runs => ?_, fun powered stopped => ?_⟩
  · have taken : State.gatewayFrame 16 (ceilingFields [hi, lo]) (fun k => State.unlessHalted 16 (State.takeCeiling k)) s =
        s.takeCeiling (wordOf hi lo) := if_neg running
    refine (State.receive_quiet _ s supplied onBus (by rw [taken]; simpa [State.takeCeiling] using settled)).trans ?_
    rw [taken, State.takeCeiling, twoBytes_wordOf]; rfl
  · exact State.take_answers powered (if_pos runs) powered.2
  · exact State.take_answers powered (if_neg (by rw [stopped]; exact Nat.lt_irrefl 0)) powered.2

/-- Settles O52: steps 1 and 2 are `State.advanceInterval_eq`, steps 4 and 5 `State.recompute_updatePersistence`; between them the
interval closes or runs on. -/
theorem evaluationsAreMade : Obligations.EvaluationsAreMade := by
  intro s powered a energy closes unmarked percent effective length elapsed used quotient allowance headroom
  refine (State.take_supplied _ s powered.1).trans (congrArg (fun x => Host.Outcome.next (State.drain x)) ?_)
  let counted : State :=
    { s with account := { a with evaluationTimer := 1000, elapsed := a.elapsed + 1, energy := energy } }
  have isCounted : (s.onAccount fun a => { a with evaluationTimer := evaluationTime }).advanceInterval = counted :=
    State.advanceInterval_eq _
  have evaluated : ∀ x : State, counted.closeAtLength = x → x.causes = [] → s.evaluate =
      { x.recomputeAllowance.updatePersistence with causes := [.ageing, .pass .evaluation, .check .evaluation] } := by
    intro x closed none
    rw [State.evaluate, isCounted, closed]
    simp only [State.give, State.recompute_updatePersistence, none]; rfl
  by_cases reached : closes
  · by_cases byClock : unmarked
    · have closed : counted.closeAtLength = counted.boundary .clock := (if_pos reached).trans (if_pos byClock)
      rw [evaluated _ closed powered.2, State.recompute_updatePersistence]
      simp only [allowance, headroom, quotient, length, elapsed, used, reached, byClock, not_true_eq_false, and_false, if_true, if_false]
      rfl
    · have closed : counted.closeAtLength = ((counted.boundary .selfTimed).bump .missedMarks).bump .selfTimedBoundaries :=
        (if_pos reached).trans (if_neg byClock)
      rw [evaluated _ closed powered.2, State.recompute_updatePersistence]
      simp only [allowance, headroom, quotient, length, elapsed, used, reached, byClock, not_false_eq_true, and_self, if_true, if_false]
      rfl
  · have runsOn : counted.closeAtLength = counted := if_neg reached
    rw [evaluated _ runsOn powered.2, State.recompute_updatePersistence]
    simp only [allowance, headroom, quotient, length, elapsed, used, reached, false_and, if_false]
    rfl

/-- Settles O53: at a rate window's end by the flag, at a silence expiry by the metering state and the load that runs. -/
theorem meterTimersExpire : Obligations.MeterTimersExpire := by
  intro s powered a mean opened reloaded
  have flag := a.metering.not_isEstimated
  refine ⟨fun metered => ?_, fun estimated => ?_, fun metered runs => ?_, fun idle => ?_⟩
  · refine State.take_answers powered (effect := State.rateWindowEnds) ?_ powered.2
    have excess : ((mean : Int) - s.stages.cRun).toNat = mean - s.stages.cRun := by omega
    have metered' : s.account.windowMetered = true := metered
    rw [excess]
    simp only [State.rateWindowEnds, State.onAccount, metered', if_true, opened, ← flag]
    rfl
  · refine State.take_answers powered (effect := State.rateWindowEnds) ?_ powered.2
    have estimated' : s.account.windowMetered = false := estimated
    simp only [State.rateWindowEnds, State.onAccount, estimated', Bool.false_eq_true, if_false, opened, ← flag]
    rfl
  · exact State.take_answers powered (if_pos ⟨metered, runs⟩) powered.2
  · refine State.take_answers powered (if_neg ?_) powered.2
    rintro ⟨metered, runs⟩
    exact idle.elim (fun other => other metered) fun none => absurd none (Nat.ne_of_gt runs)

end Sys2Proof.Proofs
end

section
/-! Proofs/SiteLines.lean: the meter pulse line and the interval mark line (O55). -/

namespace Sys2Proof.Machine

theorem minimumWidth_code {code width : Nat} (is : [10, 20, 40, 80][code]? = some width) : minimumWidth code = width := by
  match code, is with
  | 0, is | 1, is | 2, is | 3, is => exact Option.some.inj is

theorem maximumWidth_code {code width : Nat} (is : [250, 500, 1000, 2000][code]? = some width) : maximumWidth code = width := by
  match code, is with
  | 0, is | 1, is | 2, is | 3, is => exact Option.some.inj is

/-- A valid pulse (R35, R41). -/
theorem State.validPulse_eq (s : State) : s.validPulse = { s with
    account := { s.account with
      metering := .metered, energy := min 4294967295 (s.account.energy + 36 * s.setting .pulseWeight)
      windowEnergy := min 4294967295 (s.account.windowEnergy + 36 * s.setting .pulseWeight)
      silence := 1000 * s.setting .silenceTimeout }
    counters := (s.bump .validPulses).counters } := by
  rw [Nat.mul_comm 36]; rfl

/-- The allowance at the start of an interval is not negative (R46, R47). -/
theorem allowanceOf_start (effective length : Nat) : allowanceOf effective length 0 0 =
    min (effective : Int) (((effective * length : Nat) : Int) / (max length 60 : Nat)) := by
  have positive : (0 : Int) ≤ ((effective * length : Nat) : Int) / (max length 60 : Nat) :=
    Int.ediv_nonneg (Int.natCast_nonneg _) (Int.natCast_nonneg _)
  rw [allowanceOf_eq, Nat.sub_zero, Int.natCast_zero, Int.sub_zero]
  omega

/-- An interval boundary (R32): K_eff and A are formed for the interval that begins. -/
theorem State.boundary_eq (cause : BoundaryCause) (s : State) :
    let a := s.account
    let length := a.pendingLength.getD a.intervalLength
    let effective := a.ceiling * (100 - s.curtailPercent) / 100
    s.boundary cause = { s with account := { a with
      closed := { energy := a.energy, elapsed := a.elapsed, cause := cause }, energy := 0, elapsed := 0
      intervalLength := length, pendingLength := none, effectiveCeiling := effective
      allowance := min (effective : Int) (((effective * length : Nat) : Int) / (max length 60 : Nat)) } } := by
  intro a length effective
  rw [← allowanceOf_start]; rfl

section
variable {s : State} (powered : s.powered) {line : DebouncedLine} {level : Bool}
include powered

/-- A level change of a pin, as its line sees it (R52). -/
theorem State.debounce_answers {t : State} (quiet : t.causes = [])
    (eq : (if s.pins.levelOf line = level then s.onPins (Pins.setLevel line level)
      else (s.onPins (Pins.setLevel line level)).debounceStarts line level) = t) :
    exec (.debouncePinChange line level) s = .next t :=
  State.pinChange_answers powered (pins := Pins.setLevel line level)
    (effect := fun s' => if s.pins.levelOf line = level then s' else s'.debounceStarts line level) eq quiet

/-- A command that names the level the pin has is no change (log entry 10). -/
theorem State.exec_debounce_same (same : s.pins.levelOf line = level) :
    exec (.debouncePinChange line level) s = .next s := by
  have kept : s.onPins (Pins.setLevel line level) = s := by
    subst same; cases line <;> rfl
  exact State.debounce_answers powered powered.2 ((if_pos same).trans kept)

end

end Sys2Proof.Machine

namespace Sys2Proof.Proofs
open Sys2Proof.Machine

/-- Settles O55: each edge and each width by the state of its line. -/
theorem pulseAndMarkLinesRun : Obligations.PulseAndMarkLinesRun := by
  intro s level powered a onPulse onMark weight pulsed released lowPulse lowMark
  have settled : s.causes = [] := powered.2
  have asserts : ∀ {t : State}, s.pulseAsserted = t → t.causes = [] → exec .pulseAssertionEdge s = .next t :=
    fun eq quiet => State.take_answers powered eq quiet
  have narrow : ∀ {t : State}, s.pulseMinimum = t → t.causes = [] → exec .pulseMinimumWidthReached s = .next t :=
    fun eq quiet => State.take_answers powered eq quiet
  have wide : ∀ {t : State}, s.pulseMaximum = t → t.causes = [] → exec .pulseMaximumWidthReached s = .next t :=
    fun eq quiet => State.take_answers powered eq quiet
  have releases : ∀ {t : State}, s.pulseReleased = t → t.causes = [] → exec .pulseReleaseEdge s = .next t :=
    fun eq quiet => State.take_answers powered eq quiet
  have marks : ∀ {t : State}, s.markAsserted = t → t.causes = [] → exec .markAssertionEdge s = .next t :=
    fun eq quiet => State.take_answers powered eq quiet
  have unmarks : ∀ {t : State}, s.markReleased = t → t.causes = [] → exec .markReleaseEdge s = .next t :=
    fun eq quiet => State.take_answers powered eq quiet
  have qualifies : ∀ {t : State}, s.markQualifies = t → t.causes = [] → exec .markQualified s = .next t :=
    fun eq quiet => State.take_answers powered eq quiet
  refine ⟨fun same => State.exec_debounce_same powered same, fun new => ?_,
    fun same => State.exec_debounce_same powered same, fun new => ?_,
    fun state => ⟨?_, ?_⟩, fun other => ?_, fun state => ⟨fun width code => ?_, ?_⟩, fun other => ?_,
    fun state => ⟨fun width code => ?_, ?_⟩, fun other => ?_, fun state => ?_, fun state => ⟨?_, ?_⟩, fun other => ?_,
    fun state => ?_, fun state => ?_, fun other => ?_, fun state => ?_⟩
  · exact State.debounce_answers powered settled ((if_neg new).trans rfl)
  · exact State.debounce_answers powered settled ((if_neg new).trans rfl)
  · exact asserts (by simp only [State.pulseAsserted, state]; rfl) settled
  · exact releases (by simp only [State.pulseReleased, state]) settled
  · refine asserts ?_ settled
    unfold State.pulseAsserted
    split
    · next is => exact absurd is other
    all_goals rfl
  · refine narrow ?_ settled
    rw [← minimumWidth_code code]
    exact if_pos state
  · exact releases (by simp only [State.pulseReleased, state]; rfl) settled
  · exact narrow (if_neg other) settled
  · refine wide ?_ settled
    rw [← maximumWidth_code code]
    refine (if_pos state).trans ?_
    rw [State.pulseStuck, State.validPulse_eq]; rfl
  · exact releases (by simp only [State.pulseReleased, state, State.validPulse_eq]; rfl) settled
  · exact wide (if_neg other) settled
  · exact releases (by simp only [State.pulseReleased, state]; rfl) settled
  · exact marks (by simp only [State.markAsserted, state]; rfl) settled
  · exact unmarks (by simp only [State.markReleased, state]) settled
  · refine marks ?_ settled
    unfold State.markAsserted
    split
    · next is => exact absurd is other
    all_goals rfl
  · exact unmarks (by simp only [State.markReleased, state]; rfl) settled
  · exact unmarks (by simp only [State.markReleased, state]; rfl) settled
  · exact qualifies (if_neg other) settled
  · intro marked percent effective length quotient
    have delivered : s.markQualifies = marked.intervalMark := if_pos state
    refine ⟨fun unused => ?_, fun used early => ?_, fun used late => ?_⟩
    · exact qualifies (delivered.trans (if_pos unused)) settled
    · exact qualifies (delivered.trans ((if_neg used).trans (if_neg (Nat.not_le.mpr early)))) settled
    · exact qualifies (delivered.trans ((if_neg used).trans ((if_pos late).trans (State.boundary_eq .mark marked)))) settled

end Sys2Proof.Proofs
end

section
/-! Proofs/Transmissions.lean: the end of a transmission attempt, the return to the bus, and the site beacon (O50). -/

namespace Sys2Proof.Machine

/-- An attempt that can be the one that ends now (R162). -/
theorem Link.attempting_iff (l : Link) (source : TxSource) : l.attempting source = true ↔
    l.state = .onBus ∧ ((source = .stopSlot ∧ l.stopSlot ≠ none) ∨
      (source = .queueHead ∧ l.headAttempt = true ∧ l.queue ≠ [])) := by
  cases source <;> simp [Link.attempting, Option.isSome_iff_ne_none]

theorem clampHeadroom_eq (h : Int) : clampHeadroom h = if h < -32767 then -32767 else if 32767 < h then 32767 else h := by
  unfold clampHeadroom
  omega

theorem State.transmission_none {s : State} {source : TxSource} (none : s.link.attempting source = false) (outcome : TxOutcome) :
    s.transmission source outcome = s := if_neg (by simp [none])

section
variable {s : State} {source : TxSource} (attempt : s.link.attempting source = true)
include attempt

theorem State.transmission_sent : s.transmission source .sent = s.frameSent source := if_pos attempt

theorem State.transmission_lost : s.transmission source .lostArbitration = s.attemptEnds := if_pos attempt

theorem State.transmission_failed : s.transmission source .failed = s.frameFailed := if_pos attempt

end

/-- A failure that leaves the link ON_BUS (R163). -/
theorem State.frameFailed_few {s : State} (few : s.link.failures + 1 < 32) : s.frameFailed =
    ((s.onLink fun l => { l with failures := l.failures + 1 }).attemptEnds).bump .failedTransmissions :=
  if_neg (Nat.not_le.mpr few)

/-- The fallback output as it is formed in a mode and a link state (R155). -/
theorem State.formFallback_eq {s : State} {asserted : Bool}
    (formed : asserted = (decide (s.mode = .startup ∨ s.mode = .halted) || !s.onBus)) :
    s.formFallback = { s with modes := { s.modes with fallback := asserted } } := by
  have eq : (s.modes.mode == .startup || s.modes.mode == .halted || s.link.state == .offBus) = asserted := by
    rw [formed, s.offBus_eq, State.mode]
    cases s.modes.mode <;> rfl
  rw [← eq]; rfl

/-- The 32nd consecutive failure (R163). -/
theorem State.frameFailed_many {s : State} (many : 32 ≤ s.link.failures + 1) : s.frameFailed = { s with
    link := { s.link with state := .offBus, failures := 0, offBusTimer := 10000, headAttempt := false }
    modes := { s.modes with fallback := true }
    counters := ((s.bump .failedTransmissions).bump .busOffEntries).counters } := by
  have failed : s.frameFailed = (((s.onLink fun l => { l with failures := l.failures + 1 }).attemptEnds).bump
      .failedTransmissions).goOffBus := if_pos many
  rw [failed, State.goOffBus, State.formFallback_eq (asserted := true) (by simp [State.onBus])]
  simp only [State.bump, State.onLink, State.attemptEnds]
  rfl

/-- The link's return to the bus, with its two notices (R163). -/
theorem State.returnToBus_off {s : State} (off : s.link.state = .offBus) (settled : s.causes = []) : s.returnToBus = { s with
    link := { s.link with state := .onBus, offBusTimer := 0, headAttempt := s.link.headReady }
    modes := { s.modes with fallback := decide (s.mode = .startup ∨ s.mode = .halted) }
    causes := [.pass .linkSpace, .check .linkReturned] } := by
  have formed := State.formFallback_eq (s := (s.onLink fun l => { l with state := .onBus, offBusTimer := 0 }).attemptEnds)
    (asserted := decide (s.mode = .startup ∨ s.mode = .halted)) (Bool.or_false _).symm
  rw [State.returnToBus, off]
  simp only
  rw [formed]
  simp only [State.give, State.attemptEnds, State.onLink, settled]
  rfl

/-- A beacon placed below 20 notices (R164). -/
theorem State.siteBeaconDue_placed {s : State} (onBus : s.onBus = true) (room : s.link.queue.length < 20) : s.siteBeaconDue =
    (s.onLink fun l => { l with beaconTimer := 2000 }).place (.siteBeacon s.beacon) := by
  have below : (s.onLink fun l => { l with beaconTimer := 2000 }).link.queue.length < 24 := Nat.lt_trans room (by decide)
  rw [State.place_eq_enqueue below]
  exact if_pos ⟨onBus, room⟩

end Sys2Proof.Machine

namespace Sys2Proof.Proofs
open Sys2Proof.Machine

/-- Settles O50: an attempt's end by its outcome (R162, R163), the off-bus timer's, and the beacon (R164). -/
theorem transmissionsEnd : Obligations.TransmissionsEnd := by
  refine ⟨?_, ?_⟩
  · intro s source outcome powered attempting command ended
    have settled : s.causes = [] := powered.2
    have attempt : attempting → s.link.attempting source = true := (s.link.attempting_iff source).mpr
    refine ⟨fun none => ?_, fun is lost => ?_, fun is sent slot => ?_, fun is sent head => ?_,
      fun is failed few => ?_, fun is failed many => ?_, fun onBus => ?_, fun off => ?_⟩
    · have none' := Bool.eq_false_of_not_eq_true fun is => none ((s.link.attempting_iff source).mp is)
      exact State.take_answers powered (State.transmission_none none' outcome) settled
    · subst lost
      exact State.take_answers powered (State.transmission_lost (attempt is)) settled
    · subst sent slot
      refine (State.take_supplied _ s powered.1).trans ?_
      rw [State.transmission_sent (attempt is)]; rfl
    · subst sent head
      intro t
      refine ⟨fun full => ?_, fun mark => ?_, fun unfull unmarked => ?_⟩
      · refine (State.take_supplied _ s powered.1).trans ?_
        rw [State.transmission_sent (attempt is), State.frameSent, if_pos (by exact full)]; rfl
      · refine (State.take_supplied _ s powered.1).trans ?_
        rw [State.transmission_sent (attempt is), State.frameSent, if_neg (by rw [mark]; decide), if_pos (by exact mark)]; rfl
      · refine State.take_answers powered ((State.transmission_sent (attempt is)).trans ?_) settled
        rw [State.frameSent, if_neg (by exact unfull), if_neg (by exact unmarked)]; rfl
    · subst failed
      exact State.take_answers powered ((State.transmission_failed (attempt is)).trans (State.frameFailed_few few)) settled
    · subst failed
      exact State.take_answers powered ((State.transmission_failed (attempt is)).trans (State.frameFailed_many many)) settled
    · refine State.take_answers powered (effect := State.returnToBus) ?_ settled
      rw [State.returnToBus, onBus]
    · refine (State.take_supplied _ s powered.1).trans ?_
      rw [State.returnToBus_off off settled]; rfl
  · intro s powered h reloaded
    refine ⟨fun onBus room => ?_, fun none => ?_⟩
    · refine State.take_answers powered ((State.siteBeaconDue_placed onBus room).trans ?_) (by simpa using powered.2)
      rw [State.beacon, clampHeadroom_eq]; rfl
    · refine State.take_answers powered (if_neg ?_) powered.2
      rintro ⟨onBus, room⟩
      exact none.elim (fun off => by rw [off] at onBus; cases onBus) fun full => absurd room (Nat.not_lt.mpr full)

end Sys2Proof.Proofs
end

section
/-! Proofs/SiteEvents.lean: what each command does to the demand account and the site lines: one of the events of spec/02 and spec/03,
or nothing but that a shed may have cleared the persistence count (`exec_site`). -/

namespace Sys2Proof.Machine

/-- From s to t the site lines, the line curtail level and the settings are the same, and so is the demand account, unless a shed
has cleared its persistence count (R111). -/
structure State.Sited (s t : State) : Prop where
  account : t.account = s.account ∨ t.account = { s.account with persistence := 0 }
  lines : t.lines = s.lines
  lineLevel : t.shed.lineLevel = s.shed.lineLevel
  settings : t.store.settings = s.store.settings

namespace State.Sited

theorem of_same {s t : State} (h : t.account = s.account ∧ t.lines = s.lines ∧ t.shed.lineLevel = s.shed.lineLevel ∧
    t.store.settings = s.store.settings) : s.Sited t := ⟨.inl h.1, h.2.1, h.2.2.1, h.2.2.2⟩

theorem refl (s : State) : s.Sited s := of_same ⟨rfl, rfl, rfl, rfl⟩

theorem trans {s t x : State} (a : s.Sited t) (b : t.Sited x) : s.Sited x where
  account := by
    rcases a.account with same | cleared <;> rcases b.account with same' | cleared' <;> simp_all
  lines := b.lines.trans a.lines
  lineLevel := b.lineLevel.trans a.lineLevel
  settings := b.settings.trans a.settings

theorem foldl {α : Type} {f : State → α → State} (each : ∀ x a, State.Sited x (f x a)) (l : List α) (s : State) :
    s.Sited (l.foldl f s) := by
  induction l generalizing s with
  | nil => exact refl s
  | cons a rest ih => exact (each s a).trans (ih _)

theorem bump (c : Counter) (s : State) : s.Sited (s.bump c) := of_same (by simp)

theorem answer (kind : Nat) (status : Status) (data : List Byte) (s : State) : s.Sited (s.answer kind status data) :=
  of_same (by simp)

theorem sendDefer (st : StageId) (reason : DeferReason) (s : State) : s.Sited (s.sendDefer st reason) := of_same (by simp)

theorem give (c : Cause) (s : State) : s.Sited (s.give c) := of_same (by simp)

theorem onStage (st : StageId) (f : Stage → Stage) (s : State) : s.Sited (s.onStage st f) := of_same (by simp)

theorem onUnit (u : UnitId) (f : UnitRec → UnitRec) (s : State) : s.Sited (s.onUnit u f) := of_same (by simp)

theorem onLink (f : Link → Link) (s : State) : s.Sited (s.onLink f) := of_same (by simp)

theorem formAttention (s : State) : s.Sited s.formAttention := of_same (by simp)

theorem startOperation (o : Operation) (s : State) : s.Sited (s.startOperation o) := of_same ⟨rfl, rfl, rfl, rfl⟩

/-- What acts only on a condition, or only while a timer runs. -/
theorem when {p : Prop} [Decidable p] {s t : State} (h : s.Sited t) : s.Sited (if p then t else s) := by
  split
  · exact h
  · exact refl s

theorem unitError (u : UnitId) (s : State) : s.Sited (s.unitError u) := of_same (by simp)

/-! ### Acting on notices -/

theorem clearPersistence (s : State) : s.Sited s.clearPersistence := ⟨.inr rfl, rfl, rfl, rfl⟩

theorem demandShed (s : State) : s.Sited s.demandShed.1 := by
  have cleared : ∀ (x : State) (sent : Bool), s.Sited x → s.Sited (if sent then x.clearPersistence else x) := by
    intro x sent h
    split
    · exact h.trans (clearPersistence x)
    · exact h
  unfold State.demandShed
  split
  · exact refl s
  · refine cleared _ _ ?_
    split
    · exact of_same (by simp)
    · split
      · exact of_same (by simp)
      · exact (bump _ s).trans (clearPersistence _)

theorem displacementShed (s : State) : s.Sited s.displacementShed := by
  have lineLevel : s.displacementShed.shed = { s.shed with holdOff := s.displacementShed.shed.holdOff } :=
    (State.Drained.displacementShed s).shed
  exact of_same ⟨by simp, by simp, by rw [lineLevel], by simp⟩

theorem checkCause (s : State) : s.Sited s.checkCause := by
  have sheds : s.Sited s.shedOrders.demandShed.1 := (of_same (by simp)).trans (demandShed _)
  simp only [State.checkCause]
  split
  · split
    · exact sheds
    · exact sheds.trans (displacementShed _)
  · exact refl s

theorem act (c : Cause) (s : State) : s.Sited (s.act c) := by
  cases c with
  | ageing => exact of_same (by simp [State.act])
  | pass cause => exact of_same (by simp [State.act])
  | check cause => exact checkCause s

theorem drainWith (choose : Nat → Nat) (fuel : Nat) (s : State) : s.Sited (State.drainWith choose fuel s) := by
  induction fuel generalizing s with
  | zero => exact of_same ⟨rfl, rfl, rfl, rfl⟩
  | succ n ih =>
    simp only [State.drainWith]
    split
    · exact refl s
    · have taken : ∀ (causes : List Cause) (drawn : Nat), s.Sited { s with causes := causes, drawn := drawn } :=
        fun _ _ => of_same ⟨rfl, rfl, rfl, rfl⟩
      exact (taken _ _).trans ((act _ _).trans (ih _))

theorem drain (s : State) : s.Sited s.drain := drainWith _ _ s

/-! ### Frames of units -/

theorem takeCall (st : StageId) (s : State) : s.Sited (s.takeCall st) := by
  refine of_same ?_
  simp only [State.takeCall]
  repeat' split
  all_goals simp [State.acceptCall]

theorem takeWithdraw (st : StageId) (s : State) : s.Sited (s.takeWithdraw st) := by
  refine of_same ?_
  simp only [State.takeWithdraw]
  split <;> simp

theorem badToken (st : StageId) (s : State) : s.Sited (s.badToken st) := by
  simp only [State.badToken]
  split
  · exact sendDefer st _ s
  · exact (sendDefer st _ s).trans (unitError _ _)

theorem takeStarted (st : StageId) (token : Nat) (s : State) : s.Sited (s.takeStarted st token) := by
  have confirmed : s.Sited (s.confirmStage st) := of_same (by simp)
  have adopted : s.Sited (if (s.stage st).working.kind = .none then s.sendDefer st .noProfile else s.adoptStage st (some token)) := by
    split
    · exact sendDefer st _ s
    · exact of_same (by simp)
  simp only [State.takeStarted]
  split
  · split
    case h_1 => exact confirmed
    case h_2 | h_3 | h_7 => exact refl s
    all_goals exact badToken st s
  split
  · split
    case h_1 | h_2 => exact adopted
    case h_3 => exact confirmed
    case h_6 => exact badToken st s
    all_goals exact refl s
  · split
    case h_7 => exact refl s
    all_goals exact badToken st s

theorem takeStopped (st : StageId) (s : State) : s.Sited (s.takeStopped st) := by
  refine of_same ?_
  simp only [State.takeStopped]
  split <;> simp

theorem takeTrip (u : UnitId) (bitmap : Byte) (cause : Nat) (s : State) : s.Sited (s.takeTrip u bitmap cause) := by
  have tripped := foldl (f := fun s k => State.tripStage cause { unit := u, slot := k } s) (fun _ _ => of_same (by simp))
    (slotsOf bitmap) s
  exact ((tripped.trans (onUnit u _ _)).trans (formAttention _)).trans (bump _ _)

theorem takeTripReset (u : UnitId) (bitmap : Byte) (s : State) : s.Sited (s.takeTripReset u bitmap) :=
  foldl (fun _ _ => of_same (by simp)) _ s

theorem makePresent (u : UnitId) (s : State) : s.Sited (s.makePresent u) := of_same (by simp)

theorem reconcile (u : UnitId) (bitmap : Byte) (s : State) : s.Sited (s.reconcile u bitmap) := of_same (by simp)

theorem firstBeacon (u : UnitId) (bitmap : Byte) (s : State) : s.Sited (s.firstBeacon u bitmap) :=
  (makePresent u s).trans (reconcile u bitmap _)

theorem takeBeacon (u : UnitId) (bitmap : Byte) (s : State) : s.Sited (s.takeBeacon u bitmap) := by
  simp only [State.takeBeacon]
  split
  · split
    · exact refl s
    · exact firstBeacon u bitmap s
  · split
    · exact (bump _ s).trans (unitError u _)
    · exact (onUnit u _ s).trans (reconcile u bitmap _)
    · exact refl s
  · exact ((makePresent u s).trans (bump _ _)).trans (reconcile u bitmap _)
  · split
    · exact firstBeacon u bitmap s
    · exact refl s

/-! ### Gateway frames -/

theorem takeCurtail (level : Nat) (s : State) : s.Sited (s.takeCurtail level) := by
  have formed : ∀ x : State, x.formLambda.shed.lineLevel = x.shed.lineLevel := fun x => by
    simp only [State.formLambda]
    split <;> rfl
  exact (of_same (by simp [formed])).trans (answer _ _ _ _)

theorem onOrders (g : List ShedOrder → List ShedOrder) (s : State) :
    s.Sited (s.onShed fun d => { d with orders := g d.orders }) := of_same ⟨rfl, rfl, rfl, rfl⟩

theorem orderTaken (action : OrderAction) (s : State) : s.Sited (s.orderTaken action) := by
  cases action
  · exact refl s
  · exact give _ s

theorem takeOrder (f : OrderFields) (s : State) : s.Sited (s.takeOrder f) := by
  simp only [State.takeOrder]
  split
  · split
    · exact ((onOrders (List.filter fun o => o.number != f.number) s).trans (answer _ _ _ _)).trans (give _ _)
    · exact answer _ _ _ s
  split
  · exact (((onOrders (List.map fun o => if o.number = f.number then f.order else o) s).trans (answer _ _ _ _)).trans
      (give _ _)).trans (orderTaken _ _)
  split
  · exact ((onOrders (· ++ [f.order]) s).trans (answer _ _ _ _)).trans (orderTaken _ _)
  · exact answer _ _ _ s

theorem orderUnlessHalted (f : OrderFields) (s : State) : s.Sited (s.orderUnlessHalted f) := by
  unfold State.orderUnlessHalted
  split
  · exact answer _ _ _ s
  · exact takeOrder f s

theorem takeWrite (kind : Nat) (valid : Bool) (item : StoreItem) (clamped : Bool) (data : List Byte) (s : State) :
    s.Sited (s.takeWrite kind valid item clamped data) := by
  unfold State.takeWrite
  split
  · exact answer _ _ _ s
  split
  · exact answer _ _ _ s
  split
  · exact answer _ _ _ s
  · exact (startOperation _ s).trans (answer _ _ _ _)

theorem takeLock (s : State) : s.Sited s.takeLock := by
  have locked : s.Sited (s.onStore fun d => { d with lock := true }) := of_same ⟨rfl, rfl, rfl, rfl⟩
  exact locked.trans (answer _ _ _ _)

theorem takeErase (s : State) : s.Sited s.takeErase := by
  unfold State.takeErase
  split
  · exact answer _ _ _ s
  · exact (startOperation _ s).trans (answer _ _ _ _)

theorem takeClear (u : UnitId) (s : State) : s.Sited (s.takeClear u) := by
  have cleared : s.Sited ((stagesOf u).foldl State.clearOrRelease s) := by
    refine foldl (fun x st => of_same ?_) _ s
    unfold State.clearOrRelease
    split <;> simp
  exact (cleared.trans (onUnit u _ _)).trans (answer _ _ _ _)

theorem takeFlush (u : Option UnitId) (s : State) : s.Sited (s.takeFlush u) := by
  simp only [State.takeFlush]
  generalize (s.calls.entries.filter _) = l
  have flushed : s.Sited (l.foldl State.flushEntry s) := by
    refine foldl (fun x e => of_same ?_) _ s
    simp only [State.flushEntry]
    split <;> simp
  have answered := flushed.trans (answer 26 .ok [byteOf l.length] _)
  split
  · exact answered.trans (of_same (by simp))
  · exact answered

theorem answerPage (page : Option (List Byte)) (s : State) : s.Sited (s.answerPage page) := by
  cases page <;> exact answer _ _ _ s

theorem collectTrips (u : UnitId) (s : State) : s.Sited (s.collectTrips u) := by
  have answered := answerPage (some (s.tripPage u)) s
  simp only [State.collectTrips]
  split
  · exact (answered.trans (onUnit u _ _)).trans (formAttention _)
  · exact answered

/-! ### The roof link -/

theorem frameSent (source : TxSource) (s : State) : s.Sited (s.frameSent source) := by
  have ended : ∀ f, s.Sited (s.onLink f).attemptEnds := fun f => (onLink f s).trans (onLink _ _)
  cases source with
  | stopSlot => exact (ended _).trans (give _ _)
  | queueHead =>
    simp only [State.frameSent]
    split
    · exact (ended _).trans (give _ _)
    · split
      · exact (ended _).trans (give _ _)
      · exact ended _

theorem frameFailed (s : State) : s.Sited s.frameFailed := by
  have failed : s.Sited (((s.onLink fun l => { l with failures := l.failures + 1 }).attemptEnds).bump .failedTransmissions) :=
    ((onLink _ s).trans (onLink _ _)).trans (bump _ _)
  simp only [State.frameFailed]
  split
  · exact failed.trans (of_same (by simp [State.goOffBus]))
  · exact failed

theorem transmission (source : TxSource) (outcome : TxOutcome) (s : State) : s.Sited (s.transmission source outcome) := by
  refine when ?_
  cases outcome with
  | sent => exact frameSent source s
  | lostArbitration => exact onLink _ s
  | failed => exact frameFailed s

theorem returnToBus (s : State) : s.Sited s.returnToBus := by
  unfold State.returnToBus
  split
  · exact refl s
  · exact of_same (by simp [State.attemptEnds])

theorem siteBeaconDue (s : State) : s.Sited s.siteBeaconDue := by
  simp only [State.siteBeaconDue]
  split
  · exact (onLink _ s).trans (onLink _ _)
  · exact (onLink _ s).trans (bump _ _)

/-! ### Timers -/

theorem restExpires (st : StageId) (s : State) : s.Sited (s.restExpires st) := when ((onStage st _ s).trans (give _ _))

theorem runExpires (st : StageId) (s : State) : s.Sited (s.runExpires st) := when ((onStage st _ s).trans (give _ _))

theorem windowExpires (st : StageId) (s : State) : s.Sited (s.windowExpires st) := when (onStage st _ s)

theorem confirmExpires (st : StageId) (s : State) : s.Sited (s.confirmExpires st) := by
  refine when ?_
  have withdrawn : s.Sited (s.withdrawPermit st) := of_same (by simp)
  simp only [State.lapse]
  split
  · exact withdrawn.trans (bump _ _)
  · exact (withdrawn.trans (unitError _ _)).trans (bump _ _)

theorem stopExpires (st : StageId) (s : State) : s.Sited (s.stopExpires st) := by
  have resent : ∀ x : State, x.Sited (x.resendStop st) := fun x => of_same (by
    simp only [State.resendStop]
    split <;> simp)
  exact when (((onStage st _ s).trans (resent _)).trans (unitError _ _))

theorem guardExpires (u : UnitId) (s : State) : s.Sited (s.guardExpires u) := when (onUnit u _ s)

theorem windowMissed (u : UnitId) (s : State) : s.Sited (s.windowMissed u) :=
  when (((onUnit u _ s).trans (bump _ _)).trans (unitError u _))

theorem startSlotExpires (s : State) : s.Sited s.startSlotExpires := when (of_same ⟨rfl, rfl, rfl, rfl⟩)

theorem orderExpires (number : Byte) (s : State) : s.Sited (s.orderExpires number) := when (of_same ⟨rfl, rfl, rfl, rfl⟩)

theorem joinExpires (s : State) : s.Sited s.joinExpires := by
  refine when ?_
  split <;> exact of_same (by simp)

theorem settleExpires (s : State) : s.Sited s.settleExpires := by
  simp only [State.settleExpires]
  refine when (of_same ?_)
  split <;> simp [State.startGate]

/-! ### Frames -/

theorem unitFrame {α : Type} {u : UnitId} {fields : Option α} {invalidSlot : Byte} {slotOfFields : α → Slot}
    {taken : α → State → State} {s : State} (effect : ∀ x, s.Sited (taken x s)) :
    s.Sited (s.unitFrame u fields invalidSlot slotOfFields taken) := by
  unfold State.unitFrame
  split
  · exact of_same (by simp)
  · split
    · exact sendDefer _ _ s
    · exact effect _

theorem malformed (kind : Nat) (s : State) : s.Sited ((s.answer kind .invalid []).bump .malformedGatewayFrames) :=
  (answer _ _ _ s).trans (bump _ _)

theorem gatewayFrame {α : Type} {kind : Nat} {fields : Option α} {taken : α → State → State} {s : State}
    (effect : ∀ x, s.Sited (taken x s)) : s.Sited (s.gatewayFrame kind fields taken) := by
  unfold State.gatewayFrame
  split
  · exact malformed kind s
  · exact effect _

theorem unlessHalted {kind : Nat} {taken : State → State} {s : State} (effect : s.Sited (taken s)) :
    s.Sited (s.unlessHalted kind taken) := by
  unfold State.unlessHalted
  split
  · exact answer _ _ _ s
  · exact effect

end State.Sited

/-! ### The events of the demand account and the site lines -/

/-- What a command can do to the demand account and the site lines: an event of spec/02 or spec/03, the completion of a write or an
erase, a reset, or nothing of that kind. -/
inductive State.SiteEvent (s : State) : State → Prop
  | quiet {t : State} (sited : s.Sited t) : s.SiteEvent t
  | ceiling {k : Nat} (word : k ≤ max16) : s.SiteEvent (s.takeCeiling k)
  | evaluation : s.SiteEvent s.evaluate
  | rateWindow : s.SiteEvent s.rateWindowEnds
  | silence : s.SiteEvent s.silenceExpires
  | supervision : s.SiteEvent s.supervisionLapses
  | debounce (line : DebouncedLine) (level : Bool) : s.SiteEvent (s.debounceStarts line level)
  | pulseAsserted : s.SiteEvent s.pulseAsserted
  | pulseMinimum : s.SiteEvent s.pulseMinimum
  | pulseMaximum : s.SiteEvent s.pulseMaximum
  | pulseReleased : s.SiteEvent s.pulseReleased
  | markAsserted : s.SiteEvent s.markAsserted
  | markReleased : s.SiteEvent s.markReleased
  | markQualifies : s.SiteEvent s.markQualifies
  | curtailRead (code : Fin 4) : s.SiteEvent (s.curtailCodeRead code)
  | curtailQualifies : s.SiteEvent s.curtailQualifies
  | powerFailRead (asserted : Bool) : s.SiteEvent (s.powerFailRead asserted)
  | powerFailQualifies : s.SiteEvent s.powerFailQualifies
  | writeCompletes : s.SiteEvent s.writeCompletes
  | eraseCompletes : s.SiteEvent s.eraseCompletes
  | reset (store : Store) (pins : Pins) (cause : ResetCause) (drawn : Nat) (pending : List Instr)
      (valid : s.store.valid → store.valid) : s.SiteEvent (State.afterReset store pins cause drawn pending)

/-- From s to t: a pin may change, one event is taken, and the notices it gives are acted on. -/
def State.SiteStep (s t : State) : Prop := ∃ pins x, State.SiteEvent { s with pins := pins } x ∧ x.Sited t

theorem State.SiteEvent.step {s t : State} (event : s.SiteEvent t) : s.SiteStep t := ⟨s.pins, t, event, .refl t⟩

theorem State.Sited.step {s t : State} (sited : s.Sited t) : s.SiteStep t := (SiteEvent.quiet sited).step

theorem State.take_site {f : State → State} {s t : State} (h : s.take f = .next t) (event : s.SiteEvent (f s)) :
    s.SiteStep t := by
  obtain rfl : (if s.supplied then (f s).drain else s) = t := by simpa [State.take] using h
  split
  · exact ⟨s.pins, f s, event, .drain _⟩
  · exact (Sited.refl s).step

theorem State.receive_site {f : State → State} {s t : State} (h : s.receive f = .next t) (event : s.SiteEvent (f s)) :
    s.SiteStep t := by
  refine State.take_site h ?_
  split
  · exact event
  · exact .quiet (.refl s)

theorem State.pinChange_site {pins : Pins → Pins} {f : State → State} {s t : State} (h : s.pinChange pins f = .next t)
    (event : ∀ x : State, x.SiteEvent (f x)) : s.SiteStep t := by
  obtain rfl : (if s.supplied then (f (s.onPins pins)).drain else s.onPins pins) = t := by simpa [State.pinChange] using h
  split
  · exact ⟨pins s.pins, _, event (s.onPins pins), .drain _⟩
  · exact Sited.step (.of_same ⟨rfl, rfl, rfl, rfl⟩)

/-- A frame of a unit is no event of the account or the lines. -/
theorem State.unitCommand_site {α : Type} {u : UnitId} {fields : Option α} {invalidSlot : Byte} {slotOfFields : α → Slot}
    {taken : α → State → State} {s t : State} (h : s.receive (State.unitFrame u fields invalidSlot slotOfFields taken) = .next t)
    (effect : ∀ x, s.Sited (taken x s)) : s.SiteStep t := State.receive_site h (.quiet (.unitFrame effect))

/-- A gateway frame that is no event of the account or the lines. -/
theorem State.gatewayCommand_site {α : Type} {kind : Nat} {fields : Option α} {taken : α → State → State} {s t : State}
    (h : s.receive (State.gatewayFrame kind fields taken) = .next t) (effect : ∀ x, s.Sited (taken x s)) : s.SiteStep t :=
  State.receive_site h (.quiet (.gatewayFrame effect))

theorem State.query_site {α : Type} {fields : Option α} {page : α → State → Option (List Byte)} {s t : State}
    (h : s.receive (State.gatewayFrame 27 fields fun x s => s.answerPage (page x s)) = .next t) : s.SiteStep t :=
  State.gatewayCommand_site h fun _ => .answerPage _ s

theorem wordOf_le (hi lo : Byte) : wordOf hi lo ≤ max16 := by
  unfold wordOf max16
  omega

theorem ceilingFields_word {data : List Byte} {k : Nat} (fields : ceilingFields data = some k) : k ≤ max16 := by
  unfold ceilingFields at fields
  split at fields
  · exact Option.some.inj fields ▸ wordOf_le _ _
  · cases fields

theorem execSetCeiling_site {data : List Byte} {s t : State} (h : execSetCeiling data s = .next t) : s.SiteStep t := by
  refine State.receive_site h ?_
  clear h
  unfold State.gatewayFrame
  split
  · exact .quiet (.malformed 16 s)
  · next k fields =>
    simp only [State.unlessHalted]
    split
    · exact .quiet (.answer _ _ _ s)
    · exact .ceiling (ceilingFields_word fields)

/-- Every command is at most one event of the account and the lines, and what acting on its notices does. -/
theorem exec_site {i : Instr} {s t : State} (h : exec i s = .next t) : s.SiteStep t := by
  unfold exec at h
  cases i with
  | call u data => exact State.unitCommand_site h fun _ => .takeCall _ s
  | withdraw u data => exact State.unitCommand_site h fun _ => .takeWithdraw _ s
  | started u data => exact State.unitCommand_site h fun _ => .takeStarted _ _ s
  | stopped u data => exact State.unitCommand_site h fun _ => .takeStopped _ s
  | trip u data => exact State.unitCommand_site h fun _ => .takeTrip _ _ _ s
  | tripReset u data => exact State.unitCommand_site h fun _ => .takeTripReset _ _ s
  | unitBeacon u data =>
    refine State.receive_site h (.quiet ?_)
    split
    · exact .of_same (by simp)
    · exact .takeBeacon _ _ s
  | foreignFrame frame => 
    refine State.receive_site h (.quiet ?_)
    split
    · exact .refl s
    · exact .bump _ s
  | setCeiling data => exact execSetCeiling_site h
  | setCurtail data => exact State.gatewayCommand_site h fun _ => .unlessHalted (.takeCurtail _ s)
  | shedOrder data => exact State.gatewayCommand_site h fun _ => .orderUnlessHalted _ s
  | writeStageElectrical data => exact State.gatewayCommand_site h fun _ => .unlessHalted (.takeWrite ..)
  | writeStageTiming data => exact State.gatewayCommand_site h fun _ => .unlessHalted (.takeWrite ..)
  | writeUnitGroup data => exact State.gatewayCommand_site h fun _ => .unlessHalted (.takeWrite ..)
  | writeSetting data =>
    refine State.gatewayCommand_site h fun _ => ?_
    split
    · exact .answer _ _ _ s
    · exact .unlessHalted (.takeWrite ..)
  | lockProfiles data =>
    exact State.gatewayCommand_site h fun _ => .unlessHalted (.takeLock s)
  | eraseProfiles data => exact State.gatewayCommand_site h fun _ => .takeErase s
  | clearUnit data => exact State.gatewayCommand_site h fun _ => .unlessHalted (.takeClear _ s)
  | flushCalls data => exact State.gatewayCommand_site h fun _ => .unlessHalted (.takeFlush _ s)
  | querySite data | queryStage data | queryUnit data | queryQueue data | queryOrder data | queryRoster data | queryCounter data
  | queryDigest data | queryIdentity data => exact State.query_site h
  | queryTripCollect data =>
    refine State.gatewayCommand_site h fun _ => ?_
    split
    · exact .collectTrips _ s
    · exact .refl s
  | frameTransmission source outcome => exact State.take_site h (.quiet (.transmission source outcome s))
  | offBusTimerExpiry => exact State.take_site h (.quiet (.returnToBus s))
  | siteBeaconTimerExpiry => exact State.take_site h (.quiet (.siteBeaconDue s))
  | evaluation => exact State.take_site h .evaluation
  | rateWindowExpiry => exact State.take_site h .rateWindow
  | silenceTimerExpiry => exact State.take_site h .silence
  | supervisionTimerExpiry => exact State.take_site h .supervision
  | restTimerExpiry st => exact State.take_site h (.quiet (.restExpires st s))
  | runTimerExpiry st => exact State.take_site h (.quiet (.runExpires st s))
  | confirmTimeout st => exact State.take_site h (.quiet (.confirmExpires st s))
  | stopTimeout st => exact State.take_site h (.quiet (.stopExpires st s))
  | windowTimerExpiry st => exact State.take_site h (.quiet (.windowExpires st s))
  | windowGuardExpiry u => exact State.take_site h (.quiet (.guardExpires u s))
  | missedWindow u => exact State.take_site h (.quiet (.windowMissed u s))
  | startSlotExpiry => exact State.take_site h (.quiet (.startSlotExpires s))
  | orderTimerExpiry number => exact State.take_site h (.quiet (.orderExpires number s))
  | displacementHoldOffExpiry => exact State.take_site h (.quiet (.of_same ⟨rfl, rfl, rfl, rfl⟩))
  | joinTimerExpiry => exact State.take_site h (.quiet (.joinExpires s))
  | settleTimerExpiry => exact State.take_site h (.quiet (.settleExpires s))
  | debouncePinChange line level =>
    refine State.pinChange_site h fun x => ?_
    split
    · exact .quiet (.refl x)
    · exact .debounce line level
  | pulseAssertionEdge => exact State.take_site h .pulseAsserted
  | pulseMinimumWidthReached => exact State.take_site h .pulseMinimum
  | pulseMaximumWidthReached => exact State.take_site h .pulseMaximum
  | pulseReleaseEdge => exact State.take_site h .pulseReleased
  | markAssertionEdge => exact State.take_site h .markAsserted
  | markReleaseEdge => exact State.take_site h .markReleased
  | markQualified => exact State.take_site h .markQualifies
  | curtailCodeChange code =>
    refine State.pinChange_site h fun x => ?_
    split
    · exact .quiet (.refl x)
    · exact .curtailRead code
  | curtailStabilityExpiry => exact State.take_site h .curtailQualifies
  | powerFailPinChange asserted => exact State.pinChange_site h fun x => .powerFailRead asserted
  | powerFailQualificationExpiry => exact State.take_site h .powerFailQualifies
  | writeCompletion => exact State.take_site h .writeCompletes
  | eraseCompletion => exact State.take_site h .eraseCompletes
  | powerOnReset =>
    obtain rfl := Host.Outcome.next.inj h
    exact (State.SiteEvent.reset _ _ _ _ _ fun valid => valid.loseFlight _).step
  | resetLine inside =>
    obtain rfl := Host.Outcome.next.inj h
    split
    · exact (State.SiteEvent.reset _ _ _ _ _ fun valid => valid.loseFlight _).step
    · exact (State.Sited.refl s).step
  | supplyLoss inside =>
    obtain rfl := Host.Outcome.next.inj h
    split
    · exact State.Sited.step (.of_same ⟨rfl, rfl, rfl, rfl⟩)
    · exact (State.Sited.refl s).step

end Sys2Proof.Machine
end

section
/-! Proofs/AccountKept.lean: every step keeps the demand account in range (O16). -/

namespace Sys2Proof.Machine

/-- The demand account is in range but for its elapsed time, which step 2 of an evaluation may bring to the interval length before
step 3 closes the interval (R29, R31, R33). -/
structure Account.Ranged (a : Account) : Prop where
  length : intervalAllowed a.intervalLength
  pending : ∀ v ∈ a.pendingLength, intervalAllowed v
  energy : a.energy ≤ max32
  windowEnergy : a.windowEnergy ≤ max32
  measured : a.measured ≤ max16
  uncontrolled : a.uncontrolled ≤ max16
  ceiling : a.ceiling ≤ max16
  effective : a.effectiveCeiling ≤ max16
  low : -65535 ≤ a.allowance
  high : a.allowance ≤ a.effectiveCeiling
  persistence : a.persistence ≤ max16
  supervised : a.supervision = .supervised ↔ 0 < a.supervisionTimer
  metered : a.windowMetered = true → a.metering = .metered

theorem Account.valid_iff (a : Account) : a.valid ↔ a.Ranged ∧ a.elapsed < a.intervalLength :=
  ⟨fun ⟨length, pending, elapsed, energy, windowEnergy, measured, uncontrolled, ceiling, effective, low, high, persistence,
      supervised, metered⟩ =>
    ⟨⟨length, pending, energy, windowEnergy, measured, uncontrolled, ceiling, effective, low, high, persistence, supervised,
      metered⟩, elapsed⟩,
    fun ⟨h, elapsed⟩ => ⟨h.length, h.pending, elapsed, h.energy, h.windowEnergy, h.measured, h.uncontrolled, h.ceiling, h.effective,
      h.low, h.high, h.persistence, h.supervised, h.metered⟩⟩

theorem Account.valid.ranged {a : Account} (h : a.valid) : a.Ranged := (a.valid_iff.mp h).1

/-- What changes neither the elapsed time nor the interval length keeps the account valid where it keeps the ranges. -/
theorem Account.valid.of_ranged {a b : Account} (h : a.valid) (ranged : b.Ranged) (elapsed : b.elapsed = a.elapsed)
    (length : b.intervalLength = a.intervalLength) : b.valid :=
  b.valid_iff.mpr ⟨ranged, by rw [elapsed, length]; exact (a.valid_iff.mp h).2⟩

theorem satAdd_le (top a b : Nat) : satAdd top a b ≤ top := Nat.min_le_left _ _

theorem intervalAllowed.pos {v : Nat} (h : intervalAllowed v) : 0 < v := by
  rcases h with rfl | rfl | rfl <;> decide

theorem effectiveCeilingOf_le (ceiling percent : Nat) : effectiveCeilingOf ceiling percent ≤ ceiling := by
  unfold effectiveCeilingOf
  exact Nat.div_le_of_le_mul (Nat.mul_comm 100 ceiling ▸ Nat.mul_le_mul_left _ (Nat.sub_le _ _))

/-- The allowance lies between -65535 and the effective ceiling (R47). -/
theorem allowanceOf_range (effective length elapsed energy : Nat) :
    -65535 ≤ allowanceOf effective length elapsed energy ∧ allowanceOf effective length elapsed energy ≤ effective := by
  rw [allowanceOf_eq]
  omega

/-! ### The interval -/

theorem State.recomputeAllowance_ranged {s : State} (h : s.account.Ranged) : s.recomputeAllowance.account.Ranged :=
  { h with
    effective := (effectiveCeilingOf_le _ _).trans h.ceiling
    low := (allowanceOf_range _ _ _ _).1
    high := (allowanceOf_range _ _ _ _).2 }

/-- A boundary starts an interval of an allowed length (R30, R32). -/
theorem State.boundary_valid {s : State} (h : s.account.Ranged) (cause : BoundaryCause) : (s.boundary cause).account.valid := by
  have length : intervalAllowed (s.account.pendingLength.getD s.account.intervalLength) := by
    cases pending : s.account.pendingLength with
    | none => exact h.length
    | some v => exact h.pending v pending
  refine (Account.valid_iff _).mpr ⟨State.recomputeAllowance_ranged (s := s.onAccount _) { h with
    length := length, pending := nofun, energy := Nat.zero_le _ }, length.pos⟩

theorem State.advanceInterval_ranged {s : State} (h : s.account.Ranged) : s.advanceInterval.account.Ranged := by
  refine { h with energy := ?_ }
  simp only [State.advanceInterval, State.onAccount_account]
  split
  · exact satAdd_le _ _ _
  · exact h.energy

/-- The interval closes when the elapsed time has reached its length (R33). -/
theorem State.closeAtLength_valid {s : State} (h : s.account.Ranged) : s.closeAtLength.account.valid := by
  unfold State.closeAtLength
  split
  · split
    · exact State.boundary_valid h _
    · exact State.boundary_valid h _
  · next runs => exact (Account.valid_iff _).mpr ⟨h, Nat.lt_of_not_le runs⟩

theorem State.evaluate_valid {s : State} (h : s.account.Ranged) : s.evaluate.account.valid := by
  have reloaded : (s.onAccount fun a => { a with evaluationTimer := evaluationTime }).account.Ranged := { h with }
  have closed := State.closeAtLength_valid (State.advanceInterval_ranged reloaded)
  have formed := State.recomputeAllowance_ranged closed.ranged
  refine closed.of_ranged { formed with persistence := ?_ } rfl rfl
  simp only [State.evaluate, State.give_account, State.updatePersistence, State.onAccount_account]
  split
  · exact satAdd_le _ _ _
  · exact Nat.zero_le _

theorem State.intervalMark_valid {s : State} (h : s.account.valid) : s.intervalMark.account.valid := by
  unfold State.intervalMark
  split
  · exact h
  · split
    · exact State.boundary_valid h.ranged _
    · exact h

/-! ### The meter and the ceiling -/

theorem State.validPulse_valid {s : State} (h : s.account.valid) : s.validPulse.account.valid :=
  h.of_ranged { h.ranged with energy := satAdd_le _ _ _, windowEnergy := satAdd_le _ _ _, metered := fun _ => rfl } rfl rfl

theorem State.estimate_valid {s : State} (h : s.account.valid) (cause : EstimateCause) : (s.estimate cause).account.valid :=
  h.of_ranged { h.ranged with metered := nofun } rfl rfl

/-- The stuck-standing flag is in no range. -/
theorem State.standing_valid {s : State} (h : s.account.valid) (standing : Bool) :
    (s.onAccount fun a => { a with stuckStanding := standing }).account.valid := h.of_ranged { h.ranged with } rfl rfl

theorem State.pulseStuck_valid {s : State} (h : s.account.valid) : s.pulseStuck.account.valid :=
  State.estimate_valid (s := State.onAccount _ _)
    (State.standing_valid (State.validPulse_valid (s := (s.onLines _).bump .stuckReports) h) true) .stuck

theorem State.rateWindowEnds_valid {s : State} (h : s.account.valid) : s.rateWindowEnds.account.valid := by
  have mean : min max16 (s.account.windowEnergy / 60) ≤ max16 := Nat.min_le_left _ _
  refine h.of_ranged { h.ranged with
    windowEnergy := Nat.zero_le _, measured := ?_, uncontrolled := ?_, metered := fun flag => ?_ } rfl rfl
  · simp only [State.rateWindowEnds, State.onAccount_account]
    split
    · exact mean
    · exact h.ranged.measured
  · simp only [State.rateWindowEnds, State.onAccount_account]
    split
    · exact (Nat.sub_le _ _).trans mean
    · exact h.ranged.uncontrolled
  · exact of_decide_eq_true (s.account.metering.not_isEstimated.symm.trans flag)

theorem State.silenceExpires_valid {s : State} (h : s.account.valid) : s.silenceExpires.account.valid := by
  have reloaded : (s.onAccount fun a => { a with silence := s.settingTime .silenceTimeout }).account.valid :=
    h.of_ranged { h.ranged with } rfl rfl
  simp only [State.silenceExpires]
  split
  · exact State.estimate_valid reloaded _
  · exact reloaded

theorem Store.valid.ceiling_le {store : Store} (h : store.valid) : store.setting .fallbackCeiling ≤ max16 :=
  (h.setting .fallbackCeiling).2.1

/-- SET CEILING loads the supervision timer with at least one minute (R42, R168). -/
theorem State.takeCeiling_valid {s : State} (store : s.store.valid) (h : s.account.valid) {k : Nat} (word : k ≤ max16) :
    (s.takeCeiling k).account.valid := by
  have timeout : 1 ≤ s.setting .supervisionTimeout := (store.setting .supervisionTimeout).1
  have runs : 0 < minutes (s.setting .supervisionTimeout) := Nat.mul_pos (by decide) timeout
  rw [State.takeCeiling, (State.answer_frame ..).2.2.2.2.2.1]
  exact h.of_ranged { h.ranged with ceiling := word, supervised := ⟨fun _ => runs, fun _ => rfl⟩ } rfl rfl

theorem State.supervisionLapses_valid {s : State} (store : s.store.valid) (h : s.account.valid) :
    s.supervisionLapses.account.valid := by
  unfold State.supervisionLapses
  split
  · exact h.of_ranged { h.ranged with ceiling := store.ceiling_le, supervised := ⟨nofun, nofun⟩ } rfl rfl
  · exact h

/-! ### Changed settings -/

theorem State.settingChanged_valid {s : State} (store : s.store.valid) (h : s.account.valid) (x : Setting) :
    (s.settingChanged x).account.valid := by
  have unchanged : ∀ {t : State}, t.account = s.account → t.account.valid := fun same => same ▸ h
  cases x with
  | fallbackCeiling =>
    simp only [State.settingChanged]
    split
    · exact h.of_ranged { h.ranged with ceiling := store.ceiling_le } rfl rfl
    · exact h
  | intervalLength =>
    have allowed : intervalAllowed (s.setting .intervalLength) := (store.setting .intervalLength).2.2 rfl
    refine h.of_ranged { h.ranged with pending := fun v mem => ?_ } rfl rfl
    simp only [State.settingChanged, State.onAccount_account] at mem
    split at mem
    · cases mem
    · exact Option.some.inj mem ▸ allowed
  | minimumWidthCode =>
    simp only [State.settingChanged]
    split <;> exact h
  | maximumWidthCode =>
    simp only [State.settingChanged]
    split
    · exact State.pulseStuck_valid h
    · exact h
  | curtailLineLevel => exact unchanged (by simp [State.settingChanged])
  | congestionThreshold => exact unchanged (by simp [State.settingChanged])
  | _ => exact h

theorem State.settingsChanged_valid (l : List Setting) {s : State} (store : s.store.valid) (h : s.account.valid) :
    (l.foldl (fun s x => s.settingChanged x) s).account.valid := by
  induction l generalizing s with
  | nil => exact h
  | cons x rest ih => exact ih (by simpa using store) (State.settingChanged_valid store h x)

/-- The stages and units told of what has changed, before the settings' owners, leave the store and everything of the site alone. -/
theorem State.notifyChanges_site (before : Store) (s : State) : ∃ x : State, s.Sited x ∧ x.store = s.store ∧
    s.notifyChanges before = (Setting.all.filter fun y => s.store.setting y != before.setting y).foldl
      (fun s y => s.settingChanged y) x := by
  refine ⟨_, (Sited.foldl (fun x st => .of_same (by simp)) _ s).trans (Sited.foldl (fun x u => .of_same (by simp)) _ _), ?_, rfl⟩
  exact (foldl_keeps State.store _ (by simp) _ _).trans (foldl_keeps State.store _ (by simp) _ _)

theorem State.Sited.account_valid {s t : State} (sited : s.Sited t) (h : s.account.valid) : t.account.valid := by
  rcases sited.account with same | cleared
  · rw [same]; exact h
  · rw [cleared]; exact h.of_ranged { h.ranged with persistence := Nat.zero_le _ } rfl rfl

theorem State.notifyChanges_valid {s : State} (before : Store) (store : s.store.valid) (h : s.account.valid) :
    (s.notifyChanges before).account.valid := by
  obtain ⟨x, sited, same, eq⟩ := s.notifyChanges_site before
  rw [eq]
  exact State.settingsChanged_valid _ (same ▸ store) (sited.account_valid h)

theorem State.writeCompletes_valid {s : State} (store : s.store.valid) (h : s.account.valid) :
    s.writeCompletes.account.valid := by
  unfold State.writeCompletes
  split
  · next flight => exact State.notifyChanges_valid _ (store.written flight rfl) h
  · exact h

theorem State.eraseCompletes_valid {s : State} (h : s.account.valid) : s.eraseCompletes.account.valid := by
  unfold State.eraseCompletes
  split
  · have told := State.notifyChanges_valid (s := (s.onStore fun d => d.erase.complete).bump .erasesCompleted) s.store
      s.store.erase_complete_valid h
    unfold State.endHalt
    split
    · simpa using told
    · exact told
  · exact h

/-! ### Every step -/

/-- The line events that give the demand account no notice leave it alone. -/
theorem State.lineEvent_account (s : State) : s.pulseAsserted.account = s.account ∧ s.pulseMinimum.account = s.account ∧
    s.markAsserted.account = s.account ∧ s.markReleased.account = s.account ∧ s.curtailQualifies.account = s.account ∧
    (∀ asserted, (s.powerFailRead asserted).account = s.account) ∧ s.powerFailQualifies.account = s.account := by
  refine ⟨?_, ?_, ?_, ?_, ?_, fun asserted => ?_, ?_⟩
  · unfold State.pulseAsserted; split <;> rfl
  · unfold State.pulseMinimum; split <;> rfl
  · unfold State.markAsserted; split <;> rfl
  · unfold State.markReleased; split <;> rfl
  · unfold State.curtailQualifies; split <;> simp
  · unfold State.powerFailRead; split <;> rfl
  · unfold State.powerFailQualifies; split <;> simp [State.setPowerFail]

theorem Account.afterReset_valid {store : Store} (h : store.valid) : (Account.afterReset store).valid := by
  have length : intervalAllowed (store.setting .intervalLength) := (h.setting .intervalLength).2.2 rfl
  have base : store.setting .baseLoadDefault ≤ max16 := (h.setting .baseLoadDefault).2.1
  exact ⟨length, nofun, length.pos, Nat.zero_le _, Nat.zero_le _, Nat.zero_le _, base, h.ceiling_le, h.ceiling_le,
    (by decide : (-65535 : Int) ≤ 0).trans (Int.natCast_nonneg _), le_rfl, Nat.zero_le _, ⟨nofun, nofun⟩, fun _ => rfl⟩

/-- A timer that runs goes on running until its expiry is taken. -/
theorem Account.tick_valid {a : Account} (h : a.valid) : a.tick.valid := by
  refine h.of_ranged { h.ranged with supervised := h.ranged.supervised.trans ?_ } rfl rfl
  rw [Nat.pos_iff_ne_zero, Nat.pos_iff_ne_zero, ne_eq, ne_eq]
  exact not_congr countDown_eq_zero.symm

theorem State.SiteEvent.account_valid {s t : State} (event : s.SiteEvent t) (store : s.store.valid) (h : s.account.valid) :
    t.account.valid := by
  obtain ⟨asserted, minimum, marked, unmarked, qualified, read, powerFail⟩ := s.lineEvent_account
  have unchanged : ∀ {t : State}, t.account = s.account → t.account.valid := fun same => same ▸ h
  cases event with
  | quiet sited => exact sited.account_valid h
  | ceiling word => exact State.takeCeiling_valid store h word
  | evaluation => exact State.evaluate_valid h.ranged
  | rateWindow => exact State.rateWindowEnds_valid h
  | silence => exact State.silenceExpires_valid h
  | supervision => exact State.supervisionLapses_valid store h
  | debounce line level => cases line <;> exact h
  | pulseAsserted => exact unchanged asserted
  | pulseMinimum => exact unchanged minimum
  | pulseMaximum =>
    unfold State.pulseMaximum
    split
    · exact State.pulseStuck_valid (s := s.onLines _) h
    · exact h
  | pulseReleased =>
    unfold State.pulseReleased
    split
    · exact h
    · exact h
    · exact State.validPulse_valid (s := s.pulseAtRest) h
    · exact State.standing_valid (s := s.pulseAtRest) h false
  | markAsserted => exact unchanged marked
  | markReleased => exact unchanged unmarked
  | markQualifies =>
    unfold State.markQualifies
    split
    · exact State.intervalMark_valid (s := s.onLines _) h
    · exact h
  | curtailRead code => exact h
  | curtailQualifies => exact unchanged qualified
  | powerFailRead level => exact unchanged (read level)
  | powerFailQualifies => exact unchanged powerFail
  | writeCompletes => exact State.writeCompletes_valid store h
  | eraseCompletes => exact State.eraseCompletes_valid h
  | reset contents pins cause drawn pending valid => exact Account.afterReset_valid (valid store).afterReset

theorem exec_account_valid {i : Instr} {s t : State} (h : exec i s = .next t) (store : s.store.valid) (valid : s.account.valid) :
    t.account.valid := by
  obtain ⟨pins, x, event, sited⟩ := exec_site h
  exact sited.account_valid (event.account_valid (s := { s with pins := pins }) store valid)

end Sys2Proof.Machine

namespace Sys2Proof.Proofs
open Sys2Proof.Machine

/-- Settles O16: the interval closes before the elapsed time passes its length (`State.closeAtLength_valid`), and the allowance is
limited where it is formed (`allowanceOf_range`). -/
theorem accountKept : Obligations.AccountKept := fun s t stepped holds => by
  refine step_keeps (P := fun x => x.store.valid ∧ x.account.valid) ?_ ?_ ?_ stepped holds
  · exact fun _ _ _ h => h
  · exact fun x ⟨store, account⟩ => ⟨State.advance_validStore store, Account.tick_valid account⟩
  · exact fun i x y ran ⟨store, account⟩ => ⟨exec_validStore ran store, exec_account_valid ran store account⟩

end Sys2Proof.Proofs
end

section
/-! Proofs/LinesKept.lean: every step keeps the site line records in agreement with their states, and the delivered curtail level
that of the qualified code (O17). -/

namespace Sys2Proof.Machine

/-- The line curtail level a code stands for while setting 24 is n (R59). -/
def curtailLevel (n : Nat) (code : Fin 4) : Nat := match code.val with | 0 => 0 | 1 => n | 2 => 2 | _ => 3

/-- The records of the site lines agree with their states, and the stuck-standing flag is set exactly in STUCK (R53 to R60).
Setting 24 is n, and the level delivered is what `level` gives the qualified code: `curtailLevel n`, but for the moment in which
the code or the setting has changed and the level has yet to be delivered (R59). -/
structure State.LinesFit (n : Nat) (level : Fin 4 → Nat) (s : State) : Prop where
  setting : s.setting .curtailLineLevel = n
  pulse : s.lines.pulse.level = (s.lines.pulse.state != .released)
  mark : s.lines.mark.level = (s.lines.mark.state != .released)
  stability : s.lines.curtail.candidate = none ↔ s.lines.curtail.stability = 0
  candidate : s.lines.curtail.candidate ≠ some s.lines.curtail.qualified
  delivered : s.lines.curtail.delivered = level s.lines.curtail.qualified
  lineLevel : s.shed.lineLevel = s.lines.curtail.delivered
  powerFail : s.lines.powerFail.timer = 0 ↔ s.lines.powerFail.state = .normal ∨ s.lines.powerFail.state = .failed
  stuck : s.account.stuckStanding = (s.lines.pulse.state == .stuck)
  estimated : s.account.stuckStanding = true → s.account.metering = .estimated .stuck

theorem State.LinesFit.delivered_eq {s : State} {n : Nat} (h : s.LinesFit n (curtailLevel n)) :
    s.lines.curtail.delivered = s.lineLevelOf s.lines.curtail.qualified := by
  rw [h.delivered, ← h.setting]
  rfl

theorem State.linesValid_iff (s : State) : s.linesValid ↔ ∃ n, s.LinesFit n (curtailLevel n) := by
  constructor
  · rintro ⟨pulse, mark, stability, candidate, delivered, lineLevel, powerFail, stuck, estimated⟩
    exact ⟨_, rfl, pulse, mark, stability, candidate, delivered, lineLevel, powerFail, stuck, estimated⟩
  · rintro ⟨n, h⟩
    exact ⟨h.pulse, h.mark, h.stability, h.candidate, h.delivered_eq, h.lineLevel, h.powerFail, h.stuck, h.estimated⟩

theorem State.Sited.linesFit {s t : State} (sited : s.Sited t) {n : Nat} {level : Fin 4 → Nat} (h : s.LinesFit n level) :
    t.LinesFit n level := by
  obtain ⟨account, lines, lineLevel, settings⟩ := sited
  have standing : t.account.stuckStanding = s.account.stuckStanding := by rcases account with eq | eq <;> rw [eq]
  have metering : t.account.metering = s.account.metering := by rcases account with eq | eq <;> rw [eq]
  refine ⟨?_, ?_, ?_, ?_, ?_, ?_, ?_, ?_, ?_, ?_⟩ <;>
    simp only [lines, lineLevel, standing, metering, State.setting, Store.setting, settings]
  exacts [h.setting, h.pulse, h.mark, h.stability, h.candidate, h.delivered, h.lineLevel, h.powerFail, h.stuck, h.estimated]

/-! ### The demand account's events -/

section
variable {s : State} {n : Nat} {level : Fin 4 → Nat} (h : s.LinesFit n level)
include h

theorem State.LinesFit.closeAtLength : s.closeAtLength.LinesFit n level := by
  have bounded : ∀ cause, (s.boundary cause).LinesFit n level := fun _ => { h with }
  unfold State.closeAtLength
  split
  · split
    · exact bounded _
    · exact State.Sited.linesFit ((State.Sited.bump _ _).trans (.bump _ _)) (bounded .selfTimed)
  · exact h

theorem State.LinesFit.evaluate : s.evaluate.LinesFit n level := by
  have counted : (s.onAccount fun a => { a with evaluationTimer := evaluationTime }).advanceInterval.LinesFit n level := { h with }
  have closed := counted.closeAtLength
  have formed : State.LinesFit n level (State.updatePersistence (State.recomputeAllowance _)) := { closed with }
  exact State.Sited.linesFit (((State.Sited.give _ _).trans (.give _ _)).trans (.give _ _)) formed

theorem State.LinesFit.intervalMark : s.intervalMark.LinesFit n level := by
  unfold State.intervalMark
  split
  · exact h
  · split
    · exact { h with }
    · exact { h with }

/-- A meter that is not METERED is not found silent, so ESTIMATED by STUCK stays (R39, R40). -/
theorem State.LinesFit.silenceExpires : s.silenceExpires.LinesFit n level := by
  simp only [State.silenceExpires]
  split
  · next silent =>
    have metered : s.account.metering = .metered := silent.1
    exact { h with estimated := fun standing => by simpa [metered] using h.estimated standing }
  · exact { h with }

/-! ### The meter pulse line -/

theorem State.LinesFit.not_standing (state : s.lines.pulse.state ≠ .stuck) : s.account.stuckStanding = false := by
  rw [h.stuck]
  exact beq_eq_false_iff_ne.mpr state

theorem State.LinesFit.pulseAsserted : s.pulseAsserted.LinesFit n level := by
  unfold State.pulseAsserted
  split
  · next state => exact { h with pulse := rfl, stuck := h.not_standing (by rw [state]; nofun) }
  all_goals exact h

/-- A pulse long enough is VALID, the line as it stands asserted (R53, R56). -/
theorem State.LinesFit.toValid (state : s.lines.pulse.state = .timing) (width : Millis) :
    (s.onLines fun l => { l with pulse := { l.pulse with state := .valid, width := width } }).LinesFit n level :=
  { h with pulse := h.pulse.trans (by rw [state]; rfl), stuck := h.not_standing (by rw [state]; nofun) }

/-- A pulse too long is STUCK, with its report (R40, R55). -/
theorem State.LinesFit.pulseStuck (state : s.lines.pulse.state = .valid) : s.pulseStuck.LinesFit n level :=
  { h with
    setting := (by simp [State.setting] : s.pulseStuck.setting .curtailLineLevel = s.setting .curtailLineLevel).trans h.setting
    pulse := h.pulse.trans (by rw [state]; rfl)
    stuck := rfl
    estimated := fun _ => rfl }

theorem State.LinesFit.pulseMaximum : s.pulseMaximum.LinesFit n level := by
  unfold State.pulseMaximum
  split
  · next state => exact State.LinesFit.pulseStuck (s := s.onLines _) { h with } state
  · exact h

theorem State.LinesFit.pulseMinimum : s.pulseMinimum.LinesFit n level := by
  unfold State.pulseMinimum
  split
  · next state => exact h.toValid state _
  · exact h

theorem State.LinesFit.pulseReleased : s.pulseReleased.LinesFit n level := by
  unfold State.pulseReleased
  split
  · exact h
  · next state => exact { h with pulse := rfl, stuck := h.not_standing (by rw [state]; nofun) }
  · next state =>
    have clear : s.account.stuckStanding = false := h.not_standing (by rw [state]; nofun)
    exact { h with pulse := rfl, stuck := clear, estimated := fun standing => nomatch clear.symm.trans standing }
  · exact { h with pulse := rfl, stuck := rfl, estimated := nofun }

/-! ### The interval mark line -/

theorem State.LinesFit.markAsserted : s.markAsserted.LinesFit n level := by
  unfold State.markAsserted
  split
  · exact { h with mark := rfl }
  all_goals exact h

theorem State.LinesFit.markReleased : s.markReleased.LinesFit n level := by
  unfold State.markReleased
  split
  · exact h
  all_goals exact { h with mark := rfl }

theorem State.LinesFit.markQualifies : s.markQualifies.LinesFit n level := by
  unfold State.markQualifies
  split
  · next state =>
    exact State.LinesFit.intervalMark (s := s.onLines _) { h with mark := h.mark.trans (by rw [state]; rfl) }
  · exact h

/-! ### The curtail lines -/

/-- A code that is not the qualified one becomes the candidate and starts the stability timer (R58). -/
theorem State.LinesFit.curtailCodeRead (code : Fin 4) : (s.curtailCodeRead code).LinesFit n level := by
  by_cases same : code = s.lines.curtail.qualified
  · have read : (s.curtailCodeRead code).lines.curtail = { s.lines.curtail with candidate := none, stability := 0 } := if_pos same
    refine { h with stability := ?_, candidate := ?_, delivered := ?_, lineLevel := ?_ } <;> rw [read]
    exacts [⟨fun _ => rfl, fun _ => rfl⟩, nofun, h.delivered, h.lineLevel]
  · have read : (s.curtailCodeRead code).lines.curtail =
        { s.lines.curtail with candidate := some code, stability := stabilityTime } := if_neg same
    refine { h with stability := ?_, candidate := ?_, delivered := ?_, lineLevel := ?_ } <;> rw [read]
    exacts [⟨nofun, nofun⟩, fun eq => same (Option.some.inj eq), h.delivered, h.lineLevel]

/-- The level of the qualified code is delivered, whatever level stood before (R59, R100). -/
theorem State.LinesFit.deliverCurtail : s.deliverCurtail.LinesFit n (curtailLevel n) := by
  have reads : s.lineLevelOf s.lines.curtail.qualified = curtailLevel n s.lines.curtail.qualified := by rw [← h.setting]; rfl
  by_cases same : s.lineLevelOf s.lines.curtail.qualified = s.lines.curtail.delivered
  · rw [State.deliverCurtail_same same]
    exact { h with delivered := same.symm.trans reads }
  · rw [State.deliverCurtail_new rfl same]
    exact { h with delivered := reads, lineLevel := rfl }

/-! ### The power-fail line -/

theorem State.LinesFit.setPowerFail {state : PowerFailState} {timer : Millis}
    (runs : timer = 0 ↔ state = .normal ∨ state = .failed) : (s.setPowerFail state timer).LinesFit n level :=
  { h with powerFail := runs }

theorem State.LinesFit.powerFailRead (asserted : Bool) : (s.powerFailRead asserted).LinesFit n level := by
  unfold State.powerFailRead
  split
  · exact h.setPowerFail (by decide)
  · exact State.Sited.linesFit (.bump _ _) (h.setPowerFail (state := .normal) (timer := 0) (by decide))
  · exact h.setPowerFail (by decide)
  · exact State.Sited.linesFit (.bump _ _) (h.setPowerFail (state := .failed) (timer := 0) (by decide))
  all_goals exact h

theorem State.LinesFit.powerFailQualifies : s.powerFailQualifies.LinesFit n level := by
  unfold State.powerFailQualifies
  split
  · exact State.Sited.linesFit (.of_same (by simp)) (h.setPowerFail (state := .failed) (timer := 0) (by decide))
  · exact State.Sited.linesFit (.of_same (by simp)) (h.setPowerFail (state := .normal) (timer := 0) (by decide))
  all_goals exact h

/-! ### Changed settings -/

/-- Only setting 24 is of the curtail lines (R59, R170). -/
theorem State.LinesFit.settingChanged {x : Setting} (other : x ≠ .curtailLineLevel) : (s.settingChanged x).LinesFit n level := by
  cases x with
  | curtailLineLevel => exact absurd rfl other
  | fallbackCeiling =>
    simp only [State.settingChanged]
    split
    · exact { h with }
    · exact h
  | intervalLength => exact { h with }
  | minimumWidthCode =>
    simp only [State.settingChanged]
    split
    · next due => exact h.toValid due.1 s.lines.pulse.width
    · exact h
  | maximumWidthCode =>
    simp only [State.settingChanged]
    split
    · next due => exact h.pulseStuck due.1
    · exact h
  | congestionThreshold => exact State.Sited.linesFit (.of_same (by simp [State.settingChanged])) h
  | errorThreshold => exact { h with }
  | _ => exact h

end

/-- The qualified code may have changed, so its level is delivered anew (R58, R59). -/
theorem State.LinesFit.curtailQualifies {s : State} {n : Nat} (h : s.LinesFit n (curtailLevel n)) :
    s.curtailQualifies.LinesFit n (curtailLevel n) := by
  unfold State.curtailQualifies
  split
  · exact h
  · exact State.LinesFit.deliverCurtail (s := s.onLines _) (level := fun _ => s.lines.curtail.delivered)
      { h with stability := ⟨fun _ => rfl, fun _ => rfl⟩, candidate := nofun, delivered := rfl }

/-- The owner of setting 24 delivers the level anew; where setting 24 has not changed, the level delivered is that of the code. -/
theorem State.LinesFit.settingsChanged (l : List Setting) {s : State} {n : Nat} {level : Fin 4 → Nat} (h : s.LinesFit n level)
    (same : .curtailLineLevel ∉ l → level = curtailLevel n) :
    (l.foldl (fun s x => s.settingChanged x) s).LinesFit n (curtailLevel n) := by
  induction l generalizing s level with
  | nil => exact same List.not_mem_nil ▸ h
  | cons x rest ih =>
    by_cases other : x = .curtailLineLevel
    · subst other
      exact ih (State.LinesFit.deliverCurtail h) fun _ => rfl
    · exact ih (h.settingChanged other) fun out => same (by simp [out, Ne.symm other])

/-- The store's new contents are told to their owners (R170, R172). -/
theorem State.LinesFit.notifyChanges {before : Store} {s : State} {n : Nat}
    (h : s.LinesFit n (curtailLevel (before.setting .curtailLineLevel))) :
    (s.notifyChanges before).LinesFit n (curtailLevel n) := by
  obtain ⟨x, sited, store, eq⟩ := s.notifyChanges_site before
  rw [eq]
  refine (sited.linesFit h).settingsChanged _ fun unchanged => ?_
  have setting : s.store.setting .curtailLineLevel = before.setting .curtailLineLevel := by
    simpa [List.mem_filter, mem_settings] using unchanged
  rw [← setting, ← h.setting]
  rfl

theorem State.LinesFit.writeCompletes {s : State} {n : Nat} (h : s.LinesFit n (curtailLevel n)) : s.writeCompletes.linesValid := by
  unfold State.writeCompletes
  obtain rfl := h.setting
  split
  · exact (State.linesValid_iff _).mpr ⟨_, State.LinesFit.notifyChanges { h with setting := rfl }⟩
  · exact s.linesValid_iff.mpr ⟨_, h⟩

theorem State.LinesFit.eraseCompletes {s : State} {n : Nat} (h : s.LinesFit n (curtailLevel n)) : s.eraseCompletes.linesValid := by
  unfold State.eraseCompletes
  obtain rfl := h.setting
  split
  · have told := State.LinesFit.notifyChanges (before := s.store)
      (s := (s.onStore fun d => d.erase.complete).bump .erasesCompleted) { h with setting := rfl }
    exact (State.linesValid_iff _).mpr ⟨_, State.Sited.linesFit (.when (.of_same (by simp))) told⟩
  · exact s.linesValid_iff.mpr ⟨_, h⟩

/-! ### Every step -/

theorem State.afterReset_linesFit (store : Store) (pins : Pins) (cause : ResetCause) (drawn : Nat) (pending : List Instr) :
    ∃ n, (State.afterReset store pins cause drawn pending).LinesFit n (curtailLevel n) := by
  have lines : (State.afterReset store pins cause drawn pending).lines = _ := Lines.afterReset_eq pins
  refine ⟨_, {
    setting := rfl, delivered := rfl, lineLevel := rfl, pulse := rfl, mark := rfl, stuck := rfl, estimated := nofun
    stability := ?_, candidate := ?_, powerFail := ?_ }⟩ <;> rw [lines]
  · split <;> simp
  · by_cases away : pins.curtail = 0 <;> simp [away]
  · cases pins.powerFail <;> simp

theorem State.LinesFit.advance {s : State} {n : Nat} {level : Fin 4 → Nat} (h : s.LinesFit n level) :
    s.advance.LinesFit n level := { h with
  stability := h.stability.trans countDown_eq_zero.symm
  powerFail := countDown_eq_zero.trans h.powerFail }

theorem State.SiteEvent.linesValid {s t : State} (event : s.SiteEvent t) (valid : s.linesValid) : t.linesValid := by
  obtain ⟨n, h⟩ := s.linesValid_iff.mp valid
  have kept : ∀ {t : State}, t.LinesFit n (curtailLevel n) → t.linesValid := fun fit => (State.linesValid_iff _).mpr ⟨n, fit⟩
  cases event with
  | quiet sited => exact kept (sited.linesFit h)
  | ceiling word => exact kept (State.Sited.linesFit (.answer _ _ _ _) (s := s.onAccount _) { h with })
  | evaluation => exact kept h.evaluate
  | rateWindow => exact kept { h with }
  | silence => exact kept h.silenceExpires
  | supervision =>
    unfold State.supervisionLapses
    split
    · exact kept (State.Sited.linesFit (.bump _ _) (s := s.onAccount _) { h with })
    · exact valid
  | debounce line asserted => cases line <;> exact kept { h with }
  | pulseAsserted => exact kept h.pulseAsserted
  | pulseMinimum => exact kept h.pulseMinimum
  | pulseMaximum => exact kept h.pulseMaximum
  | pulseReleased => exact kept h.pulseReleased
  | markAsserted => exact kept h.markAsserted
  | markReleased => exact kept h.markReleased
  | markQualifies => exact kept h.markQualifies
  | curtailRead code => exact kept (h.curtailCodeRead code)
  | curtailQualifies => exact kept h.curtailQualifies
  | powerFailRead asserted => exact kept (h.powerFailRead asserted)
  | powerFailQualifies => exact kept h.powerFailQualifies
  | writeCompletes => exact h.writeCompletes
  | eraseCompletes => exact h.eraseCompletes
  | reset contents pins cause drawn pending _ =>
    exact (State.linesValid_iff _).mpr (State.afterReset_linesFit contents pins cause drawn pending)

theorem exec_linesValid {i : Instr} {s t : State} (h : exec i s = .next t) (valid : s.linesValid) : t.linesValid := by
  obtain ⟨pins, x, event, sited⟩ := exec_site h
  obtain ⟨n, fit⟩ := x.linesValid_iff.mp (event.linesValid (s := { s with pins := pins }) valid)
  exact (State.linesValid_iff _).mpr ⟨n, sited.linesFit fit⟩

end Sys2Proof.Machine

namespace Sys2Proof.Proofs
open Sys2Proof.Machine

/-- Settles O17: each event leaves the records in agreement, and the level is delivered anew wherever the qualified code or
setting 24 may have changed (`State.LinesFit.deliverCurtail`). -/
theorem linesKept : Obligations.LinesKept := fun s t stepped holds => by
  refine step_keeps (P := fun x => x.linesValid) ?_ ?_ ?_ stepped holds
  · exact fun _ _ _ h => h
  · intro x valid
    obtain ⟨n, h⟩ := x.linesValid_iff.mp valid
    exact (State.linesValid_iff _).mpr ⟨n, h.advance⟩
  · exact fun _ _ _ => exec_linesValid

end Sys2Proof.Proofs
end
